-- ==== Sys2Proof/Word.lean ====
section
/-! DEFINITION. The plain word types of the model. -/

namespace Sys2Proof

/-- One byte of the serial link (R184). -/
abbrev Byte := BitVec 8

/-- A two-byte number of a frame body (R184). -/
abbrev Half := BitVec 16

/-- A four-byte number of a frame body (R184). -/
abbrev Wide := BitVec 32

/-- The 384 dots of one printed row, dot 1 (leftmost) at bit 0 (section 9.3). -/
abbrev Dots := BitVec 384

/-- One row of a glyph, its leftmost column at bit 0 (section 9.3). -/
abbrev GlyphRow := BitVec 12

end Sys2Proof
end

