-- ==== Sys2Proof/Config.lean ====
section
/-! DEFINITION. What the manual fixes in the part and does not list. Every constant here is a free value:
it has no body, and no proof can see what it is. -/

namespace Sys2Proof

/-- The dots of glyph row `row` (0 is the top one) of the character `char`, for the 94 characters 0x21..0x7E,
whose patterns "are fixed in the part and are not listed in this manual" (section 9.3). Free value, log 11. -/
opaque Config.glyph (char : Byte) (row : Nat) : GlyphRow

/-- Which of the 26 capital letters the silicon revision is (R203, "one capital letter, fixed in the part").
Free value, log 12. -/
opaque Config.revisionIndex : Fin 26

/-- The check byte of the stored settings image, computed from the values of the 28 numeric settings and the
eight texts in id order (R200 says that it is computed from them, not how). Free value, log 13. -/
opaque Config.settingsCheck (numbers : List Int) (texts : List (List Byte)) : Byte

/-- The check byte of a stored calibration record, computed from its fields (R201 says that it is computed from
them, not how). Free value, log 13. -/
opaque Config.recordCheck (calZero spanCounts calLoadT : Option Int) (profile : Option Nat) (calCount : Nat) : Byte

end Sys2Proof
end

