-- ==== Sys2Proof/Syntax.lean ====
section
/-! DEFINITION. The commands of the LC-410: one constructor of `Instr` for each row of spec/opcode_table.json,
and the operand forms they carry. A request command carries the TAG of its frame and the fields of its kind, each
at the width the frame gives it (R184). -/

namespace Sys2Proof

/-- The two weighing channels (chapter 1). -/
inductive ChannelId where
  | platter
  | bag
  deriving DecidableEq, Repr

/-- The two read heads of the card swipe (R97). -/
inductive HeadId where
  | alpha
  | numeric
  deriving DecidableEq, Repr

/-- A line record as a PRINT_TEXT frame carries it (R149, R151): the choices are bytes that have not been judged. -/
inductive LineArg where
  | text (chars : List Byte) (width height bold align : Byte)
  | feed (rows : Byte)
  | cut
  | unknown (kind : Byte)
  deriving DecidableEq, Repr

/-- The value a SET carries: four bytes signed, or a text (R197). -/
inductive SettingArg where
  | number (value : Wide)
  | text (chars : List Byte)
  deriving DecidableEq, Repr

/-- Three samples of one bit of a character (R183). -/
structure Sample where
  first  : Bool
  second : Bool
  third  : Bool
  deriving DecidableEq, Repr

/-- A character on the link as the receiver samples it (R182, R183): each bit three times, in the order in which they
come. The 8 data bits come least significant first, so place 0 of `data` is bit 0 of the byte. The parity samples count
only while a parity bit is in force. -/
structure LineChar where
  start  : Sample
  data   : Vector Sample 8
  parity : Sample
  stop   : Sample
  deriving DecidableEq, Repr

/-- The levels the part reads at power-on and at the carrying out of a restart (R2, R52, R120, R137, R165). -/
structure StartInputs where
  calEnable         : Bool
  platterExcitation : Bool
  bagExcitation     : Bool
  drawerOpen        : Bool
  paperOut          : Bool
  coverOpen         : Bool
  paperLow          : Bool
  headTemp          : Int
  supplyBelow20     : Bool
  cutterHome        : Bool
  deriving DecidableEq, Repr

/-- A request with the fields of its body (the summary of section 10.5). -/
inductive Request where
  | readWeight (channel : Byte)
  | zero (channel : Byte)
  | calZero (channel : Byte)
  | calSpan (channel : Byte) (load : Wide)
  | setProfile (profile : Byte)
  | setTare (weight : Wide)
  | takeTare
  | clearTare
  | weighItem (description : List Byte) (unitPrice : Wide) (tare : Option Wide)
  | cancelWeigh
  | openSale (number : Wide)
  | addItem (description : List Byte) (amount : Wide) (expected tolerance : Option Half)
  | voidEntry (entry : Byte)
  | beginTender
  | resumeSale
  | addCash (amount : Wide)
  | addCardTender (amount : Wide)
  | cardDecision (decision : Byte)
  | closeSale
  | abandonSale
  | reprint
  | readSale
  | readEntry (entry : Byte)
  | readTender (position : Byte)
  | clearException (id : Byte)
  | waiveBagging (entry : Byte)
  | bagResync
  | readBagging (first : Byte)
  | releaseCard
  | discardCard
  | readCard
  | noSale
  | drawerReset
  | readDrawer
  | beep (frequency onTime : Half) (count : Byte)
  | readSupply
  | printText (lines : List LineArg)
  | printerClear
  | readPrintQueue
  | readPrinter
  | set (id : Byte) (value : SettingArg)
  | get (id : Byte)
  | saveSettings
  | restart
  | identify
  deriving DecidableEq, Repr

/-- The commands: one constructor for each row of spec/opcode_table.json. -/
inductive Instr where
  | powerOn (levels : StartInputs)
  | readWeight (tag channel : Byte)
  | zero (tag channel : Byte)
  | calZero (calEnable : Bool) (tag channel : Byte)
  | calSpan (calEnable : Bool) (tag channel : Byte) (load : Wide)
  | setProfile (calEnable : Bool) (tag profile : Byte)
  | setTare (tag : Byte) (weight : Wide)
  | takeTare (tag : Byte)
  | clearTare (tag : Byte)
  | weighItem (tag : Byte) (description : List Byte) (unitPrice : Wide) (tare : Option Wide)
  | cancelWeigh (tag : Byte)
  | openSale (tag : Byte) (number : Wide)
  | addItem (tag : Byte) (description : List Byte) (amount : Wide) (expected tolerance : Option Half)
  | voidEntry (tag entry : Byte)
  | beginTender (tag : Byte)
  | resumeSale (tag : Byte)
  | addCash (tag : Byte) (amount : Wide)
  | addCardTender (tag : Byte) (amount : Wide)
  | cardDecision (tag decision : Byte)
  | closeSale (tag : Byte)
  | abandonSale (tag : Byte)
  | reprint (tag : Byte)
  | readSale (tag : Byte)
  | readEntry (tag entry : Byte)
  | readTender (tag position : Byte)
  | clearException (tag id : Byte)
  | waiveBagging (tag entry : Byte)
  | bagResync (tag : Byte)
  | readBagging (tag first : Byte)
  | releaseCard (tag : Byte)
  | discardCard (tag : Byte)
  | readCard (tag : Byte)
  | noSale (tag : Byte)
  | drawerReset (tag : Byte)
  | readDrawer (tag : Byte)
  | beep (tag : Byte) (frequency onTime : Half) (count : Byte)
  | readSupply (tag : Byte)
  | printText (tag : Byte) (lines : List LineArg)
  | printerClear (tag : Byte)
  | readPrintQueue (tag : Byte)
  | readPrinter (tag : Byte)
  | set (tag id : Byte) (value : SettingArg)
  | get (tag id : Byte)
  | saveSettings (tag : Byte)
  | restart (tag : Byte)
  | identify (tag : Byte)
  | unknownRequest (kind tag : Byte) (body : List Byte)
  | sampleArrival (channel : ChannelId) (sample : Int)
  | excitationLost (channel : ChannelId)
  | excitationReturn (channel : ChannelId)
  | weighTimerExpiry
  | attendantSwitch (on : Bool)
  | bagTimerExpiry (entry : Nat)
  | graceTimerExpiry
  | swipeBegin (head : HeadId)
  | swipeEnd
  | holdTimerExpiry
  | senseChange (isOpen : Bool)
  | pullInEnd
  | holdEnd
  | pwmPeriodBoundary
  | coolEnd
  | alarmTimerExpiry
  | toggleCounterExpiry
  | patternStepEnd
  | supplyLow
  | supplyRecovery
  | paperSensor (out : Bool)
  | coverSensor (isOpen : Bool)
  | paperLowSensor (low : Bool)
  | headTemperature (reading : Int)
  | phaseEnd
  | stepEnd
  | homeSensorReturn
  | cutTimerExpiry
  | receiveFrame (bytes : List Byte)
  | frameGap
  | lineBreak
  | writeEnd
  | replySent
  | reportSent
  | lineSettingsChange
  | restartCarriedOut (levels : StartInputs)
  | fluxTransition (head : HeadId) (elapsed : Nat)
  | characterReceived (char : LineChar)
  | homeSensorAway
  | powerLoss
  deriving DecidableEq, Repr

end Sys2Proof
end

