-- ==== Sys2Proof/Machine/State.lean ====
section
/-! DEFINITION. The state of the LC-410 as plain data, block by block as section 3 of the manual lists them, the
replies and reports it forms, and the state right after reset. -/

namespace Sys2Proof.Machine

/-! ### Weighing channels (chapters 1 and 2) -/

/-- Capacity profiles of the platter (R27). -/
inductive Profile where
  | a
  | b
  | c
  deriving DecidableEq, Repr

/-- The condition of a weighing channel (section 1.2). -/
inductive ChannelCondition where
  | uncalibrated
  | starting
  | noZero
  | ready
  | overload
  | underload
  | fault
  deriving DecidableEq, Repr

/-- Saturation of a filter output (R4). -/
inductive Saturation where
  | no
  | high
  | low
  deriving DecidableEq, Repr

/-- The two fields of a calibration record that are present together (R17). -/
structure Span where
  counts : Int
  loadT  : Int
  deriving DecidableEq, Repr

/-- A calibration record (R17). `profile` is the platter's alone. -/
structure CalRecord where
  calZero  : Option Int
  span     : Option Span
  profile  : Option Profile
  calCount : Nat
  deriving DecidableEq, Repr

/-- What a channel keeps of its latest filter output (section 1.2). -/
structure FilterOutput where
  filtered  : Int
  fineGross : Option Int
  saturated : Saturation
  stable    : Bool
  deriving DecidableEq, Repr

/-- The state of one weighing channel (section 1.2). -/
structure Channel where
  condition     : ChannelCondition
  converterOn   : Bool
  settling      : Nat
  filterRing    : List Int
  filterSum     : Int
  latest        : Option FilterOutput
  stabilityRing : List Int
  zeroRef       : Option Int
  powerUpZero   : Option Int
  trackingCount : Nat
  record        : CalRecord
  deriving DecidableEq, Repr

/-- Platter occupancy (section 2.4). -/
inductive Occupancy where
  | empty
  | loaded
  | locked
  deriving DecidableEq, Repr

/-- The weigh request in flight (section 2.5); `timer` is the time remaining of its weigh timer in ms. -/
structure WeighRequest where
  description : List Byte
  unitPrice   : Int
  timer       : Nat
  deriving DecidableEq, Repr

/-- What the Platter Channel holds beside its signal path (chapter 2). -/
structure PlatterScale where
  tareT     : Int
  occupancy : Occupancy
  weigh     : Option WeighRequest
  deriving DecidableEq, Repr

/-- Results of a weigh request (R48, R49). -/
inductive WeighResult where
  | ok
  | timeout
  | cancelled
  | saleEnded
  | channelFault
  | priceLimit
  | totalLimit
  deriving DecidableEq, Repr

/-! ### The sale record (chapter 3) -/

/-- Sale states as reports and replies name them (section 3.1). -/
inductive SaleState where
  | idle
  | opened
  | tender
  deriving DecidableEq, Repr

/-- Causes of a SALE_STATE report (R51). -/
inductive SaleCause where
  | opened
  | tenderBegun
  | resumed
  | closed
  | abandoned
  deriving DecidableEq, Repr

/-- Kinds of basket entry (R54). -/
inductive EntryKind where
  | scanned
  | weighed
  | void
  deriving DecidableEq, Repr

/-- Bagging status of a basket entry (section 4.1). -/
inductive BaggingStatus where
  | none
  | pending
  | overdue
  | bagged
  | removed
  | awaitRemoval
  | removalOverdue
  | cleared
  | waived
  deriving DecidableEq, Repr

/-- The weighing part of a WEIGHED entry (R43, R54). -/
structure WeighingPart where
  netG      : Int
  tareG     : Int
  divisionG : Int
  unitPrice : Int
  profile   : Profile
  deriving DecidableEq, Repr

/-- One line of the basket (R54). -/
structure Entry where
  number      : Nat
  kind        : EntryKind
  description : List Byte
  amount      : Int
  voided      : Bool
  voids       : Option Nat
  weighing    : Option WeighingPart
  expected    : Option Nat
  tolerance   : Option Nat
  status      : BaggingStatus
  deriving DecidableEq, Repr

/-- The masked account: its length and its last four digits (R109). -/
structure MaskedAccount where
  length : Nat
  last4  : List Nat
  deriving DecidableEq, Repr

/-- Kinds of tender (R62). -/
inductive TenderKind where
  | cash
  | card
  deriving DecidableEq, Repr

/-- States of a tender (R62). -/
inductive TenderState where
  | accepted
  | pending
  | approved
  deriving DecidableEq, Repr

/-- One payment toward a sale (R62). -/
structure Tender where
  kind   : TenderKind
  amount : Int
  state  : TenderState
  masked : Option MaskedAccount
  deriving DecidableEq, Repr

/-- The record of a sale (R53, R54, R55, R62). -/
structure SaleRecord where
  number  : Int
  basket  : List Entry
  total   : Int
  tenders : List Tender
  deriving DecidableEq, Repr

/-- The Sale Controller's state with the open record it implies (section 3.1): none in IDLE, one in OPEN and
TENDER. -/
inductive CurrentSale where
  | idle
  | opened (record : SaleRecord)
  | tender (record : SaleRecord)
  deriving DecidableEq, Repr

/-- Receipt state of a closed slot that is not empty (section 3.9). -/
inductive ReceiptState where
  | pending
  | done
  | aborted
  deriving DecidableEq, Repr

/-- The closed slot when it holds a sale (R67). -/
structure ClosedSale where
  record    : SaleRecord
  changeDue : Int
  receipt   : ReceiptState
  deriving DecidableEq, Repr

/-- The Sale Controller (chapter 3). -/
structure SaleBlock where
  current : CurrentSale
  closed  : Option ClosedSale
  deriving DecidableEq, Repr

/-! ### Bagging Monitor (chapter 4) -/

/-- Direction of an expectation (section 4.3). -/
inductive Direction where
  | add
  | remove
  deriving DecidableEq, Repr

/-- An expectation (section 4.3). `timer` is the time remaining of its bag timer in ms, absent once expired;
`order` is the model's own and numbers the expectations as they are created (R76: that order is total). -/
structure Expectation where
  entry     : Nat
  direction : Direction
  weight    : Nat
  tolerance : Nat
  createdAt : Nat
  order     : Nat
  timer     : Option Nat
  deriving DecidableEq, Repr

/-- The unclaimed delta with the time remaining of its grace timer in ms (R84). -/
structure Unclaimed where
  amount : Nat
  grace  : Nat
  deriving DecidableEq, Repr

/-- Kinds of exception (R86). -/
inductive ExceptionKind where
  | unexpectedItem
  | itemRemoved
  | unknownRemoval
  | itemNotBagged
  | voidNotRemoved
  deriving DecidableEq, Repr

/-- An exception (R86). -/
structure BagException where
  id    : Nat
  kind  : ExceptionKind
  entry : Option Nat
  delta : Option Int
  deriving DecidableEq, Repr

/-- The Bagging Monitor (section 4.1). Its alert request is held in the Tone Generator. -/
structure Monitor where
  expectations    : List Expectation
  unclaimed       : Option Unclaimed
  exceptions      : List BagException
  suspended       : Bool
  nextExceptionId : Nat
  nextOrder       : Nat
  deriving DecidableEq, Repr

/-- Causes of an ENTRY_BAGGING report (R94). -/
inductive BaggingCause where
  | appended
  | matched
  | timeout
  | voided
  | attendant
  | waived
  deriving DecidableEq, Repr

/-- Actions of a BAG_EXCEPTION report (R95). -/
inductive ExceptionAction where
  | raised
  | cleared
  | suspended
  | allCleared
  deriving DecidableEq, Repr

/-- Causes of a BAG_EXCEPTION report (R95). -/
inductive ExceptionCause where
  | matched
  | voided
  | attendant
  | waived
  | resync
  | saleEnded
  deriving DecidableEq, Repr

/-! ### Card Reader (chapter 5) -/

/-- The decoder of a track (section 5.2): SEEKING with the intervals of the attempt so far, oldest first; LOCKED with
the period P and the half pending; CLOCK_LOST and TOO_LONG with the P they stopped at. -/
inductive Decoder where
  | seeking (attempt : List Nat)
  | locked (period : Nat) (half : Option Nat)
  | clockLost (period : Nat)
  | tooLong (period : Nat)
  deriving DecidableEq, Repr

/-- One read head and its track: the capture timer in microseconds (R97), whether the swipe has shown a transition
(R98), the decoder and the bit buffer (R102). -/
structure Track where
  timer   : Nat
  seen    : Bool
  decoder : Decoder
  bits    : List Bool
  deriving DecidableEq, Repr

/-- Gap states of the reader (R98). -/
inductive GapState where
  | armed
  | swipe
  deriving DecidableEq, Repr

/-- Track status of a decoded swipe (R106). -/
inductive TrackStatus where
  | absent
  | good
  | clockLost
  | tooLong
  | noStart
  | parity
  | noEnd
  | lrc
  deriving DecidableEq, Repr

/-- Direction of a GOOD track (R105). -/
inductive SwipeDirection where
  | forward
  | reverse
  deriving DecidableEq, Repr

/-- What the slot holds of one track (R112): for a GOOD track its characters' values and its direction. -/
structure TrackData where
  status    : TrackStatus
  chars     : List Nat
  direction : Option SwipeDirection
  deriving DecidableEq, Repr

/-- The track an account was taken from (R107). -/
inductive Source where
  | numeric
  | alpha
  deriving DecidableEq, Repr

/-- The full track data of a card (R112). -/
structure CardData where
  numeric : TrackData
  alpha   : TrackData
  digits  : List Nat
  source  : Source
  deriving DecidableEq, Repr

/-- The card slot (section 5.6). Full track data is present in HELD and ATTACHED alone; `timer` is the hold time
remaining in ms. -/
inductive CardSlot where
  | empty
  | held (data : CardData) (masked : MaskedAccount) (timer : Nat)
  | attached (data : CardData) (masked : MaskedAccount)
  | released (source : Source) (masked : MaskedAccount)
  deriving DecidableEq, Repr

/-- Verdicts of a swipe (R110). -/
inductive Verdict where
  | good
  | bad
  | ignoredBusy
  deriving DecidableEq, Repr

/-- Reasons of a BAD swipe (R107). -/
inductive BadReason where
  | noGoodTrack
  | accountCharacter
  | accountLength
  | accountCheck
  deriving DecidableEq, Repr

/-- The Card Reader (chapter 5). -/
structure Reader where
  gap      : GapState
  decoded  : Bool
  gapTimer : Nat
  alpha    : Track
  numeric  : Track
  slot     : CardSlot
  deriving DecidableEq, Repr

/-! ### Drawer, tone and supply (chapters 6 and 7) -/

/-- Drawer states (section 6.2). -/
inductive DrawerState where
  | closed
  | waitSupply
  | pullIn
  | hold
  | cool
  | opened
  | openAlarm
  | jammed
  deriving DecidableEq, Repr

/-- Who sent a kick (R122). -/
inductive KickSource where
  | closeSale
  | noSale
  deriving DecidableEq, Repr

/-- Causes of a DRAWER_STATE report (R132). -/
inductive DrawerCause where
  | kick
  | kickSkipped
  | pullEnd
  | holdEnd
  | senseOpen
  | senseClosed
  | coolEnd
  | alarm
  | forced
  | reset
  | granted
  deriving DecidableEq, Repr

/-- The Drawer Controller (section 6.2). `senseOpen` is the debounced sense; the units held are in the arbiter. -/
structure Drawer where
  state       : DrawerState
  senseOpen   : Bool
  attempts    : Nat
  phaseTimer  : Option Nat
  alarmTimer  : Option Nat
  dutyInForce : Nat
  pendingDuty : Nat
  kickSource  : Option KickSource
  deriving DecidableEq, Repr

/-- Owners of the tone output (section 6.7). -/
inductive ToneOwner where
  | none
  | drawerAlarm
  | bagAlert
  | cardBeep
  | beep
  deriving DecidableEq, Repr

/-- Parameters of a BEEP (R136). -/
structure BeepParams where
  frequency : Nat
  onTime    : Nat
  count     : Nat
  deriving DecidableEq, Repr

/-- Pattern position: the step of the owner's pattern and the ms remaining in it (section 6.7). -/
structure PatternPosition where
  step      : Nat
  remaining : Nat
  deriving DecidableEq, Repr

/-- The Tone Generator (section 6.7). `level` is high or low; `toggleCounter` is the value last loaded, 0 when the
counter is stopped. -/
structure Tone where
  owner           : ToneOwner
  drawerAlarmHeld : Bool
  bagAlertHeld    : Bool
  position        : Option PatternPosition
  sounding        : Bool
  level           : Bool
  halfPeriod      : Nat
  pendingHalf     : Option Nat
  toggleCounter   : Nat
  beep            : Option BeepParams
  deriving DecidableEq, Repr

/-- The four requesters of the Supply Arbiter, in precedence (section 7.1). -/
inductive Requester where
  | drawer
  | cutter
  | motor
  | head
  deriving DecidableEq, Repr

/-- Units granted to each requester (section 7.1). -/
structure Grants where
  drawer : Nat
  cutter : Nat
  motor  : Nat
  head   : Nat
  deriving DecidableEq, Repr

/-- The need of each requester's waiting request (section 7.1). -/
structure Needs where
  drawer : Option Nat
  cutter : Option Nat
  motor  : Option Nat
  head   : Option Nat
  deriving DecidableEq, Repr

/-- The Supply Arbiter (section 7.1). `low` is the supply state SUPPLY_LOW. -/
structure Supply where
  budget  : Nat
  low     : Bool
  granted : Grants
  waiting : Needs
  deriving DecidableEq, Repr

/-- Causes of a SUPPLY_STATE report (R145). -/
inductive SupplyCause where
  | low
  | recovered
  | budget
  deriving DecidableEq, Repr

/-! ### Print Queue and Print Engine (chapters 8 and 9) -/

/-- Alignment of a TEXT record (R149). -/
inductive Align where
  | left
  | centre
  | right
  deriving DecidableEq, Repr

/-- A line record (R149). -/
inductive LineRecord where
  | text (chars : List Byte) (doubleWidth doubleHeight bold : Bool) (align : Align)
  | feed (rows : Nat)
  | cut
  deriving DecidableEq, Repr

/-- The set of pause causes (R166). -/
structure Causes where
  paperOut  : Bool
  coverOpen : Bool
  headHot   : Bool
  supplyLow : Bool
  deriving DecidableEq, Repr

/-- One pause cause (R166). -/
inductive PauseCause where
  | paperOut
  | coverOpen
  | headHot
  | supplyLow
  deriving DecidableEq, Repr

/-- Kinds of print job (R147). -/
inductive JobKind where
  | text
  | original
  | copy
  deriving DecidableEq, Repr

/-- States of a print job; DONE and ABORTED are taken only as a job leaves the list (R147). -/
inductive JobState where
  | queued
  | printing
  | paused
  | done
  | aborted
  deriving DecidableEq, Repr

/-- The settings a receipt job copies at its acceptance (R156). -/
structure ReceiptSettings where
  decimals : Nat
  headers  : List (List Byte)
  trailers : List (List Byte)
  deriving DecidableEq, Repr

/-- A print job (R147). `records` are the line records a TEXT job holds in the store. -/
structure Job where
  id         : Nat
  kind       : JobKind
  state      : JobState
  reasons    : Causes
  lineCount  : Nat
  cursor     : Nat
  records    : List LineRecord
  saleNumber : Option Int
  settings   : Option ReceiptSettings
  deriving DecidableEq, Repr

/-- The Print Queue (section 8.1). -/
structure PrintQueue where
  jobs      : List Job
  nextJobId : Nat
  deriving DecidableEq, Repr

/-- Causes of a PRINT_JOB report (R162). -/
inductive JobCause where
  | accepted
  | started
  | paused
  | resumed
  | done
  | cleared
  deriving DecidableEq, Repr

/-- Printer conditions (R167). The fault reason is CUTTER_JAM in FAULT and absent otherwise (R165). -/
inductive PrinterCondition where
  | idle
  | printing
  | paused
  | fault
  deriving DecidableEq, Repr

/-- Events a PRINTER_STATE report names (R181). -/
inductive PrinterEvent where
  | causeRaised
  | causeGone
  | jobStarted
  | jobEnded
  | jammed
  | faultLeft
  | paperLow
  deriving DecidableEq, Repr

/-- Temperature bands (R171). -/
inductive Band where
  | a
  | b
  | c
  | d
  | e
  | f
  | g
  deriving DecidableEq, Repr

/-- The line in progress (R165): its record, the rows of it that have ended, the spacing rows read for it and its
interrupted mark. -/
structure LineProgress where
  record      : LineRecord
  rowsDone    : Nat
  spacing     : Nat
  interrupted : Bool
  deriving DecidableEq, Repr

/-- The row in progress (R165): its black dots, the dots of each class still to be strobed, its strobe times in
microseconds, its pause mark and the paper steps that have ended. -/
structure RowProgress where
  dots      : Dots
  newLeft   : Dots
  histLeft  : Dots
  newTime   : Nat
  histTime  : Nat
  pauseMark : Bool
  stepsDone : Nat
  deriving DecidableEq, Repr

/-- The strobe phase in progress (R172): the dots strobed and for how many microseconds. -/
structure PhaseProgress where
  dots     : Dots
  duration : Nat
  deriving DecidableEq, Repr

/-- Cutter states (R165). -/
inductive Cutter where
  | rest
  | waiting
  | cutting
  | jammed
  deriving DecidableEq, Repr

/-- The Print Engine (R165). `stepRunning` is the period of the paper step in progress; `seenAway` says whether the
home sensor has read away since the cutter's grant (R177); `abandoned` is the model's own mark that the phase, step
or cut cycle in progress belongs to a line abandoned by PRINTER_CLEAR (R180). -/
structure Engine where
  condition     : PrinterCondition
  causes        : Causes
  paperLow      : Bool
  line          : Option LineProgress
  row           : Option RowProgress
  phase         : Option PhaseProgress
  stepRunning   : Option Nat
  memory        : Dots
  band          : Band
  speedIndex    : Nat
  periodInForce : Nat
  pendingPeriod : Nat
  cutter        : Cutter
  seenAway      : Bool
  cutTimer      : Option Nat
  clearTaken    : Bool
  abandoned     : Bool
  deriving DecidableEq, Repr

/-! ### Settings Store (chapter 11) -/

/-- Line parity (R182). -/
inductive Parity where
  | none
  | even
  | odd
  deriving DecidableEq, Repr

/-- The 36 settings, in id order (R197). -/
structure Settings where
  platterSampleRate   : Nat
  bagSampleRate       : Nat
  platterFilterLen    : Nat
  bagFilterLen        : Nat
  platterStableLen    : Nat
  bagStableLen        : Nat
  bagBand             : Nat
  bagThreshold        : Nat
  weighTimeout        : Nat
  tarePerItem         : Bool
  bagTolAbs           : Nat
  bagTolPct           : Nat
  bagTimeout          : Nat
  bagGrace            : Nat
  cardReaderEnable    : Bool
  cardHold            : Nat
  drawerSensePresent  : Bool
  drawerCloseRequired : Bool
  drawerPullMs        : Nat
  drawerHoldMs        : Nat
  drawerHoldDuty      : Nat
  drawerAlarmS        : Nat
  supplyBudget        : Nat
  amountDecimals      : Nat
  header1             : List Byte
  header2             : List Byte
  header3             : List Byte
  header4             : List Byte
  trailer1            : List Byte
  trailer2            : List Byte
  trailer3            : List Byte
  trailer4            : List Byte
  printDensity        : Nat
  lineSpacing         : Nat
  linkRate            : Nat
  linkParity          : Parity
  deriving DecidableEq, Repr

/-- A copy in non-volatile memory (R200, R201): never written, cut off by a loss of power, or written whole with its
check byte. -/
inductive StoredCopy (α : Type) where
  | neverWritten
  | cutOff
  | written (value : α) (check : Byte)
  deriving DecidableEq, Repr

/-- The store write in progress (R191): the settings image or one calibration record, with the values it writes. -/
inductive StoreWrite where
  | image (values : Settings)
  | record (channel : ChannelId) (values : CalRecord)
  deriving DecidableEq, Repr

/-- The Settings Store (chapter 11). -/
structure Store where
  live        : Settings
  image       : StoredCopy Settings
  platterCopy : StoredCopy CalRecord
  bagCopy     : StoredCopy CalRecord
  write       : Option StoreWrite
  deriving DecidableEq, Repr

/-! ### Host Link (chapter 10) -/

/-- Statuses of a reply (R192). -/
inductive Status where
  | ok
  | adjusted
  | busy
  | badState
  | badLength
  | badValue
  | unknownRequest
  | notAttended
  | notCalibrated
  | calDisabled
  | exceptionPending
  | limit
  | noCard
  | printerBacklog
  | drawerOpen
  | queueFull
  | notFound
  deriving DecidableEq, Repr

/-- Reasons of a LINK_ERROR (R186). -/
inductive LinkErrorReason where
  | noise
  | framing
  | parity
  | lenRange
  | check
  | noEof
  | frameGap
  | lineBreak
  | rxOverrun
  | rateChange
  deriving DecidableEq, Repr

/-- Causes of a RESTARTED report (R201). -/
inductive StartCause where
  | powerOn
  | request
  deriving DecidableEq, Repr

/-- The reports of section 10.5, each with the fields its rule lists. -/
inductive Report where
  | channelState (channel : ChannelId) (condition left : ChannelCondition)
  | platterState (state left : Occupancy)
  | weighDone (result : WeighResult) (entry : Option Nat) (netG price : Option Int)
  | saleState (state left : SaleState) (cause : SaleCause) (number total : Int) (change : Option Int)
  | entryBagging (entry : Nat) (status : BaggingStatus) (left : Option BaggingStatus) (cause : BaggingCause)
  | bagException (action : ExceptionAction) (id : Option Nat) (kind : Option ExceptionKind) (entry : Option Nat)
      (delta : Option Int) (cause : Option ExceptionCause) (held : Nat) (suspended : Bool)
      (waivedRemoved : Option (Nat × Nat))
  | cardRead (verdict : Verdict) (numeric alpha : TrackStatus) (numericDirection alphaDirection : Option SwipeDirection)
      (reason : Option BadReason) (source : Option Source) (masked : Option MaskedAccount) (replaced : Option Bool)
  | cardExpired (masked : MaskedAccount)
  | drawerState (state left : DrawerState) (cause : DrawerCause) (attempts : Nat) (source : Option KickSource)
  | supplyState (low leftLow : Bool) (cause : SupplyCause) (budget granted : Nat)
  | printJob (id : Nat) (kind : JobKind) (state : JobState) (left : Option JobState) (cause : JobCause)
      (reasons : Option Causes) (saleNumber : Option Int) (linesDone lineCount : Nat)
  | printerState (condition left : PrinterCondition) (causes : Causes) (paperLow : Bool) (event : PrinterEvent)
      (cause : Option PauseCause)
  | linkError (reason : LinkErrorReason) (kind tag : Option Byte)
  | settingsState
  | restarted (cause : StartCause) (stored platterPassed platterValid bagPassed bagValid : Bool)
  deriving DecidableEq, Repr

/-- A report with bit 0 of its flags byte (R193). -/
structure QueuedReport where
  lostBefore : Bool
  report     : Report
  deriving DecidableEq, Repr

/-- One expectation as READ_BAGGING returns it (R96). -/
structure ExpectationView where
  entry     : Nat
  direction : Direction
  weight    : Nat
  tolerance : Nat
  timer     : Option Nat
  deriving DecidableEq, Repr

/-- One job as READ_PRINT_QUEUE returns it (R163). -/
structure JobView where
  id          : Nat
  kind        : JobKind
  state       : JobState
  reasons     : Option Causes
  linesDone   : Nat
  lineCount   : Nat
  saleNumber  : Option Int
  recordsHeld : Option Nat
  deriving DecidableEq, Repr

/-- What READ_SALE returns of the open record (R71). -/
structure OpenSaleView where
  number      : Int
  entries     : Nat
  tenders     : Nat
  total       : Int
  tendered    : Int
  cardPending : Bool
  deriving DecidableEq, Repr

/-- What READ_SALE returns of a closed slot that is not empty (R71). -/
structure ClosedSaleView where
  number    : Int
  total     : Int
  changeDue : Int
  deriving DecidableEq, Repr

/-- A live setting's value (R197). -/
inductive SettingValue where
  | number (value : Int)
  | text (chars : List Byte)
  deriving DecidableEq, Repr

/-- The fields of a reply after its status, request by request. -/
inductive ReplyFields where
  | empty
  | weightPlatter (condition : ChannelCondition) (stable : Bool) (grossG : Option Int) (tareG : Int)
      (netG : Option Int) (occupancy : Occupancy)
  | weightBag (condition : ChannelCondition) (stable : Bool) (grossG : Option Int) (settledG : Option Int)
  | tare (tareG : Int)
  | entryTotal (entry : Nat) (total : Int)
  | positionSum (position : Nat) (sum : Int)
  | positionMasked (position : Nat) (masked : MaskedAccount)
  | tenderSum (sum : Int)
  | change (changeDue : Int)
  | jobId (id : Nat)
  | sale (state : SaleState) (attendant : Bool) (record : Option OpenSaleView) (receipt : Option ReceiptState)
      (closed : Option ClosedSaleView)
  | entry (entry : Entry)
  | tender (tender : Tender)
  | resync (waived removed : Nat) (settledG : Option Int)
  | bagging (suspended alert : Bool) (listed : Nat) (returned : List ExpectationView) (unclaimed : Option Unclaimed)
      (exceptions : List BagException) (nextId : Nat)
  | cardRelease (data : CardData) (masked : MaskedAccount)
  | cardSlot (state : Nat) (masked : Option MaskedAccount) (source : Option Source) (holdMs : Option Nat)
      (gap : GapState) (enabled : Bool)
  | drawer (state : DrawerState) (attempts : Nat) (senseOpen sensePresent : Bool) (alarmMs : Option Nat) (units : Nat)
  | supply (low : Bool) (budget : Nat) (pendingBudget : Option Nat) (free : Nat) (granted : Grants) (waiting : Needs)
  | printText (id lines free : Nat)
  | printQueue (jobs : List JobView) (frozen : Bool) (free nextId : Nat)
  | printer (condition : PrinterCondition) (causes : Causes) (paperLow : Bool) (headTemp : Int) (band : Band)
      (speedIndex pendingPeriod : Nat) (cutter : Cutter) (cutMs : Option Nat) (jobId : Option Nat)
      (row : Option (Nat × Nat)) (headUnits motorUnits cutterUnits : Nat)
  | setting (id : Nat) (value : SettingValue)
  | identity (revision : Byte) (platterCount : Nat) (profile : Profile) (bagCount : Nat)
  deriving DecidableEq, Repr

/-- A reply in the reply slot (R184, R190): the KIND of the reply, the TAG of its request, status and fields. -/
structure Reply where
  kind   : Byte
  tag    : Byte
  status : Status
  fields : ReplyFields
  deriving DecidableEq, Repr

/-- A checked request frame (R185). -/
structure Frame where
  kind : Byte
  tag  : Byte
  body : List Byte
  deriving DecidableEq, Repr

/-- Line settings: rate and parity (R182). -/
structure LineSettings where
  rate   : Nat
  parity : Parity
  deriving DecidableEq, Repr

/-- Receiver states (R185). -/
inductive RxPhase where
  | hunt
  | len
  | kind
  | tag
  | body
  | chk
  | eof
  deriving DecidableEq, Repr

/-- The receiver with the bytes gathered of the frame in progress and the running check (R185). -/
structure Receiver where
  phase : RxPhase
  len   : Nat
  kind  : Option Byte
  tag   : Option Byte
  body  : List Byte
  check : Byte
  chk   : Byte
  deriving DecidableEq, Repr

/-- Dispatch states (R191); WRITING keeps the kind and tag of the deferred request. -/
inductive Dispatch where
  | free
  | writing (kind tag : Byte)
  deriving DecidableEq, Repr

/-- The transmitter (R194). -/
inductive Transmitter where
  | idle
  | sendingReply
  | sendingReport (report : QueuedReport)
  deriving DecidableEq, Repr

/-- Progress of a RESTART request: none, answered, or its reply sent and the restart due (R191, R202). -/
inductive RestartStage where
  | none
  | asked
  | due
  deriving DecidableEq, Repr

/-- The Link Controller (chapter 10). -/
structure Link where
  line          : LineSettings
  pendingLine   : Option LineSettings
  lineChangeDue : Bool
  receiver      : Receiver
  gapTimer      : Option Nat
  slots         : List Frame
  dispatch      : Dispatch
  reply         : Option Reply
  reports       : List QueuedReport
  lost          : Bool
  transmitter   : Transmitter
  restart       : RestartStage
  deriving DecidableEq, Repr

/-! ### The whole part -/

/-- Input levels that rules read at a later moment (R18, R171, R177, R179). -/
structure Inputs where
  calEnable  : Bool
  headTemp   : Int
  cutterHome : Bool
  deriving DecidableEq, Repr

/-- The state of the LC-410. `pending` is the queue of waiting commands. -/
structure State where
  pending   : List Instr
  powered   : Bool
  now       : Nat
  inputs    : Inputs
  attendant : Bool
  platter   : Channel
  bag       : Channel
  scale     : PlatterScale
  settledS  : Option Int
  sale      : SaleBlock
  monitor   : Monitor
  reader    : Reader
  drawer    : Drawer
  tone      : Tone
  supply    : Supply
  queue     : PrintQueue
  engine    : Engine
  link      : Link
  store     : Store
  deriving DecidableEq, Repr

/-- No command of this machine faults: the part's FAULT conditions (R13, R178) are states, so no constructor is
needed. -/
inductive Fault where
  deriving DecidableEq, Repr

/-- Why a command has no meaning. -/
inductive Refusal where
  /-- Raised only by an arm of `exec` that has no meaning yet (there is none). Safe: it stops. -/
  | notModelled (mnemonic : String)
  deriving DecidableEq, Repr

/-! ### Reset -/

/-- The defaults of R197. -/
def Settings.defaults : Settings where
  platterSampleRate   := 100
  bagSampleRate       := 100
  platterFilterLen    := 16
  bagFilterLen        := 32
  platterStableLen    := 8
  bagStableLen        := 16
  bagBand             := 2
  bagThreshold        := 10
  weighTimeout        := 10
  tarePerItem         := true
  bagTolAbs           := 15
  bagTolPct           := 5
  bagTimeout          := 15
  bagGrace            := 3
  cardReaderEnable    := true
  cardHold            := 60
  drawerSensePresent  := true
  drawerCloseRequired := false
  drawerPullMs        := 50
  drawerHoldMs        := 80
  drawerHoldDuty      := 96
  drawerAlarmS        := 30
  supplyBudget        := 24
  amountDecimals      := 2
  header1             := []
  header2             := []
  header3             := []
  header4             := []
  trailer1            := []
  trailer2            := []
  trailer3            := []
  trailer4            := []
  printDensity        := 100
  lineSpacing         := 6
  linkRate            := 38400
  linkParity          := .none

/-- A calibration record that failed its check or was never written (R201): no cal_zero, no span, cal_count 0. -/
def CalRecord.blank : CalRecord where
  calZero  := none
  span     := none
  profile  := none
  calCount := 0

/-- A channel started without a valid record and with its excitation in the window (R2). -/
def Channel.blank : Channel where
  condition     := .uncalibrated
  converterOn   := true
  settling      := 2
  filterRing    := []
  filterSum     := 0
  latest        := none
  stabilityRing := []
  zeroRef       := none
  powerUpZero   := none
  trackingCount := 0
  record        := CalRecord.blank

/-- A track at power-on (R98). The timer and the mark are DESIGN CHOICE (log 18). -/
def Track.blank : Track where
  timer   := 0
  seen    := false
  decoder := .seeking []
  bits    := []

/-- No pause cause held. -/
def Causes.none : Causes where
  paperOut  := false
  coverOpen := false
  headHot   := false
  supplyLow := false

/-- The receiver in HUNT (R196); what it last gathered is DESIGN CHOICE (log 18). -/
def Receiver.hunting : Receiver where
  phase := .hunt
  len   := 0
  kind  := none
  tag   := none
  body  := []
  check := 0
  chk   := 0

/-- Levels at power-on that no rule gives: everything in order, no jumper (DESIGN CHOICE, log 4). -/
def nominalLevels : StartInputs where
  calEnable         := false
  platterExcitation := true
  bagExcitation     := true
  drawerOpen        := false
  paperOut          := false
  coverOpen         := false
  paperLow          := false
  headTemp          := 25
  supplyBelow20     := false
  cutterHome        := true

/-- The part right after power-on at `nominalLevels` with a store that was never written: R2, R31, R37, R50, R52, R74,
R98, R113, R121, R133, R137, R146, R165, R196, R201. RESTARTED has begun to be sent and SETTINGS_STATE waits
(R194, R201; log 8). -/
def State.reset : State where
  pending   := []
  powered   := true
  now       := 0
  inputs    :=
    { calEnable := false
      headTemp := 25
      cutterHome := true }
  attendant := false
  platter   := Channel.blank
  bag       := Channel.blank
  scale     :=
    { tareT := 0
      occupancy := .empty
      weigh := none }
  settledS  := none
  sale      :=
    { current := .idle
      closed := none }
  monitor   :=
    { expectations := []
      unclaimed := none
      exceptions := []
      suspended := false
      nextExceptionId := 1
      nextOrder := 0 }
  reader    :=
    { gap := .swipe
      decoded := false
      gapTimer := 20
      alpha := Track.blank
      numeric := Track.blank
      slot := .empty }
  drawer    :=
    { state := .closed
      senseOpen := false
      attempts := 0
      phaseTimer := none
      alarmTimer := none
      dutyInForce := 96
      pendingDuty := 96
      kickSource := none }
  tone      :=
    { owner := .none
      drawerAlarmHeld := false
      bagAlertHeld := false
      position := none
      sounding := false
      level := false
      halfPeriod := 250
      pendingHalf := none
      toggleCounter := 0
      beep := none }
  supply    :=
    { budget := 24
      low := false
      granted := { drawer := 0, cutter := 0, motor := 0, head := 0 }
      waiting := { drawer := none, cutter := none, motor := none, head := none } }
  queue     :=
    { jobs := []
      nextJobId := 1 }
  engine    :=
    { condition := .idle
      causes := Causes.none
      paperLow := false
      line := none
      row := none
      phase := none
      stepRunning := none
      memory := 0
      band := .c
      speedIndex := 0
      periodInForce := 2500
      pendingPeriod := 2500
      cutter := .rest
      seenAway := false
      cutTimer := none
      clearTaken := false
      abandoned := false }
  link      :=
    { line := { rate := 38400, parity := .none }
      pendingLine := none
      lineChangeDue := false
      receiver := Receiver.hunting
      gapTimer := none
      slots := []
      dispatch := .free
      reply := none
      reports := [{ lostBefore := false, report := .settingsState }]
      lost := false
      transmitter := .sendingReport
        { lostBefore := false, report := .restarted .powerOn false false false false false }
      restart := .none }
  store     :=
    { live := Settings.defaults
      image := .neverWritten
      platterCopy := .neverWritten
      bagCopy := .neverWritten
      write := none }

end Sys2Proof.Machine
end

