-- ==== Sys2Proof/Machine/Operands.lean ====
section
/-! DEFINITION. Operand forms and arithmetic shared by the commands: the two roundings of section 6.3, text fields,
the choices a body byte names (R184), and the fixed quantities of the profiles (R1, R27). -/

namespace Sys2Proof.Machine

/-- Round half away from zero (section 6.3) of `n ÷ d` for a positive `d`. -/
def roundAway (n d : Int) : Int :=
  if 0 ≤ n then (2 * n + d) / (2 * d) else -((2 * (-n) + d) / (2 * d))

/-- Round a fine value to a whole multiple of the division `e` (R29, R32). -/
def roundToDivision (value e : Int) : Int := roundAway value e * e

/-- The price of R41: floor((net × unit price + 500) ÷ 1,000). -/
def priceOf (netG unitPrice : Int) : Int := (netG * unitPrice + 500) / 1000

/-- The half-period of a tone of `f` Hz, 1,000,000 ÷ 2f rounded half up (R133). -/
def halfPeriodOf (f : Nat) : Nat := (1000000 + f) / (2 * f)

/-- The number of elements of a list that a condition holds for. -/
def countWhere {α : Type} (p : α → Bool) : List α → Nat
  | [] => 0
  | x :: xs => (if p x then 1 else 0) + countWhere p xs

/-- The sum of a list of amounts (R55, R62). -/
def sumOf : List Int → Int
  | [] => 0
  | x :: xs => x + sumOf xs

/-! ### Text (section 6.4) -/

/-- A printable character, 0x20..0x7E. -/
def isPrintable (b : Byte) : Bool := 0x20 ≤ b.toNat && b.toNat ≤ 0x7E

/-- A byte outside 0x20..0x7E is stored as `?` (R38, R56, R150, R198). -/
def printableText (chars : List Byte) : List Byte :=
  chars.map fun b => if isPrintable b then b else 0x3F

/-- The bytes of a text of the model. -/
def textOf (t : String) : List Byte := t.toList.map fun c => BitVec.ofNat 8 c.toNat

/-! ### Choices carried as a byte (R184) -/

/-- PLATTER is 0 and BAG is 1; any other value names no channel (section 1.1). -/
def channelOfByte (b : Byte) : Option ChannelId :=
  if b = 0 then some .platter else if b = 1 then some .bag else none

/-- A, B, C are 0, 1, 2 (R21). -/
def profileOfByte (b : Byte) : Option Profile :=
  if b = 0 then some .a else if b = 1 then some .b else if b = 2 then some .c else none

/-- APPROVED is 0 and DECLINED is 1 (R65); the answer says whether the decision is APPROVED. -/
def decisionOfByte (b : Byte) : Option Bool :=
  if b = 0 then some true else if b = 1 then some false else none

/-- NORMAL and DOUBLE, no and yes: 0 and 1 (R149). -/
def flagOfByte (b : Byte) : Option Bool :=
  if b = 0 then some false else if b = 1 then some true else none

/-- LEFT, CENTRE, RIGHT are 0, 1, 2 (R149). -/
def alignOfByte (b : Byte) : Option Align :=
  if b = 0 then some .left else if b = 1 then some .centre else if b = 2 then some .right else none

/-- A line record as given, judged by check 1 of R151 and cut to its width by R150; absent when the check fails. -/
def lineOfArg : LineArg → Option LineRecord
  | .text chars width height bold align =>
    match flagOfByte width, flagOfByte height, flagOfByte bold, alignOfByte align with
    | some w, some h, some b, some a =>
      if chars.length ≤ 32 then
        some (.text (printableText (chars.take (if w then 16 else 32))) w h b a)
      else none
    | _, _, _, _ => none
  | .feed rows => if 1 ≤ rows.toNat then some (.feed rows.toNat) else none
  | .cut => some .cut
  | .unknown _ => none

/-- All the line records of a PRINT_TEXT, absent when one fails check 1 of R151. -/
def linesOfArgs : List LineArg → Option (List LineRecord)
  | [] => some []
  | x :: xs =>
    match lineOfArg x, linesOfArgs xs with
    | some r, some rs => some (r :: rs)
    | _, _ => none

/-! ### Fixed quantities (R1, R27), in tenths -/

/-- Max of a profile. -/
def Profile.max : Profile → Int
  | .a => 150000
  | .b => 60000
  | .c => 150000

/-- e1 of a profile. -/
def Profile.e1 : Profile → Int
  | .a => 20
  | .b => 10
  | .c => 50

/-- e2 of a profile; profile C has one interval and takes e1 (R28). -/
def Profile.e2 : Profile → Int
  | .a => 50
  | .b => 20
  | .c => 50

/-- e_last of a profile. -/
def Profile.eLast : Profile → Int
  | .a => 50
  | .b => 20
  | .c => 50

/-- The boundary between the weighing intervals; profile C has none. -/
def Profile.boundary : Profile → Option Int
  | .a => some 60000
  | .b => some 30000
  | .c => none

/-- The minimum weight, 20 e1. -/
def Profile.minimum (p : Profile) : Int := 20 * p.e1

/-- The empty threshold, 10 e1. -/
def Profile.emptyThreshold (p : Profile) : Int := 10 * p.e1

/-- The largest tare, Max ÷ 2. -/
def Profile.maxTare (p : Profile) : Int := p.max / 2

/-- The division of the interval a fine value lies in, chosen before any rounding (R28). -/
def Profile.divisionAt (p : Profile) (value : Int) : Int :=
  match p.boundary with
  | some limit => if value ≤ limit then p.e1 else p.e2
  | none => p.e1

/-- The profile in force: that of the record, and A where the record holds none (R1). The record's profile counts from the
step that sets it, also for requests taken before the next filter output (log 39). -/
def CalRecord.profileInForce (r : CalRecord) : Profile := r.profile.getD .a

/-- Max of a channel in tenths (R1). -/
def channelMax (ch : ChannelId) (r : CalRecord) : Int :=
  match ch with
  | .platter => r.profileInForce.max
  | .bag => 300000

/-- e1 of a channel in tenths (R1). -/
def channelE1 (ch : ChannelId) (r : CalRecord) : Int :=
  match ch with
  | .platter => r.profileInForce.e1
  | .bag => 50

/-- e_last of a channel in tenths (R1). -/
def channelELast (ch : ChannelId) (r : CalRecord) : Int :=
  match ch with
  | .platter => r.profileInForce.eLast
  | .bag => 50

/-- The displayed gross or legal net of a fine value, in tenths (R28, R29). -/
def legalRound (p : Profile) (value : Int) : Int := roundToDivision value (p.divisionAt value)

/-- G of the bag channel, in g (R24). -/
def bagGross (fine : Int) : Int := roundAway fine 50 * 5

/-! ### Dots -/

/-- The number of black dots. -/
def countDots (d : Dots) : Nat := countWhere (fun i => d.getLsbD i) (List.range 384)

/-- The `n` leftmost black dots among the positions listed. -/
def leftmostFrom (d : Dots) : Nat → List Nat → Dots
  | _, [] => 0
  | 0, _ => 0
  | n + 1, i :: rest =>
    if d.getLsbD i then (1 <<< i) ||| leftmostFrom d n rest else leftmostFrom d (n + 1) rest

/-- The `n` leftmost black dots (R172). -/
def leftmostDots (d : Dots) (n : Nat) : Dots := leftmostFrom d n (List.range 384)

/-- One unit for each 32 dots or part of 32, at most 12 (R140, R172). -/
def unitsForDots (n : Nat) : Nat := min 12 ((n + 31) / 32)

end Sys2Proof.Machine
end

