-- ==== Sys2Proof/Machine/Wire.lean ====
section
/-! DEFINITION. The byte layout of frames (R184): request bodies written and read, reply and report bodies written,
and whole frames with their check byte. -/

namespace Sys2Proof.Machine

/-! ### Fields written -/

/-- One byte. -/
def byteOf (n : Nat) : Byte := BitVec.ofNat 8 n

/-- Two bytes, least significant first. -/
def halfBytes (w : Half) : List Byte := [w.extractLsb' 0 8, w.extractLsb' 8 8]

/-- Four bytes, least significant first. -/
def wideBytes (w : Wide) : List Byte :=
  [w.extractLsb' 0 8, w.extractLsb' 8 8, w.extractLsb' 16 8, w.extractLsb' 24 8]

/-- A number of one byte. -/
def num1 (n : Nat) : List Byte := [byteOf n]

/-- A number of two bytes. -/
def num2 (n : Nat) : List Byte := halfBytes (BitVec.ofNat 16 n)

/-- A number of four bytes, signed in two's complement. -/
def num4 (n : Int) : List Byte := wideBytes (BitVec.ofInt 32 n)

/-- yes is 1 and no is 0. -/
def flag (b : Bool) : List Byte := [if b then 1 else 0]

/-- A text: a count byte and its characters. -/
def textBytes (chars : List Byte) : List Byte := byteOf chars.length :: chars

/-- A field that may be absent: a presence byte, then the field when it is present. -/
def optBytes {α : Type} (f : α → List Byte) : Option α → List Byte
  | none => [0]
  | some x => 1 :: f x

/-- The items of a list one after another. -/
def joinBytes {α : Type} (f : α → List Byte) : List α → List Byte
  | [] => []
  | x :: xs => f x ++ joinBytes f xs

/-- A list: a count byte and its items. -/
def listBytes {α : Type} (f : α → List Byte) (xs : List α) : List Byte := byteOf xs.length :: joinBytes f xs

/-! ### Fields read -/

/-- Reads one byte. -/
def readByte : List Byte → Option (Byte × List Byte)
  | [] => none
  | b :: rest => some (b, rest)

/-- Reads two bytes. -/
def readHalf : List Byte → Option (Half × List Byte)
  | a :: b :: rest => some (b ++ a, rest)
  | _ => none

/-- Reads four bytes. -/
def readWide : List Byte → Option (Wide × List Byte)
  | a :: b :: c :: d :: rest => some (d ++ c ++ b ++ a, rest)
  | _ => none

/-- Reads `n` bytes. -/
def readBytes : Nat → List Byte → Option (List Byte × List Byte)
  | 0, rest => some ([], rest)
  | _ + 1, [] => none
  | n + 1, b :: rest =>
    match readBytes n rest with
    | some (bs, rest') => some (b :: bs, rest')
    | none => none

/-- Reads a text. The count is trusted for the length (R190). -/
def readText : List Byte → Option (List Byte × List Byte)
  | [] => none
  | count :: rest => readBytes count.toNat rest

/-- Reads a field that may be absent; a presence byte other than 0 or 1 does not fit (R190). -/
def readOpt {α : Type} (f : List Byte → Option (α × List Byte)) : List Byte → Option (Option α × List Byte)
  | [] => none
  | p :: rest =>
    if p = 0 then some (none, rest)
    else if p = 1 then
      match f rest with
      | some (x, rest') => some (some x, rest')
      | none => none
    else none

/-- Reads one line record. A record of an unknown kind is read as carrying no fields (DESIGN CHOICE, log 15). -/
def readLine : List Byte → Option (LineArg × List Byte)
  | [] => none
  | kind :: rest =>
    if kind = 0 then
      match readText rest with
      | some (chars, w :: h :: b :: a :: rest') => some (.text chars w h b a, rest')
      | _ => none
    else if kind = 1 then
      match rest with
      | rows :: rest' => some (.feed rows, rest')
      | [] => none
    else if kind = 2 then some (.cut, rest)
    else some (.unknown kind, rest)

/-- Reads `n` line records. -/
def readLines : Nat → List Byte → Option (List LineArg × List Byte)
  | 0, rest => some ([], rest)
  | n + 1, bytes =>
    match readLine bytes with
    | some (x, rest) =>
      match readLines n rest with
      | some (xs, rest') => some (x :: xs, rest')
      | none => none
    | none => none

/-! ### Requests -/

/-- The ids of the text settings (R197). -/
def isTextSetting (id : Nat) : Bool := 24 ≤ id && id ≤ 31

/-- The KIND byte of a request (section 10.5). -/
def requestKind : Request → Byte
  | .readWeight _ => 0x01
  | .zero _ => 0x02
  | .calZero _ => 0x03
  | .calSpan _ _ => 0x04
  | .setProfile _ => 0x05
  | .setTare _ => 0x06
  | .takeTare => 0x07
  | .clearTare => 0x08
  | .weighItem _ _ _ => 0x09
  | .cancelWeigh => 0x0A
  | .openSale _ => 0x0B
  | .addItem _ _ _ _ => 0x0C
  | .voidEntry _ => 0x0D
  | .beginTender => 0x0E
  | .resumeSale => 0x0F
  | .addCash _ => 0x10
  | .addCardTender _ => 0x11
  | .cardDecision _ => 0x12
  | .closeSale => 0x13
  | .abandonSale => 0x14
  | .reprint => 0x15
  | .readSale => 0x16
  | .readEntry _ => 0x17
  | .readTender _ => 0x18
  | .clearException _ => 0x19
  | .waiveBagging _ => 0x1A
  | .bagResync => 0x1B
  | .readBagging _ => 0x1C
  | .releaseCard => 0x1D
  | .discardCard => 0x1E
  | .readCard => 0x1F
  | .noSale => 0x20
  | .drawerReset => 0x21
  | .readDrawer => 0x22
  | .beep _ _ _ => 0x23
  | .readSupply => 0x24
  | .printText _ => 0x25
  | .printerClear => 0x26
  | .readPrintQueue => 0x27
  | .readPrinter => 0x28
  | .set _ _ => 0x29
  | .get _ => 0x2A
  | .saveSettings => 0x2B
  | .restart => 0x2C
  | .identify => 0x2D

/-- One line record as a PRINT_TEXT body carries it (R149). -/
def lineArgBytes : LineArg → List Byte
  | .text chars w h b a => 0 :: textBytes chars ++ [w, h, b, a]
  | .feed rows => [1, rows]
  | .cut => [2]
  | .unknown kind => [kind]

/-- The value of a SET (R197). -/
def settingArgBytes : SettingArg → List Byte
  | .number v => wideBytes v
  | .text chars => textBytes chars

/-- The BODY of a request (R184). -/
def requestBody : Request → List Byte
  | .readWeight c => [c]
  | .zero c => [c]
  | .calZero c => [c]
  | .calSpan c load => c :: wideBytes load
  | .setProfile p => [p]
  | .setTare w => wideBytes w
  | .weighItem d u t => textBytes d ++ wideBytes u ++ optBytes wideBytes t
  | .openSale n => wideBytes n
  | .addItem d a e t => textBytes d ++ wideBytes a ++ optBytes halfBytes e ++ optBytes halfBytes t
  | .voidEntry n => [n]
  | .addCash a => wideBytes a
  | .addCardTender a => wideBytes a
  | .cardDecision d => [d]
  | .readEntry n => [n]
  | .readTender n => [n]
  | .clearException n => [n]
  | .waiveBagging n => [n]
  | .readBagging n => [n]
  | .beep f t c => halfBytes f ++ halfBytes t ++ [c]
  | .printText lines => listBytes lineArgBytes lines
  | .set id v => id :: settingArgBytes v
  | .get id => [id]
  | .takeTare | .clearTare | .cancelWeigh | .beginTender | .resumeSale | .closeSale | .abandonSale | .reprint
  | .readSale | .bagResync | .releaseCard | .discardCard | .readCard | .noSale | .drawerReset | .readDrawer
  | .readSupply | .printerClear | .readPrintQueue | .readPrinter | .saveSettings | .restart | .identify => []

/-- The frame of a request. -/
def requestFrame (tag : Byte) (r : Request) : Frame where
  kind := requestKind r
  tag  := tag
  body := requestBody r

/-- What a checked frame asks for (R190): a KIND that names no request, a body that does not fit its kind, or a
request. -/
inductive Parsed where
  | unknown
  | badLength
  | request (r : Request)
  deriving DecidableEq, Repr

/-- A field that must be the last of its body. -/
def whole {α : Type} (f : α → Request) : Option (α × List Byte) → Parsed
  | some (x, []) => .request (f x)
  | _ => .badLength

/-- A body of one byte. -/
def parseByte (f : Byte → Request) (body : List Byte) : Parsed := whole f (readByte body)

/-- A body of four bytes. -/
def parseWide (f : Wide → Request) (body : List Byte) : Parsed := whole f (readWide body)

/-- A body with no fields. -/
def parseEmpty (r : Request) : List Byte → Parsed
  | [] => .request r
  | _ => .badLength

/-- The body of CAL_SPAN. -/
def parseCalSpan (body : List Byte) : Parsed :=
  match readByte body with
  | some (c, rest) => whole (.calSpan c) (readWide rest)
  | none => .badLength

/-- The body of WEIGH_ITEM. -/
def parseWeighItem (body : List Byte) : Parsed :=
  match readText body with
  | some (d, rest) =>
    match readWide rest with
    | some (u, rest') => whole (.weighItem d u) (readOpt readWide rest')
    | none => .badLength
  | none => .badLength

/-- The body of ADD_ITEM. -/
def parseAddItem (body : List Byte) : Parsed :=
  match readText body with
  | some (d, rest) =>
    match readWide rest with
    | some (a, rest') =>
      match readOpt readHalf rest' with
      | some (e, rest'') => whole (.addItem d a e) (readOpt readHalf rest'')
      | none => .badLength
    | none => .badLength
  | none => .badLength

/-- The body of BEEP. -/
def parseBeep (body : List Byte) : Parsed :=
  match readHalf body with
  | some (f, rest) =>
    match readHalf rest with
    | some (t, rest') => whole (.beep f t) (readByte rest')
    | none => .badLength
  | none => .badLength

/-- The body of PRINT_TEXT. -/
def parsePrintText (body : List Byte) : Parsed :=
  match readByte body with
  | some (count, rest) => whole .printText (readLines count.toNat rest)
  | none => .badLength

/-- The body of SET: a text for a text setting, four bytes for every other id (R197). -/
def parseSet (body : List Byte) : Parsed :=
  match readByte body with
  | some (id, rest) =>
    if isTextSetting id.toNat then whole (fun t => .set id (.text t)) (readText rest)
    else whole (fun v => .set id (.number v)) (readWide rest)
  | none => .badLength

/-- A frame's KIND and BODY read as a request (R190, section 10.5). -/
def parseRequest (kind : Byte) (body : List Byte) : Parsed :=
  match kind.toNat with
  | 0x01 => parseByte .readWeight body
  | 0x02 => parseByte .zero body
  | 0x03 => parseByte .calZero body
  | 0x04 => parseCalSpan body
  | 0x05 => parseByte .setProfile body
  | 0x06 => parseWide .setTare body
  | 0x07 => parseEmpty .takeTare body
  | 0x08 => parseEmpty .clearTare body
  | 0x09 => parseWeighItem body
  | 0x0A => parseEmpty .cancelWeigh body
  | 0x0B => parseWide .openSale body
  | 0x0C => parseAddItem body
  | 0x0D => parseByte .voidEntry body
  | 0x0E => parseEmpty .beginTender body
  | 0x0F => parseEmpty .resumeSale body
  | 0x10 => parseWide .addCash body
  | 0x11 => parseWide .addCardTender body
  | 0x12 => parseByte .cardDecision body
  | 0x13 => parseEmpty .closeSale body
  | 0x14 => parseEmpty .abandonSale body
  | 0x15 => parseEmpty .reprint body
  | 0x16 => parseEmpty .readSale body
  | 0x17 => parseByte .readEntry body
  | 0x18 => parseByte .readTender body
  | 0x19 => parseByte .clearException body
  | 0x1A => parseByte .waiveBagging body
  | 0x1B => parseEmpty .bagResync body
  | 0x1C => parseByte .readBagging body
  | 0x1D => parseEmpty .releaseCard body
  | 0x1E => parseEmpty .discardCard body
  | 0x1F => parseEmpty .readCard body
  | 0x20 => parseEmpty .noSale body
  | 0x21 => parseEmpty .drawerReset body
  | 0x22 => parseEmpty .readDrawer body
  | 0x23 => parseBeep body
  | 0x24 => parseEmpty .readSupply body
  | 0x25 => parsePrintText body
  | 0x26 => parseEmpty .printerClear body
  | 0x27 => parseEmpty .readPrintQueue body
  | 0x28 => parseEmpty .readPrinter body
  | 0x29 => parseSet body
  | 0x2A => parseByte .get body
  | 0x2B => parseEmpty .saveSettings body
  | 0x2C => parseEmpty .restart body
  | 0x2D => parseEmpty .identify body
  | _ => .unknown

/-- The KIND of the reply to a request of this kind: the kind + 0x80 when it lies in 0x01..0x3F, otherwise 0x80
(R184, R190). -/
def replyKind (kind : Byte) : Byte :=
  if 0x01 ≤ kind.toNat ∧ kind.toNat ≤ 0x3F then kind + 0x80 else 0x80

/-! ### Replies -/

/-- The status byte (R192). -/
def Status.byte : Status → Byte
  | .ok => 0x00
  | .adjusted => 0x01
  | .busy => 0x02
  | .badState => 0x03
  | .badLength => 0x04
  | .badValue => 0x05
  | .unknownRequest => 0x06
  | .notAttended => 0x07
  | .notCalibrated => 0x08
  | .calDisabled => 0x09
  | .exceptionPending => 0x0A
  | .limit => 0x0B
  | .noCard => 0x0C
  | .printerBacklog => 0x0D
  | .drawerOpen => 0x0E
  | .queueFull => 0x0F
  | .notFound => 0x10

/-- The masked account as shown: `*` in place of every digit but the last four (R109). -/
def MaskedAccount.shown (m : MaskedAccount) : List Byte :=
  List.replicate (m.length - m.last4.length) 0x2A ++ m.last4.map fun d => byteOf (0x30 + d)

/-- A masked account as a text (log 14). -/
def maskedBytes (m : MaskedAccount) : List Byte := textBytes m.shown

/-- The pause causes held, in the order of R166. -/
def Causes.list (c : Causes) : List PauseCause :=
  (if c.paperOut then [.paperOut] else []) ++ (if c.coverOpen then [.coverOpen] else []) ++
    (if c.headHot then [.headHot] else []) ++ (if c.supplyLow then [.supplyLow] else [])

/-- A set of pause causes as a list (DEDUCED, log 14). -/
def causesBytes (c : Causes) : List Byte := listBytes (fun x => num1 x.ctorIdx) c.list

/-- The characters of a track as RELEASE_CARD gives them: value + 0x30 or + 0x20 (R103, R116). -/
def trackText (offset : Nat) (chars : List Nat) : List Byte := chars.map fun v => byteOf (v + offset)

/-- One track of a RELEASE_CARD reply (R116). -/
def trackBytes (offset : Nat) (t : TrackData) : List Byte :=
  num1 t.status.ctorIdx ++
    optBytes textBytes (if t.status = .good then some (trackText offset t.chars) else none) ++
    optBytes (fun d => num1 d.ctorIdx) (if t.status = .good then t.direction else none)

/-- The weighing part of an entry (R54). -/
def weighingBytes (w : WeighingPart) : List Byte :=
  num4 w.netG ++ num4 w.tareG ++ num1 w.divisionG.toNat ++ num4 w.unitPrice ++ num1 w.profile.ctorIdx

/-- A basket entry (R54, R72). -/
def entryBytes (e : Entry) : List Byte :=
  num1 e.number ++ num1 e.kind.ctorIdx ++ textBytes e.description ++ num4 e.amount ++ flag e.voided ++
    optBytes num1 e.voids ++ optBytes weighingBytes e.weighing ++ optBytes num2 e.expected ++
    optBytes num2 e.tolerance ++ num1 e.status.ctorIdx

/-- An exception (R96). -/
def exceptionBytes (x : BagException) : List Byte :=
  num1 x.id ++ num1 x.kind.ctorIdx ++ optBytes num1 x.entry ++ optBytes num4 x.delta

/-- An expectation (R96). An expired bag timer is sent as absent (log 14). -/
def expectationBytes (x : ExpectationView) : List Byte :=
  num1 x.entry ++ num1 x.direction.ctorIdx ++ num2 x.weight ++ num2 x.tolerance ++ optBytes num2 x.timer

/-- A job (R163). -/
def jobBytes (j : JobView) : List Byte :=
  num1 j.id ++ num1 j.kind.ctorIdx ++ num1 j.state.ctorIdx ++ optBytes causesBytes j.reasons ++ num2 j.linesDone ++
    num2 j.lineCount ++ optBytes num4 j.saleNumber ++ optBytes num1 j.recordsHeld

/-- The receipt state of the closed slot: empty, PENDING, DONE, ABORTED (R71). -/
def receiptByte : Option ReceiptState → List Byte
  | none => num1 0
  | some r => num1 (r.ctorIdx + 1)

/-- A setting's value (R197). -/
def settingBytes : SettingValue → List Byte
  | .number v => num4 v
  | .text chars => textBytes chars

/-- The fields of a reply after its status byte, in the order of the owning rule (R184). Widths, stopped timers and the
revision letter as one bare byte are in log 14. DESIGN CHOICE (log 14): fields that one row names together have a presence
byte each, as READ_SALE's closed sale number, total and change due; only READ_BAGGING's unclaimed delta, READ_PRINTER's row
position with the rows in all and an entry's weighing part have one for all their parts. DESIGN CHOICE (log 14):
READ_PRINT_QUEUE's rows "jobs listed" and "each job" are one list, whose count byte is the jobs listed (R163). DESIGN CHOICE
(log 14): READ_BAGGING's alert request is 1 for held and 0 for not, as a yes/no, and its unclaimed amount, 5..65,535 g (R84),
is a number of two bytes (R96). -/
def ReplyFields.bytes : ReplyFields → List Byte
  | .empty => []
  | .weightPlatter c st g t n o =>
    num1 c.ctorIdx ++ flag st ++ optBytes num4 g ++ num4 t ++ optBytes num4 n ++ num1 o.ctorIdx
  | .weightBag c st g s => num1 c.ctorIdx ++ flag st ++ optBytes num4 g ++ optBytes num4 s
  | .tare t => num4 t
  | .entryTotal n total => num1 n ++ num4 total
  | .positionSum p v => num1 p ++ num4 v
  | .positionMasked p m => num1 p ++ maskedBytes m
  | .tenderSum v => num4 v
  | .change c => num4 c
  | .jobId id => num1 id
  | .sale st att r receipt closed =>
    num1 st.ctorIdx ++ flag att ++ optBytes (fun v => num4 v.number) r ++ optBytes (fun v => num1 v.entries) r ++
      optBytes (fun v => num1 v.tenders) r ++ optBytes (fun v => num4 v.total) r ++
      optBytes (fun v => num4 v.tendered) r ++ optBytes (fun v => flag v.cardPending) r ++ receiptByte receipt ++
      optBytes (fun v => num4 v.number) closed ++ optBytes (fun v => num4 v.total) closed ++
      optBytes (fun v => num4 v.changeDue) closed
  | .entry e => entryBytes e
  | .tender t => num1 t.kind.ctorIdx ++ num4 t.amount ++ num1 t.state.ctorIdx ++ optBytes maskedBytes t.masked
  | .resync w r s => num1 w ++ num1 r ++ optBytes num4 s
  | .bagging sus alert listed returned u xs next =>
    flag sus ++ flag alert ++ num1 listed ++ listBytes expectationBytes returned ++
      optBytes (fun v => num2 v.amount ++ num2 v.grace) u ++ listBytes exceptionBytes xs ++ num1 next
  | .cardRelease d m =>
    trackBytes 0x30 d.numeric ++ trackBytes 0x20 d.alpha ++ num1 d.source.ctorIdx ++ maskedBytes m
  | .cardSlot st m src hold gap en =>
    num1 st ++ optBytes maskedBytes m ++ optBytes (fun x => num1 x.ctorIdx) src ++
      optBytes (fun x => num4 (Int.ofNat x)) hold ++ num1 gap.ctorIdx ++ flag en
  | .drawer st att o p alarm units =>
    num1 st.ctorIdx ++ num1 att ++ num1 (if o then 0 else 1) ++ flag p ++
      optBytes (fun x => num4 (Int.ofNat x)) alarm ++ num1 units
  | .supply low b p free g w =>
    flag low ++ num1 b ++ optBytes num1 p ++ num1 free ++ num1 g.drawer ++ optBytes num1 w.drawer ++
      num1 g.cutter ++ optBytes num1 w.cutter ++ num1 g.motor ++ optBytes num1 w.motor ++ num1 g.head ++
      optBytes num1 w.head
  | .printText id n free => num1 id ++ num1 n ++ num1 free
  | .printQueue jobs frozen free next => listBytes jobBytes jobs ++ flag frozen ++ num1 free ++ num1 next
  | .printer c causes low t band sp per cut ms job row hu mu cu =>
    num1 c.ctorIdx ++ causesBytes causes ++ optBytes num1 (if c = .fault then some 0 else none) ++ flag low ++
      num4 t ++ num1 band.ctorIdx ++ num1 sp ++ num2 per ++ num1 cut.ctorIdx ++ optBytes num2 ms ++ optBytes num1 job ++
      optBytes (fun p => num1 p.1 ++ num1 p.2) row ++ num1 hu ++ num1 mu ++ num1 cu
  | .setting id v => num1 id ++ settingBytes v
  | .identity rev pc prof bc => textBytes (textOf "LC-410") ++ [rev] ++ num2 pc ++ num1 prof.ctorIdx ++ num2 bc

/-- The BODY of a reply: its status byte, then its fields (R192). -/
def Reply.body (r : Reply) : List Byte := r.status.byte :: r.fields.bytes

/-! ### Reports -/

/-- The KIND of a report (section 10.5). -/
def Report.kind : Report → Byte
  | .channelState .. => 0xC0
  | .platterState .. => 0xC1
  | .weighDone .. => 0xC2
  | .saleState .. => 0xC3
  | .entryBagging .. => 0xC4
  | .bagException .. => 0xC5
  | .cardRead .. => 0xC6
  | .cardExpired .. => 0xC7
  | .drawerState .. => 0xC8
  | .supplyState .. => 0xC9
  | .printJob .. => 0xCA
  | .printerState .. => 0xCB
  | .linkError .. => 0xCC
  | .settingsState => 0xCD
  | .restarted .. => 0xCE

/-- The fields of a report after its flags byte, in the order of the owning rule (R184; widths in log 14). DESIGN CHOICE
(log 14): BAG_EXCEPTION's one row "entries waived, exceptions removed" (R95) is sent with a presence byte for each of the
two, and so is CARD_READ's one row of the directions (R111), the numeric track's first. -/
def Report.bytes : Report → List Byte
  | .channelState ch c l => num1 ch.ctorIdx ++ num1 c.ctorIdx ++ num1 l.ctorIdx
  | .platterState c l => num1 c.ctorIdx ++ num1 l.ctorIdx
  | .weighDone r e n p => num1 r.ctorIdx ++ optBytes num1 e ++ optBytes num4 n ++ optBytes num4 p
  | .saleState c l cause n total change =>
    num1 c.ctorIdx ++ num1 l.ctorIdx ++ num1 cause.ctorIdx ++ num4 n ++ num4 total ++ optBytes num4 change
  | .entryBagging e c l cause =>
    num1 e ++ num1 c.ctorIdx ++ optBytes (fun x => num1 x.ctorIdx) l ++ num1 cause.ctorIdx
  | .bagException a id k e d cause held sus wr =>
    num1 a.ctorIdx ++ optBytes num1 id ++ optBytes (fun x => num1 x.ctorIdx) k ++ optBytes num1 e ++
      optBytes num4 d ++ optBytes (fun x => num1 x.ctorIdx) cause ++ num1 held ++ flag sus ++
      optBytes (fun p => num1 p.1) wr ++ optBytes (fun p => num1 p.2) wr
  | .cardRead v n a nd ad reason src m rep =>
    num1 v.ctorIdx ++ num1 n.ctorIdx ++ num1 a.ctorIdx ++ optBytes (fun x => num1 x.ctorIdx) nd ++
      optBytes (fun x => num1 x.ctorIdx) ad ++ optBytes (fun x => num1 x.ctorIdx) reason ++
      optBytes (fun x => num1 x.ctorIdx) src ++ optBytes maskedBytes m ++ optBytes flag rep
  | .cardExpired m => maskedBytes m
  | .drawerState c l cause att src =>
    num1 c.ctorIdx ++ num1 l.ctorIdx ++ num1 cause.ctorIdx ++ num1 att ++ optBytes (fun x => num1 x.ctorIdx) src
  | .supplyState low left cause b g => flag low ++ flag left ++ num1 cause.ctorIdx ++ num1 b ++ num1 g
  | .printJob id k st l cause reasons sale n total =>
    num1 id ++ num1 k.ctorIdx ++ num1 st.ctorIdx ++ optBytes (fun x => num1 x.ctorIdx) l ++ num1 cause.ctorIdx ++
      optBytes causesBytes reasons ++ optBytes num4 sale ++ num2 n ++ num2 total
  | .printerState c l causes low e cause =>
    num1 c.ctorIdx ++ num1 l.ctorIdx ++ causesBytes causes ++ optBytes num1 (if c = .fault then some 0 else none) ++
      flag low ++ num1 e.ctorIdx ++ optBytes (fun x => num1 x.ctorIdx) cause
  | .linkError r k t => num1 r.ctorIdx ++ optBytes (fun b => [b]) k ++ optBytes (fun b => [b]) t
  | .settingsState => num1 0
  | .restarted cause stored pp pv bp bv =>
    num1 cause.ctorIdx ++ flag (!stored) ++ flag (!pp) ++ flag pv ++ flag (!bp) ++ flag bv

/-- The BODY of a report: its flags byte, then its fields (R193). -/
def QueuedReport.body (q : QueuedReport) : List Byte := (if q.lostBefore then 1 else 0) :: q.report.bytes

/-! ### Frames -/

/-- The exclusive-or of a list of bytes. -/
def xorBytes : List Byte → Byte
  | [] => 0
  | b :: bs => b ^^^ xorBytes bs

/-- A whole frame: SOF, LEN, KIND, TAG, BODY, CHK, EOF (R184). -/
def frameBytes (kind tag : Byte) (body : List Byte) : List Byte :=
  let checked := byteOf (body.length + 2) :: kind :: tag :: body
  0xA5 :: checked ++ [xorBytes checked, 0x5A]

/-- A request frame as the lane computer sends it. -/
def Frame.bytes (f : Frame) : List Byte := frameBytes f.kind f.tag f.body

/-- A reply frame as the part sends it. -/
def Reply.bytes (r : Reply) : List Byte := frameBytes r.kind r.tag r.body

/-- A report frame as the part sends it; its TAG is 0. -/
def QueuedReport.bytes (q : QueuedReport) : List Byte := frameBytes q.report.kind 0 q.body

end Sys2Proof.Machine
end

