-- ==== Sys2Proof/Machine/Ops.lean ====
section
/-! DEFINITION. Operations every block uses: queuing a report, the transmitter's choice, the answer of a request, and
the passing of one millisecond. -/

namespace Sys2Proof.Machine

/-- How a request is answered: a reply now, or a reply deferred to the end of a store write (R190, R191). -/
inductive Answer where
  | reply (status : Status) (fields : ReplyFields)
  | deferred
  deriving DecidableEq, Repr

/-- The live settings (R197). -/
def State.live (s : State) : Settings := s.store.live

/-! ### Reports (R193, R194) -/

/-- A report is appended with the lost flag in bit 0 of its flags byte, or is discarded and sets the lost flag when the
queue holds 24 (R193). -/
def Link.push (r : Report) (l : Link) : Link :=
  if l.reports.length < 24 then
    { l with
      reports := l.reports ++ [{ lostBefore := l.lost, report := r }]
      lost := false }
  else { l with lost := true }

/-- Queue one report (R193). -/
def report (r : Report) (s : State) : State := { s with link := s.link.push r }

/-- Queue a report when there is one. -/
def reportOpt (r : Option Report) (s : State) : State :=
  match r with
  | some x => report x s
  | none => s

/-- The transmitter's choice when it is idle: the reply, otherwise the oldest report, otherwise nothing (R194).
Between the end of a reply and a line change or a restart due it waits (R195, R202, log 9, log 10). -/
def Link.choose (l : Link) : Link :=
  match l.transmitter with
  | .idle =>
    if l.lineChangeDue || l.restart == .due then l
    else
      match l.reply, l.reports with
      | some _, _ => { l with transmitter := .sendingReply }
      | none, r :: rest => { l with transmitter := .sendingReport r, reports := rest }
      | none, [] => l
  | _ => l

/-- The end of an event: an idle transmitter chooses its next frame (R194, log 8). -/
def endEvent (s : State) : State := { s with link := s.link.choose }

/-! ### Answers -/

/-- A refusal: the reply carries the status alone and nothing is changed (R190, R192). -/
def refuse (status : Status) (s : State) : State × Answer := (s, .reply status .empty)

/-- OK with the fields the owning rule lists. -/
def answer (fields : ReplyFields) (s : State) : State × Answer := (s, .reply .ok fields)

/-- OK without fields. -/
def done (s : State) : State × Answer := (s, .reply .ok .empty)

/-! ### Updates of one block -/

/-- The channel of a name. -/
def State.channel (s : State) : ChannelId → Channel
  | .platter => s.platter
  | .bag => s.bag

/-- The state with one channel replaced. -/
def State.withChannel (s : State) (id : ChannelId) (c : Channel) : State :=
  match id with
  | .platter => { s with platter := c }
  | .bag => { s with bag := c }

/-- The open record, when there is one (section 3.1). -/
def CurrentSale.record? : CurrentSale → Option SaleRecord
  | .idle => none
  | .opened r => some r
  | .tender r => some r

/-- The sale state as reports name it. -/
def CurrentSale.state : CurrentSale → SaleState
  | .idle => .idle
  | .opened _ => .opened
  | .tender _ => .tender

/-- The open record changed by `f`; IDLE stays IDLE. -/
def CurrentSale.mapRecord (f : SaleRecord → SaleRecord) : CurrentSale → CurrentSale
  | .idle => .idle
  | .opened r => .opened (f r)
  | .tender r => .tender (f r)

/-- The basket of the open record; empty in IDLE. -/
def State.basket (s : State) : List Entry :=
  match s.sale.current.record? with
  | some r => r.basket
  | none => []

/-- The open record changed by `f`. -/
def mapSale (f : SaleRecord → SaleRecord) (s : State) : State :=
  { s with sale := { s.sale with current := s.sale.current.mapRecord f } }

/-- The entry of the basket with this number. -/
def findEntry (n : Nat) (basket : List Entry) : Option Entry := basket.find? fun e => e.number == n

/-! ### Time (section 6.5) -/

/-- One millisecond less of a running timer. -/
def countDown (t : Option Nat) : Option Nat := t.map fun n => n - 1

/-- One millisecond more on a capture timer, which stays at 65,535 (R97). -/
def Track.elapse (t : Track) (us : Nat) : Track := { t with timer := min 65535 (t.timer + us) }

/-- One millisecond less of the card slot's hold timer. -/
def CardSlot.countDown : CardSlot → CardSlot
  | .held d m t => .held d m (t - 1)
  | x => x

/-- One millisecond less of an expectation's bag timer. -/
def Expectation.countDown (x : Expectation) : Expectation := { x with timer := Machine.countDown x.timer }

/-- One millisecond on the part's time base: every running ms timer counts down by one, and stays at 0 until the
command that says it has expired is taken (log 2, log 3). -/
def elapseMs (s : State) : State :=
  { s with
    now := s.now + 1
    scale := { s.scale with weigh := s.scale.weigh.map fun w => { w with timer := w.timer - 1 } }
    monitor := { s.monitor with
      expectations := s.monitor.expectations.map Expectation.countDown
      unclaimed := s.monitor.unclaimed.map fun u => { u with grace := u.grace - 1 } }
    reader := { s.reader with
      gapTimer := if s.reader.gap = .swipe then s.reader.gapTimer - 1 else s.reader.gapTimer
      alpha := s.reader.alpha.elapse 1000
      numeric := s.reader.numeric.elapse 1000
      slot := s.reader.slot.countDown }
    drawer := { s.drawer with
      phaseTimer := countDown s.drawer.phaseTimer
      alarmTimer := countDown s.drawer.alarmTimer }
    tone := { s.tone with position := s.tone.position.map fun p => { p with remaining := p.remaining - 1 } }
    engine := { s.engine with cutTimer := countDown s.engine.cutTimer }
    link := { s.link with gapTimer := countDown s.link.gapTimer } }

/-- A millisecond passes only while the part is powered (log 5). -/
def idle (s : State) : State := if s.powered then elapseMs s else s

end Sys2Proof.Machine
end

