-- ==== Sys2Proof/Machine/Flags.lean ====
section
/-! DEFINITION. The verdicts the rules compute from data: saturation, stability, validity, range, weight limits,
tolerances, parity and what holds payment back. -/

namespace Sys2Proof.Machine

/-! ### Weighing -/

/-- The saturation of a filter output by the samples in the ring (R4). -/
def saturationOf (ring : List Int) : Saturation :=
  if ring.contains 8388607 then .high else if ring.contains (-8388608) then .low else .no

/-- The largest value of a list; 0 of an empty one. -/
def largest : List Int → Int
  | [] => 0
  | [x] => x
  | x :: xs => max x (largest xs)

/-- The smallest value of a list; 0 of an empty one. -/
def smallest : List Int → Int
  | [] => 0
  | [x] => x
  | x :: xs => min x (smallest xs)

/-- The stable test (R8, R9): the ring holds M values, their spread lies within the band, and the output is not
saturated. -/
def stableTest (ring : List Int) (m : Nat) (band : Int) (sat : Saturation) : Bool :=
  ring.length == m && decide (largest ring - smallest ring ≤ band) && sat == .no

/-- Whether cal_load_t lies within 10 % of Max and Max (R17). -/
def loadInRange (max load : Int) : Bool := decide (max ≤ 10 * load) && decide (load ≤ max)

/-- Whether a calibration record is valid (R17). -/
def CalRecord.valid (ch : ChannelId) (r : CalRecord) : Bool :=
  r.calZero.isSome &&
    match r.span with
    | some sp => decide (50000 ≤ sp.counts) && loadInRange (channelMax ch r) sp.loadT
    | none => false

/-- Whether two count values lie within a weight limit of `limit` tenths of each other, decided without rounding
(R7). Without a span nothing lies within it (a state no run reaches, log 26). -/
def withinLimit (r : CalRecord) (a b limit : Int) : Bool :=
  match r.span with
  | some sp => decide ((a - b).natAbs * sp.loadT ≤ limit * sp.counts)
  | none => false

/-- The fine gross of a filtered value (R6); absent without a zero reference or a valid record. -/
def fineGrossOf (ch : ChannelId) (r : CalRecord) (zeroRef : Option Int) (filtered : Int) : Option Int :=
  if r.valid ch then
    match zeroRef, r.span with
    | some z, some sp => some (roundAway ((filtered - z) * sp.loadT) sp.counts)
    | _, _ => none
  else none

/-- The range test (R12). -/
def rangeCondition (ch : ChannelId) (r : CalRecord) (sat : Saturation) (fine : Int) : ChannelCondition :=
  if sat = .high ∨ channelMax ch r + 9 * channelELast ch r < fine then .overload
  else if sat = .low ∨ fine < -20 * channelE1 ch r then .underload
  else .ready

/-- The conditions in which the range test is applied (R12). -/
def ChannelCondition.ranged : ChannelCondition → Bool
  | .ready | .overload | .underload => true
  | _ => false

/-! ### Sale -/

/-- The total lies within the range of R55. -/
def totalInRange (total : Int) : Bool := decide (-99999999 ≤ total) && decide (total ≤ 99999999)

/-- The sum of tenders (R62). -/
def SaleRecord.tendered (r : SaleRecord) : Int := sumOf (r.tenders.map Tender.amount)

/-- A card tender is PENDING (R62). -/
def SaleRecord.cardPending (r : SaleRecord) : Bool := r.tenders.any fun t => t.state == .pending

/-- A CASH tender is held (R67). -/
def SaleRecord.hasCash (r : SaleRecord) : Bool := r.tenders.any fun t => t.kind == .cash

/-- The law of the total (R55). -/
def SaleRecord.totalAgrees (r : SaleRecord) : Prop := r.total = sumOf (r.basket.map Entry.amount)

/-! ### Bagging -/

/-- A tolerance computed from a weight (R75): the larger of `bag_tol_abs` and the floor of weight × `bag_tol_pct`
÷ 100. -/
def computedTolerance (v : Settings) (weight : Nat) : Nat := max v.bagTolAbs (weight * v.bagTolPct / 100)

/-- A change of magnitude `d` matches a weight under a tolerance (R75). -/
def matchesWeight (d weight tolerance : Nat) : Bool := decide ((d : Int) - weight ≤ tolerance) && decide ((weight : Int) - d ≤ tolerance)

/-- The tolerance of a basket entry of expected weight `weight` (R75). -/
def entryTolerance (v : Settings) (e : Entry) (weight : Nat) : Nat := e.tolerance.getD (computedTolerance v weight)

/-- A change matches a basket entry's expected weight (R75). -/
def matchesEntry (v : Settings) (d : Nat) (e : Entry) : Bool :=
  match e.expected with
  | some w => matchesWeight d w (entryTolerance v e w)
  | none => false

/-- A change matches the magnitude of an exception's delta (R75). -/
def matchesDelta (v : Settings) (d : Nat) (x : BagException) : Bool :=
  match x.delta with
  | some g => matchesWeight d g.natAbs (computedTolerance v g.natAbs)
  | none => false

/-- The monitor holds an exception or is SUSPENDED: the alert is held (R88). -/
def Monitor.alerting (m : Monitor) : Bool := !m.exceptions.isEmpty || m.suspended

/-- The outstanding state that holds payment and closing back (R88). -/
def Monitor.outstanding (m : Monitor) : Bool := m.alerting || !m.expectations.isEmpty

/-! ### Link -/

/-- Odd number of 1s among the bits of a byte. -/
def oddOnes (b : Byte) : Bool := countWhere (fun i => b.getLsbD i) (List.range 8) % 2 == 1

/-- The majority of the three samples of a bit (R183). -/
def majority (x : Sample) : Bool :=
  (x.first && x.second) || (x.first && x.third) || (x.second && x.third)

/-- The three samples do not all agree (R183). -/
def noisy (x : Sample) : Bool := !(x.first == x.second && x.second == x.third)

/-- The data bits by majority, the first that came the least significant (R182, R183). -/
def charData (c : LineChar) : Byte := BitVec.ofFnLE fun i : Fin 8 => majority c.data[i]

/-- The parity bit agrees with the data bits under the parity in force (R182). -/
def parityAgrees (p : Parity) (c : LineChar) : Bool :=
  match p with
  | .none => true
  | .even => majority c.parity == oddOnes (charData c)
  | .odd => majority c.parity == !oddOnes (charData c)

/-- A received character judged (R183): the byte of a good one, or the first of NOISE, FRAMING and PARITY that
applies. -/
def judgeChar (p : Parity) (c : LineChar) : Except LinkErrorReason Byte :=
  if noisy c.start || noisy c.stop || c.data.toList.any noisy || (p != .none && noisy c.parity) then
    .error .noise
  else if !majority c.stop then .error .framing
  else if !parityAgrees p c then .error .parity
  else .ok (charData c)

/-! ### Pause causes -/

/-- At least one cause is held (R167). -/
def Causes.held (c : Causes) : Bool := c.paperOut || c.coverOpen || c.headHot || c.supplyLow

/-- Whether one cause is held. -/
def Causes.has (c : Causes) : PauseCause → Bool
  | .paperOut => c.paperOut
  | .coverOpen => c.coverOpen
  | .headHot => c.headHot
  | .supplyLow => c.supplyLow

/-- One cause raised or gone. -/
def Causes.put (c : Causes) (x : PauseCause) (v : Bool) : Causes :=
  match x with
  | .paperOut => { c with paperOut := v }
  | .coverOpen => { c with coverOpen := v }
  | .headHot => { c with headHot := v }
  | .supplyLow => { c with supplyLow := v }

/-- A number that is held by an exception or job still listed is advanced past; the count runs 1..255 and then 1
again (R86, R147). `fuel` bounds the advance by the length of the list held, plus one. -/
def nextFreeId (held : List Nat) : Nat → Nat → Nat
  | 0, id => id
  | fuel + 1, id =>
    let next := if id < 255 then id + 1 else 1
    if held.contains next then nextFreeId held fuel next else next

end Sys2Proof.Machine
end

