-- ==== Sys2Proof/Machine/ToneOutput.lean ====
section
/-! DEFINITION. The Tone Generator (sections 6.7, R133 to R136). -/

namespace Sys2Proof.Machine

/-- Precedence of a requester, 1 the highest; 5 stands for no owner (R134). -/
def ToneOwner.rank : ToneOwner → Nat
  | .drawerAlarm => 1
  | .bagAlert => 2
  | .cardBeep => 3
  | .beep => 4
  | .none => 5

/-- The frequency a requester sounds (R134). -/
def toneFrequency (owner : ToneOwner) (beep : Option BeepParams) : Nat :=
  match owner with
  | .drawerAlarm => 2000
  | .bagAlert => 3000
  | .cardBeep => 2500
  | .beep => (beep.map BeepParams.frequency).getD 500
  | .none => 2000

/-- A step of a pattern: sounding or silent, and its length in ms (R134). -/
def patternStep (owner : ToneOwner) (beep : Option BeepParams) (step : Nat) : Bool × Nat :=
  match owner with
  | .drawerAlarm => (step % 2 == 0, 500)
  | .bagAlert => (step % 2 == 0, if step = 5 then 4000 else 200)
  | .cardBeep => (true, 100)
  | .beep => if step % 2 = 0 then (true, (beep.map BeepParams.onTime).getD 0) else (false, 100)
  | .none => (false, 0)

/-- The step after one of a pattern; absent where a one-shot has ended, at the end of its last on part (R134). -/
def nextStep (owner : ToneOwner) (beep : Option BeepParams) (step : Nat) : Option Nat :=
  match owner with
  | .drawerAlarm => some ((step + 1) % 2)
  | .bagAlert => some ((step + 1) % 6)
  | .cardBeep => none
  | .beep => if step + 1 < 2 * (beep.map BeepParams.count).getD 0 - 1 then some (step + 1) else none
  | .none => none

/-- The frequency of the tone that the owner sounds (R134). -/
def Tone.frequency (t : Tone) : Nat := toneFrequency t.owner t.beep

/-- A tone of frequency `f` is to start (R133). While the output is silent its half-period is loaded at once; while the
output sounds a tone of another frequency `old` it becomes the pending one; a tone of the same frequency goes on. -/
def Tone.sound (old f : Nat) (t : Tone) : Tone :=
  if t.sounding then
    if old = f then t else { t with pendingHalf := some (halfPeriodOf f) }
  else
    { t with
      sounding := true
      level := false
      halfPeriod := halfPeriodOf f
      pendingHalf := none
      toggleCounter := halfPeriodOf f }

/-- The output falls silent: low at once, the counter stopped, a pending half-period discarded (R133). -/
def Tone.silence (t : Tone) : Tone :=
  { t with
    sounding := false
    level := false
    pendingHalf := none
    toggleCounter := 0 }

/-- A requester gains the output and its pattern starts at its first step (R134). The tone that may be sounding until
then is that of the owner before. -/
def Tone.gain (owner : ToneOwner) (beep : Option BeepParams) (t : Tone) : Tone :=
  Tone.sound t.frequency (toneFrequency owner beep)
    { t with
      owner := owner
      beep := beep
      position := some { step := 0, remaining := (patternStep owner beep 0).2 } }

/-- The highest held request gains the output, or the output falls silent with no owner (R135). -/
def Tone.release (t : Tone) : Tone :=
  if t.drawerAlarmHeld then t.gain .drawerAlarm none
  else if t.bagAlertHeld then t.gain .bagAlert none
  else { t.silence with owner := .none, position := none, beep := none }

/-- A held request is marked as held or not. -/
def Tone.mark (owner : ToneOwner) (held : Bool) (t : Tone) : Tone :=
  match owner with
  | .drawerAlarm => { t with drawerAlarmHeld := held }
  | .bagAlert => { t with bagAlertHeld := held }
  | _ => t

/-- A held request is placed (R135). -/
def Tone.placeHeld (owner : ToneOwner) (t : Tone) : Tone :=
  let t' := t.mark owner true
  if owner.rank < t.owner.rank then t'.gain owner none else t'

/-- A held request is withdrawn (R135). -/
def Tone.withdraw (owner : ToneOwner) (t : Tone) : Tone :=
  let t' := t.mark owner false
  if t.owner = owner then t'.release else t'

/-- A one-shot is placed: dropped while a held request exists or a one-shot of higher precedence owns the output
(R135). -/
def Tone.placeOneShot (owner : ToneOwner) (beep : Option BeepParams) (t : Tone) : Tone :=
  if t.drawerAlarmHeld || t.bagAlertHeld || decide (t.owner.rank < owner.rank) then t else t.gain owner beep

/-- The current step of the owner's pattern ends (R134). -/
def Tone.stepEnd (t : Tone) : Tone :=
  match t.position with
  | none => t
  | some p =>
    match nextStep t.owner t.beep p.step with
    | none => t.release
    | some k =>
      let part := patternStep t.owner t.beep k
      let t' := { t with position := some { step := k, remaining := part.2 } }
      if part.1 then t'.sound t.frequency t.frequency else t'.silence

/-- The toggle counter expires (R133): the output changes level and the counter reloads. -/
def Tone.toggle (t : Tone) : Tone :=
  if t.sounding then
    match t.pendingHalf with
    | some h =>
      { t with
        level := !t.level
        halfPeriod := h
        pendingHalf := none
        toggleCounter := h }
    | none =>
      { t with
        level := !t.level
        toggleCounter := t.halfPeriod }
  else t

/-- Place a held request. -/
def placeHeld (owner : ToneOwner) (s : State) : State := { s with tone := s.tone.placeHeld owner }

/-- Withdraw a held request. -/
def withdrawHeld (owner : ToneOwner) (s : State) : State := { s with tone := s.tone.withdraw owner }

/-- Place a one-shot. -/
def placeOneShot (owner : ToneOwner) (beep : Option BeepParams) (s : State) : State :=
  { s with tone := s.tone.placeOneShot owner beep }

/-- The card beep after a GOOD or IGNORED_BUSY verdict (R111). -/
def placeCardBeep (s : State) : State := placeOneShot .cardBeep none s

/-- BEEP (R136). -/
def beepRequest (frequency onTime : Half) (count : Byte) (s : State) : State × Answer :=
  if ¬(500 ≤ frequency.toNat ∧ frequency.toNat ≤ 4000 ∧ 10 ≤ onTime.toNat ∧ onTime.toNat ≤ 2000 ∧
      1 ≤ count.toNat ∧ count.toNat ≤ 5) then refuse .badValue s
  else if s.tone.drawerAlarmHeld ∨ s.tone.bagAlertHeld ∨ s.tone.owner = .cardBeep then refuse .busy s
  else
    done (placeOneShot .beep
      (some { frequency := frequency.toNat, onTime := onTime.toNat, count := count.toNat }) s)

end Sys2Proof.Machine
end

