-- ==== Sys2Proof/Machine/CardReader.lean ====
section
/-! DEFINITION. The Card Reader (chapter 5, R97 to R119). -/

namespace Sys2Proof.Machine

/-! ### The cell decoder (R100 to R102) -/

/-- A saturated interval (R97). -/
def saturatedInterval (i : Nat) : Bool := decide (65535 ≤ i)

/-- The starting period of an attempt of six intervals, when it succeeds (R100). -/
def startingPeriod : List Nat → Option Nat
  | [_, _, a, b, c, d] =>
    let p := (a + b + c + d) / 4
    if 40 ≤ p ∧ p ≤ 2000 ∧ !saturatedInterval a ∧ !saturatedInterval b ∧ !saturatedInterval c ∧
        !saturatedInterval d then some p
    else none
  | _ => none

/-- An interval taken in SEEKING: the attempt goes on, succeeds or starts anew (R100). -/
def seek (attempt : List Nat) : Decoder :=
  if attempt.length < 6 then .seeking attempt
  else
    match startingPeriod attempt with
    | some p => .locked p none
    | none => .seeking []

/-- An interval is long against a period (R101). -/
def longInterval (i p : Nat) : Bool := decide (3 * p ≤ 4 * i)

/-- A bit appended by a decoder that was LOCKED with period `period` and goes on with `next` (R102). -/
def Track.appendBit (bit : Bool) (period next : Nat) (t : Track) : Track :=
  if t.bits.length < 1024 then
    { t with
      bits := t.bits ++ [bit]
      decoder := .locked next none }
  else { t with decoder := .tooLong period }

/-- An interval given to the decoder (R100, R101). -/
def Track.interval (i : Nat) (t : Track) : Track :=
  match t.decoder with
  | .seeking attempt => { t with decoder := seek (attempt ++ [i]) }
  | .locked p half =>
    if saturatedInterval i then { t with decoder := .clockLost p }
    else
      match half with
      | none =>
        if longInterval i p then t.appendBit false p ((3 * p + i) / 4)
        else { t with decoder := .locked p (some i) }
      | some h =>
        if longInterval i p then { t with decoder := .clockLost p }
        else t.appendBit true p ((3 * p + h + i) / 4)
  | .clockLost _ => t
  | .tooLong _ => t

/-! ### The swipe (R97 to R99) -/

/-- One head's track. -/
def Reader.track (r : Reader) : HeadId → Track
  | .alpha => r.alpha
  | .numeric => r.numeric

/-- One head's track replaced. -/
def Reader.withTrack (h : HeadId) (t : Track) (r : Reader) : Reader :=
  match h with
  | .alpha => { r with alpha := t }
  | .numeric => { r with numeric := t }

/-- A track at the begin of a swipe (R98). -/
def Track.begun (t : Track) : Track :=
  { t with
    seen := false
    decoder := .seeking []
    bits := [] }

/-- The bits are erased and the decoder is SEEKING, as at a swipe's end (R102). -/
def Track.erased (t : Track) : Track :=
  { t with
    decoder := .seeking []
    bits := [] }

/-- A swipe that begins now is decoded (R99). -/
def swipeDecodes (s : State) : Bool := s.sale.current.state != .idle && s.live.cardReaderEnable

/-- A transition on a head while ARMED begins a swipe; it yields no interval (R97, R98). -/
def beginSwipe (h : HeadId) (s : State) : State :=
  let r : Reader :=
    { s.reader with
      gap := .swipe
      decoded := swipeDecodes s
      gapTimer := 20
      alpha := s.reader.alpha.begun
      numeric := s.reader.numeric.begun }
  { s with reader := r.withTrack h { r.track h with timer := 0, seen := true } }

/-- SWIPE_BEGIN; in SWIPE it cannot arise and changes nothing (log 27). -/
def swipeBegins (h : HeadId) (s : State) : State :=
  match s.reader.gap with
  | .armed => beginSwipe h s
  | .swipe => s

/-- A transition within a swipe (R97, R98, R99): it restarts the gap timer and the capture timer, and its interval goes
to the decoder unless it is the head's first of the swipe or the swipe is ignored. -/
def transitionInSwipe (h : HeadId) (elapsed : Nat) (s : State) : State :=
  let t := s.reader.track h
  let captured := min 65535 (t.timer + elapsed)
  let t1 := { t with timer := 0, seen := true }
  let t2 := if t.seen && s.reader.decoded then t1.interval captured else t1
  { s with reader := Reader.withTrack h t2 { s.reader with gapTimer := 20 } }

/-- A flux transition `elapsed` microseconds after the capture timer was last brought up to date (log 16). While ARMED
it begins a swipe (log 27). -/
def fluxArrives (h : HeadId) (elapsed : Nat) (s : State) : State :=
  match s.reader.gap with
  | .armed => beginSwipe h s
  | .swipe => transitionInSwipe h elapsed s

/-- A decoded swipe in progress becomes ignored: the bits gathered so far are erased (R99, R102). The decoders return to
SEEKING at the swipe's end (log 40). -/
def ignoreSwipe (s : State) : State :=
  if s.reader.gap = .swipe ∧ s.reader.decoded then
    { s with reader := { s.reader with
      decoded := false
      alpha := { s.reader.alpha with bits := [] }
      numeric := { s.reader.numeric with bits := [] } } }
  else s

/-! ### Track parsing (R103 to R106) -/

/-- The format of a track (R103). -/
structure TrackFormat where
  width   : Nat
  start   : Nat
  finish  : Nat
  separator : Nat
  zeroDigit : Nat
  longest : Nat

/-- The formats of R103; `zeroDigit` is the value of the digit 0. -/
def trackFormat : HeadId → TrackFormat
  | .numeric => { width := 5, start := 11, finish := 15, separator := 13, zeroDigit := 0, longest := 40 }
  | .alpha => { width := 7, start := 5, finish := 31, separator := 62, zeroDigit := 16, longest := 79 }

/-- The number a list of bits spells, the least significant first. -/
def bitsValue : List Bool → Nat
  | [] => 0
  | b :: bs => (if b then 1 else 0) + 2 * bitsValue bs

/-- The data value of a character of w bits, its parity bit last (R103). -/
def charValue (w : Nat) (bits : List Bool) : Nat := bitsValue (bits.take (w - 1))

/-- Odd parity over a character's bits (R103). -/
def oddParity (bits : List Bool) : Bool := countWhere (fun b => b) bits % 2 == 1

/-- The outcome of a parse pass: GOOD with the characters between the sentinels, or a failure (R104). -/
inductive PassOutcome where
  | good (chars : List Nat)
  | failed (status : TrackStatus)
  deriving DecidableEq, Repr

/-- Step 5 of a pass: the LRC character (R104). -/
def checkLrc (f : TrackFormat) (lrc : Nat) (chars : List Nat) (bits : List Bool) : PassOutcome :=
  if bits.length < f.width then .failed .noEnd
  else
    let c := bits.take f.width
    if charValue f.width c = lrc ∧ oddParity c then .good chars else .failed .lrc

/-- Steps 3 and 4 of a pass (R104): characters up to the end sentinel. `chars` are those read so far between the
sentinels, `lrc` the exclusive-or of all read, and `fuel` is how many more may be read. -/
def readChars (f : TrackFormat) : Nat → Nat → List Nat → List Bool → PassOutcome
  | 0, _, _, _ => .failed .tooLong
  | fuel + 1, lrc, chars, bits =>
    if bits.length < f.width then .failed .noEnd
    else
      let c := bits.take f.width
      let v := charValue f.width c
      if oddParity c = false then .failed .parity
      else if v = f.finish then checkLrc f (lrc ^^^ v) chars (bits.drop f.width)
      else readChars f fuel (lrc ^^^ v) (chars ++ [v]) (bits.drop f.width)

/-- Steps 1 and 2 of a pass, from its first 1 on (R104). -/
def passFrom (f : TrackFormat) (bits : List Bool) : PassOutcome :=
  if bits.length < f.width then .failed .noStart
  else
    let c := bits.take f.width
    if charValue f.width c ≠ f.start then .failed .noStart
    else if oddParity c = false then .failed .parity
    else readChars f (f.longest - 1) f.start [] (bits.drop f.width)

/-- A parse pass: zeros are skipped to the first 1 (R104). -/
def parsePass (f : TrackFormat) (bits : List Bool) : PassOutcome := passFrom f (bits.dropWhile fun b => !b)

/-- A buffer parsed forwards, and backwards when no start is found (R105). -/
def parseTrack (f : TrackFormat) (bits : List Bool) : PassOutcome × SwipeDirection :=
  match parsePass f bits with
  | .failed .noStart => (parsePass f bits.reverse, .reverse)
  | x => (x, .forward)

/-- What a track of a decoded swipe gives (R106). -/
def Track.result (h : HeadId) (t : Track) : TrackData :=
  if t.seen = false then { status := .absent, chars := [], direction := none }
  else
    match parseTrack (trackFormat h) t.bits with
    | (.good chars, d) => { status := .good, chars := chars, direction := some d }
    | (.failed st, _) =>
      { status :=
          match t.decoder with
          | .clockLost _ => .clockLost
          | .tooLong _ => .tooLong
          | .seeking _ => st
          | .locked _ _ => st
        chars := []
        direction := none }

/-! ### The account (R107 to R109) -/

/-- The characters of a track before its first separator (R107). -/
def beforeSeparator (sep : Nat) (chars : List Nat) : List Nat := chars.takeWhile fun v => v != sep

/-- The digits of account characters, absent when one of them is no digit (R107). -/
def digitsOf (zeroDigit : Nat) : List Nat → Option (List Nat)
  | [] => some []
  | v :: vs =>
    match digitsOf zeroDigit vs with
    | some ds => if zeroDigit ≤ v ∧ v ≤ zeroDigit + 9 then some ((v - zeroDigit) :: ds) else none
    | none => none

/-- A doubled digit, less 9 when it is above 9 (R108). -/
def doubledDigit (d : Nat) : Nat := if 9 < 2 * d then 2 * d - 9 else 2 * d

/-- The sum of R108 over digits taken from the rightmost on; the first is never doubled. -/
def checkSum : Bool → List Nat → Nat
  | _, [] => 0
  | double, d :: ds => (if double then doubledDigit d else d) + checkSum (!double) ds

/-- The mod-10 check (R108). -/
def modTenPasses (digits : List Nat) : Bool := checkSum false digits.reverse % 10 == 0

/-- The account of a swipe (R107): a reason and the source where one was used, or the digits with their source. -/
inductive AccountResult where
  | bad (reason : BadReason) (source : Option Source)
  | good (digits : List Nat) (source : Source)
  deriving DecidableEq, Repr

/-- The account characters checked in order (R107). -/
def checkAccount (source : Source) (zeroDigit : Nat) (chars : List Nat) : AccountResult :=
  match digitsOf zeroDigit chars with
  | none => .bad .accountCharacter (some source)
  | some ds =>
    if ¬(12 ≤ ds.length ∧ ds.length ≤ 19) then .bad .accountLength (some source)
    else if modTenPasses ds then .good ds source
    else .bad .accountCheck (some source)

/-- The account is taken from the numeric track, otherwise from the alpha track after its format character (R107). -/
def accountOf (numeric alpha : TrackData) : AccountResult :=
  if numeric.status = .good then checkAccount .numeric 0 (beforeSeparator 13 numeric.chars)
  else if alpha.status = .good then checkAccount .alpha 16 (beforeSeparator 62 (alpha.chars.drop 1))
  else .bad .noGoodTrack none

/-- The masked account of account digits (R109). -/
def maskedOf (digits : List Nat) : MaskedAccount where
  length := digits.length
  last4  := digits.drop (digits.length - 4)

/-! ### The card slot (R112 to R119) -/

/-- The slot changed. -/
def setSlot (x : CardSlot) (s : State) : State := { s with reader := { s.reader with slot := x } }

/-- The slot is emptied and all it held is erased (R117, R118). -/
def emptySlot (s : State) : State := setSlot .empty s

/-- The masked account the slot holds (R112). -/
def CardSlot.masked? : CardSlot → Option MaskedAccount
  | .empty => none
  | .held _ m _ => some m
  | .attached _ m => some m
  | .released _ m => some m

/-- The source of the account the slot holds (R119). -/
def CardSlot.source? : CardSlot → Option Source
  | .empty => none
  | .held d _ _ => some d.source
  | .attached d _ => some d.source
  | .released x _ => some x

/-- The slot's state as READ_CARD numbers it: EMPTY, HELD, ATTACHED, RELEASED (R119). -/
def CardSlot.stateIndex : CardSlot → Nat
  | .empty => 0
  | .held .. => 1
  | .attached .. => 2
  | .released .. => 3

/-- The hold time remaining, while HELD (R119). -/
def CardSlot.holdMs : CardSlot → Option Nat
  | .held _ _ t => some t
  | _ => none

/-- The slot is HELD. -/
def CardSlot.isHeld : CardSlot → Bool
  | .held .. => true
  | _ => false

/-- The slot takes a good read: it is EMPTY or HELD (R110). -/
def CardSlot.takesCard : CardSlot → Bool
  | .empty => true
  | .held .. => true
  | _ => false

/-- The verdict of a decoded swipe, with its CARD_READ, the slot and the card beep (R110, R111). -/
def judgeSwipe (numeric alpha : TrackData) (s : State) : State :=
  match accountOf numeric alpha with
  | .bad reason source =>
    report (.cardRead .bad numeric.status alpha.status numeric.direction alpha.direction (some reason) source
      none none) s
  | .good digits source =>
    let m := maskedOf digits
    if s.reader.slot.takesCard then
      placeCardBeep
        (report (.cardRead .good numeric.status alpha.status numeric.direction alpha.direction none (some source)
            (some m) (some s.reader.slot.isHeld))
          (setSlot
            (.held { numeric := numeric, alpha := alpha, digits := digits, source := source } m
              (s.live.cardHold * 1000)) s))
    else
      placeCardBeep
        (report (.cardRead .ignoredBusy numeric.status alpha.status numeric.direction alpha.direction none
          (some source) (some m) none) s)

/-- The reader returns to ARMED with both buffers erased and both decoders SEEKING (R98, R102). -/
def armReader (s : State) : State :=
  { s with reader := { s.reader with
    gap := .armed
    decoded := false
    alpha := s.reader.alpha.erased
    numeric := s.reader.numeric.erased } }

/-- The gap timer expires (R98, R110): a decoded swipe is judged, an ignored one dropped. -/
def swipeEnds (s : State) : State :=
  match s.reader.gap with
  | .armed => s
  | .swipe =>
    if s.reader.decoded then
      armReader (judgeSwipe (s.reader.numeric.result .numeric) (s.reader.alpha.result .alpha) s)
    else armReader s

/-- The hold timer of a HELD card expires (R114). -/
def holdExpires (s : State) : State :=
  match s.reader.slot with
  | .held _ m _ => report (.cardExpired m) (emptySlot s)
  | _ => s

/-- RELEASE_CARD (R116). -/
def releaseCardRequest (s : State) : State × Answer :=
  match s.reader.slot with
  | .attached d m => answer (.cardRelease d m) (setSlot (.released d.source m) s)
  | _ => refuse .noCard s

/-- DISCARD_CARD (R118). -/
def discardCardRequest (s : State) : State × Answer :=
  if s.reader.slot.takesCard then done (emptySlot s) else refuse .badState s

/-- READ_CARD (R119). -/
def readCardRequest (s : State) : State × Answer :=
  answer (.cardSlot s.reader.slot.stateIndex s.reader.slot.masked? s.reader.slot.source? s.reader.slot.holdMs
    s.reader.gap s.live.cardReaderEnable) s

end Sys2Proof.Machine
end

