-- ==== Sys2Proof/Machine/SupplyBudget.lean ====
section
/-! DEFINITION. The Supply Arbiter (chapter 7): the grant walk with what each grant begins, requests, withdrawals,
releases and the budget. -/

namespace Sys2Proof.Machine

/-! ### Grants and needs -/

/-- The units granted in total (section 7.1). -/
def Grants.total (g : Grants) : Nat := g.drawer + g.cutter + g.motor + g.head

/-- The units of one requester. -/
def Grants.of (g : Grants) : Requester → Nat
  | .drawer => g.drawer
  | .cutter => g.cutter
  | .motor => g.motor
  | .head => g.head

/-- Units added to one requester. -/
def Grants.add (g : Grants) (r : Requester) (n : Nat) : Grants :=
  match r with
  | .drawer => { g with drawer := g.drawer + n }
  | .cutter => { g with cutter := g.cutter + n }
  | .motor => { g with motor := g.motor + n }
  | .head => { g with head := g.head + n }

/-- Units taken back from one requester. -/
def Grants.sub (g : Grants) (r : Requester) (n : Nat) : Grants :=
  match r with
  | .drawer => { g with drawer := g.drawer - n }
  | .cutter => { g with cutter := g.cutter - n }
  | .motor => { g with motor := g.motor - n }
  | .head => { g with head := g.head - n }

/-- The need of a requester's waiting request. -/
def Needs.of (w : Needs) : Requester → Option Nat
  | .drawer => w.drawer
  | .cutter => w.cutter
  | .motor => w.motor
  | .head => w.head

/-- The waiting request of one requester replaced. -/
def Needs.put (w : Needs) (r : Requester) (n : Option Nat) : Needs :=
  match r with
  | .drawer => { w with drawer := n }
  | .cutter => { w with cutter := n }
  | .motor => { w with motor := n }
  | .head => { w with head := n }

/-- free: B less the sum granted (section 7.1). -/
def Supply.free (v : Supply) : Nat := v.budget - v.granted.total

/-- The units a request is granted from `free`, when it fits (R139, R140): the head takes the smaller of its desired
count and free, the others take their whole need. -/
def grantFor (r : Requester) (need free : Nat) : Option Nat :=
  match r with
  | .head => if 1 ≤ free then some (min need free) else none
  | _ => if need ≤ free then some need else none

/-! ### What a grant begins -/

/-- The head's phase begins: it strobes the next 32 × u dots of the class from the left (R172). -/
def Engine.beginPhase (units : Nat) (e : Engine) : Engine :=
  match e.row with
  | none => { e with phase := some { dots := 0, duration := 0 } }
  | some r =>
    if r.newLeft ≠ 0 then
      let d := leftmostDots r.newLeft (32 * units)
      { e with
        row := some { r with newLeft := r.newLeft &&& ~~~d }
        phase := some { dots := d, duration := r.newTime } }
    else
      let d := leftmostDots r.histLeft (32 * units)
      { e with
        row := some { r with histLeft := r.histLeft &&& ~~~d }
        phase := some { dots := d, duration := r.histTime } }

/-- A paper step begins: the pending step period becomes the period in force (R173). -/
def Engine.beginStep (e : Engine) : Engine :=
  { e with
    stepRunning := some e.pendingPeriod
    periodInForce := e.pendingPeriod }

/-- A cut cycle begins: the timer starts at 1,000 ms, and a blade already away has been seen away (R177). -/
def Engine.beginCut (home : Bool) (e : Engine) : Engine :=
  { e with
    cutter := .cutting
    cutTimer := some 1000
    seenAway := !home }

/-- A pull-in begins: the attempt count rises by one and the phase timer starts (R123, R124). -/
def Drawer.beginPull (pullMs : Nat) (d : Drawer) : Drawer :=
  { d with
    state := .pullIn
    attempts := d.attempts + 1
    phaseTimer := some pullMs }

/-- The work a grant begins. -/
def beginWork (r : Requester) (units : Nat) (s : State) : State :=
  match r with
  | .drawer => { s with drawer := s.drawer.beginPull s.live.drawerPullMs }
  | .cutter => { s with engine := s.engine.beginCut s.inputs.cutterHome }
  | .motor => { s with engine := s.engine.beginStep }
  | .head => { s with engine := s.engine.beginPhase units }

/-- One request granted (R139). -/
def grantUnits (r : Requester) (units : Nat) (s : State) : State :=
  beginWork r units
    { s with supply := { s.supply with
      granted := s.supply.granted.add r units
      waiting := s.supply.waiting.put r none } }

/-- The walk over a list of requesters, which stops at the first request that does not fit (R139). -/
def walkOver : List Requester → State → State
  | [], s => s
  | r :: rest, s =>
    match s.supply.waiting.of r with
    | none => walkOver rest s
    | some need =>
      match grantFor r need s.supply.free with
      | some units => walkOver rest (grantUnits r units s)
      | none => s

/-- The walk in precedence, which grants nothing in SUPPLY_LOW (R139, R143). No report is queued. -/
def walkQuietly (s : State) : State :=
  if s.supply.low then s else walkOver [.drawer, .cutter, .motor, .head] s

/-- One DRAWER_STATE report (R132); the kick source is carried by KICK and KICK_SKIPPED alone. -/
def drawerReport (left : DrawerState) (cause : DrawerCause) (s : State) : State :=
  report (.drawerState s.drawer.state left cause s.drawer.attempts
    (if cause = .kick then s.drawer.kickSource else none)) s

/-- The walk with the report of a drawer that had stopped in WAIT_SUPPLY and is granted (R123, R139). -/
def walk (s : State) : State :=
  let s' := walkQuietly s
  if s.drawer.state = .waitSupply ∧ s'.drawer.state = .pullIn then drawerReport .waitSupply .granted s' else s'

/-- A request is placed and waits; the walk it causes is the caller's (R138). -/
def placeNeed (r : Requester) (need : Nat) (s : State) : State :=
  { s with supply := { s.supply with waiting := s.supply.waiting.put r (some need) } }

/-- A request with its walk (R138, R139). -/
def requestUnits (r : Requester) (need : Nat) (s : State) : State := walk (placeNeed r need s)

/-- A withdrawal: the waiting request goes and a walk follows; with none waiting nothing changes (R138). -/
def withdrawRequest (r : Requester) (s : State) : State :=
  match s.supply.waiting.of r with
  | none => s
  | some _ => walk { s with supply := { s.supply with waiting := s.supply.waiting.put r none } }

/-- The live `supply_budget` becomes B once nothing is granted, with one SUPPLY_STATE report (R142). -/
def settleBudget (s : State) : State :=
  if s.supply.granted.total = 0 ∧ s.live.supplyBudget ≠ s.supply.budget then
    report (.supplyState s.supply.low s.supply.low .budget s.live.supplyBudget 0)
      { s with supply := { s.supply with budget := s.live.supplyBudget } }
  else s

/-- A release: the units go back, a pending budget may take effect, and a walk follows (R141, R142). -/
def releaseUnits (r : Requester) (units : Nat) (s : State) : State :=
  walk (settleBudget { s with supply := { s.supply with granted := s.supply.granted.sub r units } })

/-- A release of all that a requester holds. -/
def releaseAll (r : Requester) (s : State) : State := releaseUnits r (s.supply.granted.of r) s

/-- What a SET of `supply_budget` does once the live value has changed: B follows at once when nothing is granted,
with a walk (R142). -/
def budgetSet (s : State) : State := walk (settleBudget s)

/-- READ_SUPPLY (R145). -/
def readSupplyRequest (s : State) : State × Answer :=
  answer (.supply s.supply.low s.supply.budget
    (if s.live.supplyBudget ≠ s.supply.budget then some s.live.supplyBudget else none)
    s.supply.free s.supply.granted s.supply.waiting) s

end Sys2Proof.Machine
end

