-- ==== Sys2Proof/Machine/CashDrawer.lean ====
section
/-! DEFINITION. The Drawer Controller (sections 6.1 to 6.5, R120 to R132). -/

namespace Sys2Proof.Machine

/-- The sense the drawer acts on: CLOSED at all times while `drawer_sense_present` is off (R120). -/
def State.senseIsOpen (s : State) : Bool := s.live.drawerSensePresent && s.drawer.senseOpen

/-- A move of the drawer to another state. -/
def setDrawer (state : DrawerState) (s : State) : State := { s with drawer := { s.drawer with state := state } }

/-- The kick states (section 6.2). -/
def DrawerState.inKick : DrawerState → Bool
  | .waitSupply | .pullIn | .hold | .cool => true
  | _ => false

/-- The drawer enters OPEN: the phase timer stops and the alarm timer starts unless `drawer_alarm_s` is 0 (R128). -/
def enterOpen (s : State) : State :=
  { s with drawer := { s.drawer with
    state := .opened
    phaseTimer := none
    alarmTimer := if s.live.drawerAlarmS = 0 then none else some (s.live.drawerAlarmS * 1000) } }

/-- The drawer enters CLOSED: its timers stop. -/
def enterClosed (s : State) : State :=
  { s with drawer := { s.drawer with
    state := .closed
    phaseTimer := none
    alarmTimer := none } }

/-- The drawer enters COOL: the phase timer starts at 200 ms (R127). -/
def enterCool (s : State) : State :=
  { s with drawer := { s.drawer with
    state := .cool
    phaseTimer := some 200 } }

/-- The drawer enters JAMMED (R129). -/
def enterJammed (s : State) : State :=
  { s with drawer := { s.drawer with
    state := .jammed
    phaseTimer := none } }

/-- An attempt begins: WAIT_SUPPLY and a request for 14 units (R123). The walk is the request's own, so a grant at
the request passes through WAIT_SUPPLY without stopping, and one report names the state reached. -/
def beginAttempt (cause : DrawerCause) (s : State) : State :=
  let s' := walkQuietly (placeNeed .drawer 14
    { s with drawer := { s.drawer with state := .waitSupply, phaseTimer := none } })
  drawerReport s.drawer.state cause s'

/-- A kick request (R122): accepted by a CLOSED drawer, skipped otherwise. -/
def kick (source : KickSource) (s : State) : State :=
  if s.drawer.state = .closed then
    beginAttempt .kick { s with drawer := { s.drawer with attempts := 0, kickSource := some source } }
  else
    report (.drawerState s.drawer.state s.drawer.state .kickSkipped s.drawer.attempts (some source)) s

/-- The end of a drive (R126): all units are released, then the first state that applies is entered. -/
def endDrive (cause : DrawerCause) (s : State) : State :=
  let s1 := releaseAll .drawer s
  let s2 :=
    if s1.live.drawerSensePresent = false then enterClosed s1
    else if s1.drawer.senseOpen then enterOpen s1
    else if s1.drawer.attempts = 1 then enterCool s1
    else enterJammed s1
  drawerReport s.drawer.state cause s2

/-- The hold begins: 9 of 14 units are returned and the phase timer starts (R125). -/
def beginHold (s : State) : State :=
  let s1 := { s with drawer := { s.drawer with
    state := .hold
    phaseTimer := some s.live.drawerHoldMs } }
  drawerReport .pullIn .pullEnd (releaseUnits .drawer 9 s1)

/-- A sense change to OPEN given to the state machine (R123 to R129). -/
def senseToOpen (s : State) : State :=
  match s.drawer.state with
  | .closed => drawerReport .closed .forced (enterOpen s)
  | .waitSupply => drawerReport .waitSupply .senseOpen (enterOpen (withdrawRequest .drawer s))
  | .hold => endDrive .senseOpen s
  | .cool => drawerReport .cool .senseOpen (enterOpen s)
  | .jammed => drawerReport .jammed .senseOpen (enterOpen s)
  | .pullIn | .opened | .openAlarm => s

/-- A sense change to CLOSED given to the state machine (R128). -/
def senseToClosed (s : State) : State :=
  match s.drawer.state with
  | .opened => drawerReport .opened .senseClosed (enterClosed s)
  | .openAlarm => withdrawHeld .drawerAlarm (drawerReport .openAlarm .senseClosed (enterClosed s))
  | .closed | .waitSupply | .pullIn | .hold | .cool | .jammed => s

/-- A sense change given to the state machine. -/
def senseGiven (isOpen : Bool) (s : State) : State := if isOpen then senseToOpen s else senseToClosed s

/-- The debounced sense changes level (R120); the state machine is told while `drawer_sense_present` is on. -/
def senseChanged (isOpen : Bool) (s : State) : State :=
  if s.drawer.senseOpen = isOpen then s
  else
    let s' := { s with drawer := { s.drawer with senseOpen := isOpen } }
    if s'.live.drawerSensePresent then senseGiven isOpen s' else s'

/-- What a SET of `drawer_sense_present` that changes the live value does (R120). -/
def sensePresentSet (s : State) : State :=
  if s.live.drawerSensePresent then senseGiven s.drawer.senseOpen s
  else if s.drawer.state = .opened ∨ s.drawer.state = .openAlarm then senseToClosed s
  else s

/-- The pull-in phase timer expires (R124). -/
def pullInEnds (s : State) : State :=
  if s.drawer.state = .pullIn then
    if s.live.drawerHoldMs = 0 ∨ s.senseIsOpen then endDrive .pullEnd s else beginHold s
  else s

/-- The hold phase timer expires (R125). -/
def holdEnds (s : State) : State := if s.drawer.state = .hold then endDrive .holdEnd s else s

/-- A PWM period boundary during a hold (R125). -/
def pwmBoundary (s : State) : State :=
  if s.drawer.state = .hold then
    { s with drawer := { s.drawer with dutyInForce := s.drawer.pendingDuty } }
  else s

/-- The cool timer expires (R127). -/
def coolEnds (s : State) : State :=
  if s.drawer.state = .cool then
    if s.live.drawerSensePresent then beginAttempt .coolEnd s
    else drawerReport .cool .coolEnd (enterClosed s)
  else s

/-- The alarm timer of an OPEN drawer expires (R128). -/
def alarmExpires (s : State) : State :=
  if s.drawer.state = .opened ∧ s.drawer.alarmTimer.isSome then
    placeHeld .drawerAlarm (drawerReport .opened .alarm
      { s with drawer := { s.drawer with state := .openAlarm, alarmTimer := none } })
  else s

/-- NO_SALE (R130). -/
def noSaleRequest (s : State) : State × Answer :=
  if s.attendant = false then refuse .notAttended s
  else if s.sale.current.state ≠ .idle then refuse .badState s
  else if s.drawer.state = .opened ∨ s.drawer.state = .openAlarm then refuse .drawerOpen s
  else if s.drawer.state.inKick then refuse .busy s
  else if s.drawer.state = .jammed then refuse .badState s
  else done (kick .noSale s)

/-- DRAWER_RESET (R131). -/
def drawerResetRequest (s : State) : State × Answer :=
  if s.attendant = false then refuse .notAttended s
  else if s.drawer.state ≠ .jammed then refuse .badState s
  else done (drawerReport .jammed .reset (enterClosed s))

/-- READ_DRAWER (R132). -/
def readDrawerRequest (s : State) : State × Answer :=
  answer (.drawer s.drawer.state s.drawer.attempts s.drawer.senseOpen s.live.drawerSensePresent
    s.drawer.alarmTimer s.supply.granted.drawer) s

end Sys2Proof.Machine
end

