-- ==== Sys2Proof/Machine/ReceiptLayout.lean ====
section
/-! DEFINITION. What a line says and what it looks like: the text layout of R150, the receipt layout of R156 to R161,
and the rendering of a line into dot rows (R168, R169). -/

namespace Sys2Proof.Machine

/-! ### Numbers written (R156, R157) -/

/-- The character of a digit. -/
def digitChar (n : Nat) : Byte := byteOf (0x30 + n % 10)

/-- The digits of a number before those already written; `fuel` bounds their count. -/
def decimalBefore : Nat → Nat → List Byte → List Byte
  | 0, _, acc => acc
  | fuel + 1, n, acc =>
    if n < 10 then digitChar n :: acc else decimalBefore fuel (n / 10) (digitChar n :: acc)

/-- A number in decimal without leading zeros, and 0 when it is 0. -/
def decimalText (n : Nat) : List Byte := decimalBefore 40 n []

/-- A number with exactly `d` digits and leading zeros. -/
def fixedText : Nat → Nat → List Byte
  | 0, _ => []
  | d + 1, n => fixedText d (n / 10) ++ [digitChar n]

/-- A money amount with `d` decimals (R156). -/
def amountText (d : Nat) (a : Int) : List Byte :=
  (if a < 0 then [0x2D] else []) ++ decimalText (a.natAbs / 10 ^ d) ++
    (if d = 0 then [] else 0x2E :: fixedText d (a.natAbs % 10 ^ d))

/-- A weight of g grams in kilograms with three decimals (R157). -/
def kilogramText (g : Int) : List Byte :=
  decimalText (g.toNat / 1000) ++ 0x2E :: fixedText 3 (g.toNat % 1000)

/-- The sale number as seven digits (R157). -/
def saleNumberText (n : Int) : List Byte := fixedText 7 n.toNat

/-! ### Receipt lines (R158 to R161) -/

/-- A NORMAL, LEFT aligned line (R158). -/
def plainLine (chars : List Byte) : LineRecord := .text chars false false false .left

/-- A NORMAL, CENTRE aligned line (R158). -/
def centredLine (chars : List Byte) : LineRecord := .text chars false false false .centre

/-- A text at the left cut to 31 less the amount's length, and the amount ending in the 32nd cell (R159). -/
def pairText (left amount : List Byte) : List Byte :=
  let cut := left.take (31 - amount.length)
  cut ++ List.replicate (32 - cut.length - amount.length) 0x20 ++ amount

/-- The lines of a basket entry (R159, R160). -/
def entryLines (d : Nat) (e : Entry) : List LineRecord :=
  match e.kind, e.weighing with
  | .void, _ => [plainLine (pairText (textOf "VOID " ++ e.description) (amountText d e.amount))]
  | .weighed, some w =>
    plainLine (pairText e.description (amountText d e.amount)) ::
      plainLine (textOf "  " ++ kilogramText w.netG ++ textOf " kg @ " ++ amountText d w.unitPrice ++ textOf "/kg") ::
      (if w.tareG = 0 then [] else [plainLine (textOf "  tare " ++ kilogramText w.tareG ++ textOf " kg")])
  | _, _ => [plainLine (pairText e.description (amountText d e.amount))]

/-- The line of a tender (R161). -/
def tenderLine (d : Nat) (t : Tender) : LineRecord :=
  match t.kind with
  | .cash => plainLine (pairText (textOf "CASH") (amountText d t.amount))
  | .card =>
    plainLine (pairText (textOf "CARD ****" ++ ((t.masked.map MaskedAccount.last4).getD []).map digitChar)
      (amountText d t.amount))

/-- The lines of all basket entries in entry-number order. -/
def basketLines (d : Nat) : List Entry → List LineRecord
  | [] => []
  | e :: es => entryLines d e ++ basketLines d es

/-- The texts that hold at least one character, centred. -/
def bannerLines : List (List Byte) → List LineRecord
  | [] => []
  | t :: ts => if t.isEmpty then bannerLines ts else centredLine t :: bannerLines ts

/-- The whole receipt of the closed slot (R158). -/
def receiptLines (kind : JobKind) (v : ReceiptSettings) (c : ClosedSale) : List LineRecord :=
  bannerLines v.headers ++
    [plainLine (textOf "SALE " ++ saleNumberText c.record.number)] ++
    (if kind = .copy then [.text (textOf "COPY") true false false .centre] else []) ++
    basketLines v.decimals c.record.basket ++
    [plainLine (List.replicate 32 0x2D)] ++
    [.text (pairText (textOf "TOTAL") (amountText v.decimals c.record.total)) false true false .left] ++
    c.record.tenders.map (tenderLine v.decimals) ++
    (if 0 < c.changeDue then [plainLine (pairText (textOf "CHANGE") (amountText v.decimals c.changeDue))] else []) ++
    bannerLines v.trailers ++
    [.feed 4, .cut]

/-! ### Layout and rendering (R150, R168, R169) -/

/-- The text placed among W character cells (R150). -/
def layoutCells (chars : List Byte) (doubleWidth : Bool) (align : Align) : List Byte :=
  let w := if doubleWidth then 16 else 32
  let before :=
    match align with
    | .left => 0
    | .centre => (w - chars.length) / 2
    | .right => w - chars.length
  (List.replicate before 0x20 ++ chars ++ List.replicate (w - before - chars.length) 0x20).take w

/-- A glyph row of a character; that of the space is all white (section 9.3, log 11). -/
def glyphRow (char : Byte) (row : Nat) : GlyphRow := if char = 0x20 then 0 else Config.glyph char row

/-- Bold: the glyph row combined with itself moved one column to the right; what passes the twelfth column is dropped
(R168). -/
def boldRow (g : GlyphRow) : GlyphRow := g ||| (g <<< 1)

/-- Each column printed twice side by side (R168). -/
def doubleColumns (g : GlyphRow) : BitVec 24 :=
  (List.range 12).foldl (fun acc i => if g.getLsbD i then acc ||| ((3 : BitVec 24) <<< (2 * i)) else acc) 0

/-- One cell of a dot row, 12 or 24 dots wide, at its leftmost place. -/
def cellDots (char : Byte) (row : Nat) (doubleWidth bold : Bool) : Dots :=
  let g := if bold then boldRow (glyphRow char row) else glyphRow char row
  if doubleWidth then (doubleColumns g).setWidth 384 else g.setWidth 384

/-- The cells of a dot row side by side, the first at cell `k` (R168). -/
def cellsDots (row : Nat) (doubleWidth bold : Bool) : Nat → List Byte → Dots
  | _, [] => 0
  | k, c :: cs =>
    (cellDots c row doubleWidth bold <<< (k * if doubleWidth then 24 else 12)) |||
      cellsDots row doubleWidth bold (k + 1) cs

/-- The glyph rows of a TEXT record: 24, or 48 of DOUBLE height (R149, R168); the other kinds have none. -/
def glyphRows : LineRecord → Nat
  | .text _ _ h _ _ => if h then 48 else 24
  | _ => 0

/-- The rows of a line (R169). -/
def lineRows (r : LineRecord) (spacing : Nat) : Nat :=
  match r with
  | .text .. => glyphRows r + spacing
  | .feed n => n
  | .cut => 64

/-- The black dots of row `k` of a line, the first row being 0 (R168, R169); rows after the glyph rows are white. -/
def rowDots (r : LineRecord) (k : Nat) : Dots :=
  match r with
  | .text chars w h b a =>
    if k < glyphRows r then cellsDots (if h then k / 2 else k) w b 0 (layoutCells chars w a) else 0
  | .feed _ => 0
  | .cut => 0

end Sys2Proof.Machine
end

