-- ==== Sys2Proof/Machine/Printer.lean ====
section
/-! DEFINITION. The Print Queue and the Print Engine (chapters 8 and 9, R146 to R181). -/

namespace Sys2Proof.Machine

/-! ### Temperature, strobe times and speed (R171, R173) -/

/-- The temperature band of a head reading; 60 degrees and more gives g (R171). -/
def bandOf (temp : Int) : Band :=
  if temp < 10 then .a
  else if temp < 20 then .b
  else if temp < 30 then .c
  else if temp < 40 then .d
  else if temp < 50 then .e
  else if temp < 60 then .f
  else .g

/-- The base strobe time of a band in microseconds (R171). -/
def Band.base : Band → Nat
  | .a => 760
  | .b => 700
  | .c => 640
  | .d => 580
  | .e => 520
  | .f => 460
  | .g => 400

/-- The strobe time of a new dot (R171). -/
def newDotTime (band : Band) (density : Nat) : Nat := band.base * density / 100

/-- The strobe time of a history dot (R171). -/
def historyDotTime (band : Band) (density : Nat) : Nat := newDotTime band density * 3 / 4

/-- The step period of a speed index in microseconds (R173). -/
def stepPeriod : Nat → Nat
  | 0 => 2500
  | 1 => 1800
  | 2 => 1400
  | 3 => 1200
  | 4 => 1050
  | 5 => 950
  | 6 => 880
  | _ => 830

/-- A change of the speed index loads the pending step period at once (R173). -/
def Engine.setSpeed (i : Nat) (e : Engine) : Engine :=
  { e with
    speedIndex := i
    pendingPeriod := stepPeriod i }

/-- The speed index changed. -/
def setSpeed (i : Nat) (s : State) : State := { s with engine := s.engine.setSpeed i }

/-! ### Reports (R162, R181) -/

/-- One PRINTER_STATE report (R181). -/
def printerReport (left : PrinterCondition) (event : PrinterEvent) (cause : Option PauseCause) (s : State) : State :=
  report (.printerState s.engine.condition left s.engine.causes s.engine.paperLow event cause) s

/-- One PRINT_JOB report (R162). -/
def jobReport (j : Job) (left : Option JobState) (cause : JobCause) (linesDone : Nat) (s : State) : State :=
  report (.printJob j.id j.kind j.state left cause (if j.state = .paused then some j.reasons else none)
    j.saleNumber linesDone j.lineCount) s

/-! ### The queue (R146 to R154) -/

/-- The job in progress: the first job of the list, unless it is QUEUED (R152). -/
def PrintQueue.current (q : PrintQueue) : Option Job :=
  match q.jobs with
  | [] => none
  | j :: _ => if j.state = .queued then none else some j

/-- The first job of the list changed. -/
def PrintQueue.mapFirst (f : Job → Job) (q : PrintQueue) : PrintQueue :=
  match q.jobs with
  | [] => q
  | j :: rest => { q with jobs := f j :: rest }

/-- The line records TEXT jobs hold (R149). -/
def recordsHeld : List Job → Nat
  | [] => 0
  | j :: rest => j.records.length + recordsHeld rest

/-- The free records of the text line store (R149). -/
def PrintQueue.free (q : PrintQueue) : Nat := 96 - recordsHeld q.jobs

/-- The jobs of kinds TEXT and COPY (R148). -/
def PrintQueue.textAndCopy (q : PrintQueue) : Nat := countWhere (fun j => j.kind != .original) q.jobs

/-- The line of a job at its cursor: a TEXT job's record, a receipt job's composed line (R153, R164). -/
def jobLine (s : State) (j : Job) : Option LineRecord :=
  match j.settings, s.sale.closed with
  | some v, some c => (receiptLines j.kind v c)[j.cursor - 1]?
  | some _, none => none
  | none, _ => j.records[j.cursor - 1]?

/-- The engine is given the line at the cursor of the job in progress (R153); `line_spacing` is read. -/
def giveLine (s : State) : State :=
  match s.queue.current with
  | none => { s with engine := { s.engine with line := none } }
  | some j =>
    { s with engine := { s.engine with
      line := (jobLine s j).map fun r =>
        { record := r, rowsDone := 0, spacing := s.live.lineSpacing, interrupted := false } } }

/-! ### Rows (R170 to R174) -/

/-- The motor requests a step; a request left waiting sets the speed index to 0 (R173). -/
def requestMotor (s : State) : State :=
  let s' := requestUnits .motor 3 s
  if s'.supply.waiting.motor.isSome then setSpeed 0 s' else s'

/-- The next request of the row in progress: the new class, the history class, or the first step (R170, R172). -/
def rowRequest (s : State) : State :=
  match s.engine.row with
  | none => s
  | some r =>
    if r.newLeft ≠ 0 then requestUnits .head (unitsForDots (countDots r.newLeft)) s
    else if r.histLeft ≠ 0 then requestUnits .head (unitsForDots (countDots r.histLeft)) s
    else requestMotor s

/-- A row begins (R170): the band and the strobe times are taken, the dots are classed against the previous-row memory
and the first request is placed. -/
def beginRow (l : LineProgress) (s : State) : State :=
  let band := bandOf s.inputs.headTemp
  let dots := rowDots l.record l.rowsDone
  let density := s.live.printDensity
  rowRequest
    { s with engine := { s.engine with
      band := band
      line := some l
      row := some
        { dots := dots
          newLeft := dots &&& ~~~s.engine.memory
          histLeft := dots &&& s.engine.memory
          newTime := newDotTime band density
          histTime := historyDotTime band density
          pauseMark := false
          stepsDone := 0 } } }

/-- The cutter requests its 8 units (R177). -/
def requestCut (s : State) : State :=
  requestUnits .cutter 8 { s with engine := { s.engine with cutter := .waiting } }

/-- The engine goes on where it stands: it begins the next row of the line, or requests the cut. It does so only while
PRINTING (R170, R175), with no work of an abandoned line running (R180). `line_spacing` is read as a line's first row
begins (log 22). -/
def proceed (s : State) : State :=
  match s.engine.line with
  | none => s
  | some l =>
    if s.engine.condition = .printing ∧ s.engine.abandoned = false ∧ s.engine.row = none ∧ s.engine.cutter = .rest then
      let l' := if l.rowsDone = 0 then { l with spacing := s.live.lineSpacing } else l
      if l'.rowsDone < lineRows l'.record l'.spacing then beginRow l' s
      else if l'.record = .cut then requestCut s
      else s
    else s

/-- Where the engine has stopped inside a TEXT line's glyph rows with PAPER_OUT or COVER_OPEN held, the line is
interrupted (R176). -/
def markStop (s : State) : State :=
  match s.engine.line with
  | none => s
  | some l =>
    if s.engine.condition = .paused ∧ s.engine.row = none ∧ 1 ≤ l.rowsDone ∧ l.rowsDone < glyphRows l.record ∧
        (s.engine.causes.paperOut ∨ s.engine.causes.coverOpen) then
      { s with engine := { s.engine with line := some { l with interrupted := true } } }
    else s

/-! ### Jobs from start to end (R152, R153) -/

/-- The first job of the list starts (R152, R167): PRINTING, or PAUSED with the causes held. The previous-row memory is
made white (R174). -/
def startJob (cause : JobCause) (s : State) : State :=
  match s.queue.jobs with
  | [] => s
  | j :: rest =>
    if j.state = .queued ∧ s.engine.condition ≠ .fault then
      let paused := s.engine.causes.held
      let j' := { j with
        state := if paused then .paused else .printing
        reasons := if paused then s.engine.causes else Causes.none }
      let e := { s.engine with
        memory := 0
        condition := if paused then .paused else .printing }
      let s1 := giveLine
        { s with
          queue := { s.queue with jobs := j' :: rest }
          engine := if paused then e.setSpeed 0 else e }
      let s2 := jobReport j' (if cause = .accepted then none else some .queued) cause (j'.cursor - 1) s1
      let s3 :=
        if paused ∧ s.engine.condition ≠ .paused then printerReport s.engine.condition .jobStarted none s2 else s2
      proceed s3
    else s

/-- A job is accepted at the tail of the list (R147, R148) and starts when the list was empty and the printer is not in
FAULT (R152). -/
def acceptJob (j : Job) (s : State) : State :=
  let jobs := s.queue.jobs ++ [j]
  let s1 := { s with queue :=
    { jobs := jobs
      nextJobId := nextFreeId (jobs.map Job.id) (jobs.length + 1) s.queue.nextJobId } }
  if s.queue.jobs.isEmpty ∧ s.engine.condition ≠ .fault then startJob .accepted s1
  else jobReport j none .accepted 0 s1

/-- The receipt settings of R156 as the live settings stand. -/
def Settings.receipt (v : Settings) : ReceiptSettings where
  decimals := v.amountDecimals
  headers  := [v.header1, v.header2, v.header3, v.header4]
  trailers := [v.trailer1, v.trailer2, v.trailer3, v.trailer4]

/-- A receipt job for the closed slot (R147, R156). -/
def receiptJob (kind : JobKind) (c : ClosedSale) (s : State) : Job where
  id         := s.queue.nextJobId
  kind       := kind
  state      := .queued
  reasons    := Causes.none
  lineCount  := (receiptLines kind s.live.receipt c).length
  cursor     := 1
  records    := []
  saleNumber := some c.record.number
  settings   := some s.live.receipt

/-- A TEXT job with its line records (R147, R151). -/
def textJob (records : List LineRecord) (s : State) : Job where
  id         := s.queue.nextJobId
  kind       := .text
  state      := .queued
  reasons    := Causes.none
  lineCount  := records.length
  cursor     := 1
  records    := records
  saleNumber := none
  settings   := none

/-- The receipt state of the closed slot (R69). -/
def setReceipt (r : ReceiptState) (s : State) : State :=
  { s with sale := { s.sale with closed := s.sale.closed.map fun c => { c with receipt := r } } }

/-- The job in progress ends DONE (R153): it leaves the list, the closed slot is told of an ORIGINAL, the next job
starts, or the condition becomes IDLE (R167). -/
def jobDone (j : Job) (rest : List Job) (s : State) : State :=
  let s1 := setSpeed 0
    { s with
      queue := { s.queue with jobs := rest }
      engine := { s.engine with line := none } }
  let s2 := jobReport { j with state := .done } (some j.state) .done j.lineCount s1
  let s3 := if j.kind = .original then setReceipt .done s2 else s2
  if rest.isEmpty then
    let s4 := { s3 with engine := { s3.engine with condition := .idle } }
    if s.engine.condition = .paused then printerReport .paused .jobEnded none s4 else s4
  else startJob .started s3

/-- The engine reports the line in progress complete (R153, R169): the cursor advances and the next line is given, or
the job ends. -/
def lineComplete (s : State) : State :=
  match s.queue.jobs with
  | [] => { s with engine := { s.engine with line := none } }
  | j :: rest =>
    if j.cursor < j.lineCount then
      proceed (giveLine { s with queue := { s.queue with jobs := { j with cursor := j.cursor + 1 } :: rest } })
    else jobDone j rest s

/-! ### The engine's events (R172 to R180) -/

/-- The work of an abandoned line has ended: a job that waits for it may begin its first row (R180). -/
def abandonedEnds (s : State) : State :=
  proceed { s with engine := { s.engine with abandoned := false } }

/-- A strobe phase ends (R172). -/
def phaseEnds (s : State) : State :=
  match s.engine.phase with
  | none => s
  | some _ =>
    let s1 := releaseAll .head { s with engine := { s.engine with phase := none } }
    if s.engine.abandoned then abandonedEnds s1 else rowRequest s1

/-- After a row has ended (R174, R175): the line is complete, the engine stops, or it goes on. -/
def afterRow (s : State) : State :=
  match s.engine.line with
  | none => s
  | some l =>
    if lineRows l.record l.spacing ≤ l.rowsDone ∧ l.record ≠ .cut then lineComplete s
    else if s.engine.condition = .paused then markStop s
    else proceed s

/-- A row ends at its second step's end (R174): a row with the pause mark leaves the memory white and the index as it
is. -/
def rowEnds (r : RowProgress) (s : State) : State :=
  let e := { s.engine with
    row := none
    line := s.engine.line.map fun l => { l with rowsDone := l.rowsDone + 1 }
    memory := if r.pauseMark then 0 else r.dots }
  afterRow { s with engine := if r.pauseMark then e else e.setSpeed (min 7 (e.speedIndex + 1)) }

/-- A paper step ends (R173). DESIGN CHOICE (log 41): the step of an abandoned row only releases its units (R180); its end
is no row end, so the speed index does not rise and the memory does not take the row's dots. -/
def stepEnds (s : State) : State :=
  match s.engine.stepRunning with
  | none => s
  | some _ =>
    let s1 := releaseAll .motor { s with engine := { s.engine with stepRunning := none } }
    if s.engine.abandoned then abandonedEnds s1
    else
      match s1.engine.row with
      | none => s1
      | some r =>
        if r.stepsDone = 0 then
          requestMotor { s1 with engine := { s1.engine with row := some { r with stepsDone := 1 } } }
        else rowEnds r s1

/-- A cut cycle ends (R177). The reports of the release's walk come before those of the line's completion (DEDUCED, log
25). -/
def cutEnds (s : State) : State :=
  let s1 := setSpeed 0 (releaseAll .cutter
    { s with engine := { s.engine with
      cutter := .rest
      cutTimer := none
      seenAway := false } })
  if s.engine.abandoned then abandonedEnds s1 else lineComplete s1

/-- FAULT is left (R179): the condition becomes IDLE and a job first in the list starts. DESIGN CHOICE (log 42): clear taken
becomes no here; R179's list of changes does not name it, and R165 gives it a meaning in FAULT only. -/
def leaveFault (s : State) : State :=
  let e := { s.engine with
    condition := .idle
    cutter := .rest
    clearTaken := false
    line := none }
  startJob .started (printerReport .fault .faultLeft none { s with engine := e.setSpeed 0 })

/-- The home sensor reads home (R177, R179). -/
def homeReturns (s : State) : State :=
  let s1 := { s with inputs := { s.inputs with cutterHome := true } }
  if s1.engine.condition = .fault ∧ s1.engine.clearTaken then leaveFault s1
  else if s1.engine.cutter = .cutting ∧ s1.engine.seenAway then cutEnds s1
  else s1

/-- The home sensor reads away (R177). -/
def homeLeaves (s : State) : State :=
  { s with
    inputs := { s.inputs with cutterHome := false }
    engine := { s.engine with seenAway := s.engine.seenAway || s.engine.cutter == .cutting } }

/-- The cut timer expires while CUTTING: the cycle jams (R178). The report of a drawer that the release's walk grants comes
before PRINTER_STATE JAMMED (DEDUCED, log 25). -/
def cutJams (s : State) : State :=
  if s.engine.cutter = .cutting then
    let s1 := releaseAll .cutter
      { s with engine := { s.engine with
        cutter := .jammed
        cutTimer := none
        clearTaken := false
        abandoned := false
        condition := .fault } }
    printerReport s.engine.condition .jammed none s1
  else s

/-! ### Pauses (R166, R167, R175, R176) -/

/-- The reasons of a PAUSED job follow the causes held (R154). -/
def refreshReasons (s : State) : State :=
  { s with queue := s.queue.mapFirst fun j =>
    if j.state = .paused then { j with reasons := s.engine.causes } else j }

/-- The condition enters PAUSED from PRINTING (R154, R175). -/
def enterPause (cause : PauseCause) (s : State) : State :=
  let e := { s.engine with
    condition := .paused
    memory := 0
    row := s.engine.row.map fun (r : RowProgress) => { r with pauseMark := true } }
  let s1 := printerReport .printing .causeRaised (some cause) { s with engine := e.setSpeed 0 }
  match s.queue.jobs with
  | [] => s1
  | j :: rest =>
    let j' := { j with
      state := .paused
      reasons := s.engine.causes }
    jobReport j' (some j.state) .paused (j.cursor - 1) { s1 with queue := { s1.queue with jobs := j' :: rest } }

/-- The condition returns to PRINTING: an interrupted line is given again from its first row, and the engine goes on
(R175, R176). -/
def leavePause (cause : PauseCause) (s : State) : State :=
  let s1 := printerReport .paused .causeGone (some cause)
    { s with engine := { s.engine with condition := .printing } }
  let s2 :=
    match s.queue.jobs with
    | [] => s1
    | j :: rest =>
      let j' := { j with
        state := .printing
        reasons := Causes.none }
      jobReport j' (some j.state) .resumed (j.cursor - 1) { s1 with queue := { s1.queue with jobs := j' :: rest } }
  match s2.engine.line with
  | none => s2
  | some l => if l.interrupted ∧ s2.engine.row = none then proceed (giveLine s2) else proceed s2

/-- A pause cause is raised (R166, R167). -/
def causeRaised (cause : PauseCause) (s : State) : State :=
  if s.engine.causes.has cause then s
  else
    let s1 := { s with engine := { s.engine with causes := s.engine.causes.put cause true } }
    match s1.engine.condition with
    | .printing => enterPause cause s1
    | .paused => printerReport .paused .causeRaised (some cause) (markStop (refreshReasons s1))
    | .idle => printerReport .idle .causeRaised (some cause) s1
    | .fault => printerReport .fault .causeRaised (some cause) s1

/-- A pause cause goes (R166, R167). -/
def causeGone (cause : PauseCause) (s : State) : State :=
  if s.engine.causes.has cause = false then s
  else
    let s1 := { s with engine := { s.engine with causes := s.engine.causes.put cause false } }
    match s1.engine.condition with
    | .paused =>
      if s1.engine.causes.held then printerReport .paused .causeGone (some cause) (refreshReasons s1)
      else leavePause cause s1
    | .printing => printerReport .printing .causeGone (some cause) s1
    | .idle => printerReport .idle .causeGone (some cause) s1
    | .fault => printerReport .fault .causeGone (some cause) s1

/-- A cause follows its sensor. -/
def causeFollows (cause : PauseCause) (held : Bool) (s : State) : State :=
  if held then causeRaised cause s else causeGone cause s

/-- The paper-low sensor changes (R166, R181). -/
def paperLowChanges (low : Bool) (s : State) : State :=
  if s.engine.paperLow = low then s
  else printerReport s.engine.condition .paperLow none { s with engine := { s.engine with paperLow := low } }

/-- A head temperature reading: HEAD_HOT is raised at 65 degrees and goes at 55 (R166). -/
def headReads (reading : Int) (s : State) : State :=
  let s1 := { s with inputs := { s.inputs with headTemp := reading } }
  if 65 ≤ reading then causeRaised .headHot s1
  else if reading ≤ 55 then causeGone .headHot s1
  else s1

/-! ### The 24 V supply goes low and recovers (R143, R144) -/

/-- The supply goes low (R143): the report, then the Print Engine is told. -/
def supplyFalls (s : State) : State :=
  if s.supply.low then s
  else
    causeRaised .supplyLow
      (report (.supplyState true false .low s.supply.budget s.supply.granted.total)
        { s with supply := { s.supply with low := true } })

/-- The supply recovers (R144): the report, then the Print Engine is told, then the walk (log 23). -/
def supplyRecovers (s : State) : State :=
  if s.supply.low then
    walk (causeGone .supplyLow
      (report (.supplyState false true .recovered s.supply.budget s.supply.granted.total)
        { s with supply := { s.supply with low := false } }))
  else s

/-! ### Requests (R151, R155, R163, R181) -/

/-- The records a TEXT job needs: a CUT is added when the last given is not one (R151). -/
def withFinalCut (records : List LineRecord) : List LineRecord :=
  if records.getLast? = some .cut then records else records ++ [.cut]

/-- PRINT_TEXT (R151). -/
def printTextRequest (lines : List LineArg) (s : State) : State × Answer :=
  match linesOfArgs lines with
  | none => refuse .badValue s
  | some given =>
    if given.length = 0 ∨ 48 < given.length then refuse .badValue s
    else if s.engine.condition = .fault then refuse .badState s
    else if 3 ≤ s.queue.textAndCopy then refuse .queueFull s
    else if s.queue.free < (withFinalCut given).length then refuse .queueFull s
    else
      answer (.printText s.queue.nextJobId (withFinalCut given).length
        (s.queue.free - (withFinalCut given).length)) (acceptJob (textJob (withFinalCut given) s) s)

/-- One PRINT_JOB with cause CLEARED for each job, in list order (R155). -/
def reportAborted : List Job → State → State
  | [], s => s
  | j :: rest, s => reportAborted rest (jobReport { j with state := .aborted } (some j.state) .cleared (j.cursor - 1) s)

/-- The line in progress is abandoned outside FAULT (R180). The row goes at once, so that no end of its work is a row end
(DESIGN CHOICE, log 41). -/
def abandonLine (s : State) : State :=
  let s1 := withdrawRequest .head (withdrawRequest .motor (withdrawRequest .cutter s))
  let e := s1.engine
  { s1 with engine := { e with
    condition := .idle
    line := none
    row := none
    cutter := if e.cutter = .waiting then .rest else e.cutter
    abandoned := e.phase.isSome || e.stepRunning.isSome || e.cutter == .cutting } }

/-- PRINTER_CLEAR (R155, R179, R180). -/
def printerClear (s : State) : State :=
  let jobs := s.queue.jobs
  let s1 := reportAborted jobs { s with queue := { s.queue with jobs := [] } }
  let s2 := if jobs.any (fun j => j.kind == .original) then setReceipt .aborted s1 else s1
  let s3 := if s.queue.current.isSome then setSpeed 0 s2 else s2
  if s.engine.condition = .fault then
    let s4 := { s3 with engine := { s3.engine with
      clearTaken := true
      line := none
      row := none } }
    if s4.inputs.cutterHome then leaveFault s4 else s4
  else
    let s4 := abandonLine s3
    if s.engine.condition = .paused then printerReport .paused .jobEnded none s4 else s4

/-- PRINTER_CLEAR is answered OK in every condition (R155). -/
def printerClearRequest (s : State) : State × Answer := done (printerClear s)

/-- A job as READ_PRINT_QUEUE returns it (R163). -/
def Job.view (j : Job) : JobView where
  id          := j.id
  kind        := j.kind
  state       := j.state
  reasons     := if j.state = .paused then some j.reasons else none
  linesDone   := j.cursor - 1
  lineCount   := j.lineCount
  saleNumber  := j.saleNumber
  recordsHeld := if j.kind = .text then some j.records.length else none

/-- READ_PRINT_QUEUE (R163). -/
def readPrintQueueRequest (s : State) : State × Answer :=
  answer (.printQueue (s.queue.jobs.map Job.view)
    (decide (s.engine.condition = .fault) && s.queue.current.isSome) s.queue.free s.queue.nextJobId) s

/-- READ_PRINTER (R181). The row position is the count of the line's rows that have ended (log 14). -/
def readPrinterRequest (s : State) : State × Answer :=
  answer (.printer s.engine.condition s.engine.causes s.engine.paperLow s.inputs.headTemp s.engine.band
    s.engine.speedIndex s.engine.pendingPeriod s.engine.cutter s.engine.cutTimer
    (s.queue.current.map Job.id)
    (s.engine.line.map fun l => (l.rowsDone, lineRows l.record l.spacing))
    s.supply.granted.head s.supply.granted.motor s.supply.granted.cutter) s

end Sys2Proof.Machine
end

