-- ==== Sys2Proof/Machine/Bagging.lean ====
section
/-! DEFINITION. The Bagging Monitor (chapter 4, R74 to R96). -/

namespace Sys2Proof.Machine

/-! ### Entries and lists -/

/-- One entry's bagging status replaced. -/
def putStatus (n : Nat) (st : BaggingStatus) (basket : List Entry) : List Entry :=
  basket.map fun e => if e.number = n then { e with status := st } else e

/-- An entry's bagging status changes, with one ENTRY_BAGGING report (R94). -/
def setStatus (n : Nat) (st : BaggingStatus) (cause : BaggingCause) (s : State) : State :=
  match findEntry n s.basket with
  | none => s
  | some e =>
    report (.entryBagging n st (some e.status) cause)
      (mapSale (fun r => { r with basket := putStatus n st r.basket }) s)

/-- The status of an entry of the basket; NONE where there is no such entry. -/
def statusOf (n : Nat) (s : State) : BaggingStatus :=
  match findEntry n s.basket with
  | some e => e.status
  | none => .none

/-- An expectation listed in entry-number order (R76). -/
def insertExpectation (x : Expectation) : List Expectation → List Expectation
  | [] => [x]
  | y :: ys => if x.entry < y.entry then x :: y :: ys else y :: insertExpectation x ys

/-- The first created of the expectations a condition holds for (R76, oldest first). -/
def oldestMatch (p : Expectation → Bool) : List Expectation → Option Expectation
  | [] => none
  | x :: xs =>
    match oldestMatch p xs with
    | none => if p x then some x else none
    | some y => if p x && decide (x.order < y.order) then some x else some y

/-- The monitor changed. -/
def mapMonitor (f : Monitor → Monitor) (s : State) : State := { s with monitor := f s.monitor }

/-- The expectation of an entry is removed with its bag timer. -/
def removeExpectation (n : Nat) (s : State) : State :=
  mapMonitor (fun m => { m with expectations := m.expectations.filter fun x => x.entry != n }) s

/-- The unclaimed delta is discarded with its grace timer (R84). -/
def discardUnclaimed (s : State) : State := mapMonitor (fun m => { m with unclaimed := none }) s

/-- An expectation is created and listed, its bag timer started (R77, R89). -/
def listExpectation (entry : Nat) (dir : Direction) (weight tolerance : Nat) (s : State) : State :=
  mapMonitor (fun m => { m with
    expectations := insertExpectation
      { entry := entry
        direction := dir
        weight := weight
        tolerance := tolerance
        createdAt := s.now
        order := m.nextOrder
        timer := some (s.live.bagTimeout * 1000) } m.expectations
    nextOrder := m.nextOrder + 1 }) s

/-! ### Exceptions (R86 to R88, R95) -/

/-- The alert request follows the exception list and SUSPENDED (R88). -/
def settleAlert (s : State) : State :=
  if s.monitor.alerting then
    if s.tone.bagAlertHeld then s else placeHeld .bagAlert s
  else
    if s.tone.bagAlertHeld then withdrawHeld .bagAlert s else s

/-- One BAG_EXCEPTION report about one exception (R95). -/
def exceptionReport (action : ExceptionAction) (id : Option Nat) (kind : ExceptionKind) (entry : Option Nat)
    (delta : Option Int) (cause : Option ExceptionCause) (s : State) : State :=
  report (.bagException action id (some kind) entry delta cause s.monitor.exceptions.length s.monitor.suspended none) s

/-- An exception is raised (R86), or is not recorded and the monitor enters SUSPENDED when eight are held (R87). -/
def raiseException (kind : ExceptionKind) (entry : Option Nat) (delta : Option Int) (s : State) : State :=
  let id := s.monitor.nextExceptionId
  if s.monitor.exceptions.length < 8 then
    let held := s.monitor.exceptions ++ [{ id := id, kind := kind, entry := entry, delta := delta }]
    settleAlert (exceptionReport .raised (some id) kind entry delta none
      (mapMonitor (fun m => { m with
        exceptions := held
        nextExceptionId := nextFreeId (held.map BagException.id) (held.length + 1) id }) s))
  else
    settleAlert (exceptionReport .suspended none kind entry delta none
      (mapMonitor (fun m => { m with
        suspended := true
        unclaimed := none }) s))

/-- One exception is cleared (R86, R95). -/
def clearOne (x : BagException) (cause : ExceptionCause) (s : State) : State :=
  settleAlert (exceptionReport .cleared (some x.id) x.kind x.entry x.delta (some cause)
    (mapMonitor (fun m => { m with exceptions := m.exceptions.filter fun y => y.id != x.id }) s))

/-- The exception of a kind that names an entry is cleared when one is held. -/
def clearNaming (kind : ExceptionKind) (n : Nat) (cause : ExceptionCause) (s : State) : State :=
  match s.monitor.exceptions.find? fun x => x.kind == kind && x.entry == some n with
  | some x => clearOne x cause s
  | none => s

/-! ### Expectations of appended entries (R77) -/

/-- The report and status of an append (R77, R94). -/
def appendStatus (n : Nat) (st : BaggingStatus) (s : State) : State :=
  report (.entryBagging n st none .appended)
    (mapSale (fun r => { r with basket := putStatus n st r.basket }) s)

/-- An add-expectation for an appended entry (R77). -/
def addExpectation (n weight : Nat) (override : Option Nat) (s : State) : State :=
  let tolerance := override.getD (computedTolerance s.live weight)
  match s.monitor.unclaimed with
  | some u =>
    if matchesWeight u.amount weight tolerance then appendStatus n .bagged (discardUnclaimed s)
    else appendStatus n .pending (listExpectation n .add weight tolerance s)
  | none => appendStatus n .pending (listExpectation n .add weight tolerance s)

/-- The bag timer of a listed expectation expires (R78). -/
def bagTimerExpires (n : Nat) (s : State) : State :=
  match s.monitor.expectations.find? fun x => x.entry == n && x.timer.isSome with
  | none => s
  | some _ =>
    let s1 := mapMonitor (fun m => { m with
      expectations := m.expectations.map fun x => if x.entry = n then { x with timer := none } else x }) s
    match statusOf n s with
    | .pending => raiseException .itemNotBagged (some n) none (setStatus n .overdue .timeout s1)
    | .awaitRemoval => raiseException .voidNotRemoved (some n) none (setStatus n .removalOverdue .timeout s1)
    | _ => s1

/-- The grace timer expires (R85). -/
def graceExpires (s : State) : State :=
  match s.monitor.unclaimed with
  | none => s
  | some u => raiseException .unexpectedItem none (some (Int.ofNat u.amount)) (discardUnclaimed s)

/-! ### Matching bag changes (R79 to R83) -/

/-- An ADD expectation met by an amount, oldest first (R80 step 3, R81). -/
def meetingAdd (d : Nat) (s : State) : Option Expectation :=
  oldestMatch (fun x => x.direction == .add && matchesWeight d x.weight x.tolerance) s.monitor.expectations

/-- An ADD expectation is met: it is removed, its entry becomes BAGGED and its ITEM_NOT_BAGGED is cleared (R80). -/
def meetAdd (x : Expectation) (s : State) : State :=
  clearNaming .itemNotBagged x.entry .matched (setStatus x.entry .bagged .matched (removeExpectation x.entry s))

/-- A positive change that nothing matched joins the unclaimed delta, with its one re-check (R81). -/
def unclaimedGrows (d : Nat) (s : State) : State :=
  let amount :=
    match s.monitor.unclaimed with
    | some u => min 65535 (u.amount + d)
    | none => min 65535 d
  if s.live.bagGrace = 0 then
    let tried :=
      match s.monitor.unclaimed with
      | some _ => amount
      | none => d
    match meetingAdd tried s with
    | some x => meetAdd x (discardUnclaimed s)
    | none => raiseException .unexpectedItem none (some (Int.ofNat tried)) (discardUnclaimed s)
  else
    let s1 := mapMonitor (fun m => { m with
      unclaimed := some { amount := amount, grace := s.live.bagGrace * 1000 } }) s
    match meetingAdd amount s1 with
    | some x => meetAdd x (discardUnclaimed s1)
    | none => s1

/-- An ITEM_REMOVED exception whose entry a change matches (R80 step 1). -/
def matchesRemoved (d : Nat) (s : State) (x : BagException) : Bool :=
  x.kind == .itemRemoved &&
    match x.entry with
    | some n =>
      match findEntry n s.basket with
      | some e => matchesEntry s.live d e
      | none => false
    | none => false

/-- A positive bag change of `d` g (R80). -/
def positiveChange (d : Nat) (s : State) : State :=
  match s.monitor.exceptions.find? (matchesRemoved d s) with
  | some x => clearOne x .matched (setStatus (x.entry.getD 0) .bagged .matched s)
  | none =>
    match s.monitor.exceptions.find? fun x => x.kind == .unknownRemoval && matchesDelta s.live d x with
    | some x => clearOne x .matched s
    | none =>
      match meetingAdd d s with
      | some x => meetAdd x s
      | none => unclaimedGrows d s

/-- A negative change that the first steps did not match is tried against the BAGGED entries, newest first, and is
otherwise an UNKNOWN_REMOVAL (R83). -/
def removalFromBasket (d : Nat) (s : State) : State :=
  match s.basket.reverse.find? fun e => e.status == .bagged && matchesEntry s.live d e with
  | some e =>
    raiseException .itemRemoved (some e.number) (some (-Int.ofNat d)) (setStatus e.number .removed .matched s)
  | none => raiseException .unknownRemoval none (some (-Int.ofNat d)) s

/-- Steps 2 to 5 of a negative change of magnitude `d` g (R82, R83). -/
def negativeAfterUnclaimed (d : Nat) (s : State) : State :=
  match s.monitor.exceptions.find? fun x => x.kind == .unexpectedItem && matchesDelta s.live d x with
  | some x => clearOne x .matched s
  | none =>
    match oldestMatch (fun x => x.direction == .remove && matchesWeight d x.weight x.tolerance)
        s.monitor.expectations with
    | some x =>
      clearNaming .voidNotRemoved x.entry .matched
        (setStatus x.entry .cleared .matched (removeExpectation x.entry s))
    | none => removalFromBasket d s

/-- A negative bag change of magnitude `d` g (R82). -/
def negativeChange (d : Nat) (s : State) : State :=
  match s.monitor.unclaimed with
  | some u =>
    if matchesWeight d u.amount (computedTolerance s.live u.amount) then discardUnclaimed s
    else negativeAfterUnclaimed d s
  | none => negativeAfterUnclaimed d s

/-- A bag change handed to the monitor (R79): ignored in IDLE and while SUSPENDED. -/
def bagChange (delta : Int) (s : State) : State :=
  if s.sale.current.state = .idle ∨ s.monitor.suspended then s
  else if 0 < delta then positiveChange delta.natAbs s
  else negativeChange delta.natAbs s

/-! ### Voids, waivers and the end of a sale (R59, R89, R90 to R93) -/

/-- A successful VOID_ENTRY is passed to the monitor (R59, R89). `e` is the entry voided. -/
def entryVoided (e : Entry) (s : State) : State :=
  match e.status with
  | .pending | .overdue =>
    clearNaming .itemNotBagged e.number .voided
      (setStatus e.number .cleared .voided (removeExpectation e.number s))
  | .bagged =>
    match e.expected with
    | some w =>
      setStatus e.number .awaitRemoval .voided (listExpectation e.number .remove w (entryTolerance s.live e w) s)
    | none => s
  | .removed => clearNaming .itemRemoved e.number .voided (setStatus e.number .cleared .voided s)
  | .none | .awaitRemoval | .removalOverdue | .cleared | .waived => s

/-- The statuses WAIVE_BAGGING and BAG_RESYNC release (R91, R92). -/
def BaggingStatus.waivable : BaggingStatus → Bool
  | .pending | .overdue | .removed | .awaitRemoval | .removalOverdue => true
  | _ => false

/-- CLEAR_EXCEPTION (R90). -/
def clearExceptionRequest (id : Byte) (s : State) : State × Answer :=
  if s.attendant = false then refuse .notAttended s
  else
    match s.monitor.exceptions.find? fun x => x.id == id.toNat with
    | none => refuse .notFound s
    | some x =>
      match x.kind, x.entry with
      | .itemNotBagged, some n =>
        done (clearOne x .attendant (setStatus n .waived .attendant (removeExpectation n s)))
      | _, _ => done (clearOne x .attendant s)

/-- The exception that names an entry is cleared when one is held (R86, R91). -/
def clearAnyNaming (n : Nat) (cause : ExceptionCause) (s : State) : State :=
  match s.monitor.exceptions.find? fun x => x.entry == some n with
  | some x => clearOne x cause s
  | none => s

/-- WAIVE_BAGGING (R91). -/
def waiveBaggingRequest (entry : Byte) (s : State) : State × Answer :=
  if s.sale.current.state = .idle then refuse .badState s
  else if s.attendant = false then refuse .notAttended s
  else
    match findEntry entry.toNat s.basket with
    | none => refuse .notFound s
    | some e =>
      if e.status.waivable then
        done (clearAnyNaming e.number .waived
          (setStatus e.number .waived .waived (removeExpectation e.number s)))
      else refuse .badState s

/-- The monitor holds nothing of its lists and is not SUSPENDED; the ids run on (R92, R93). -/
def Monitor.emptied (m : Monitor) : Monitor :=
  { m with
    expectations := []
    exceptions := []
    unclaimed := none
    suspended := false }

/-- The monitor holds an expectation, an exception or an unclaimed delta, or is SUSPENDED (R92, R93). -/
def Monitor.holdsAnything (m : Monitor) : Bool := m.outstanding || m.unclaimed.isSome

/-- The bulk emptying of the monitor with its one BAG_EXCEPTION when it held anything (R92, R93, R95). `waived` is the
number of entries waived. -/
def emptyMonitor (cause : ExceptionCause) (waived : Nat) (s : State) : State :=
  let s1 := settleAlert (mapMonitor Monitor.emptied s)
  if waived ≠ 0 ∨ s.monitor.holdsAnything then
    report (.bagException .allCleared none none none none (some cause) 0 false
      (some (waived, s.monitor.exceptions.length))) s1
  else s1

/-- The current stable gross of the bag channel as S, or absent (R24). -/
def resyncedS (c : Channel) : Option Int :=
  match c.latest with
  | some o =>
    match o.stable && c.condition == .ready, o.fineGross with
    | true, some f => some (bagGross f)
    | _, _ => none
  | none => none

/-- The entries a BAG_RESYNC waives (R92). -/
def waivableCount (basket : List Entry) : Nat := countWhere (fun e => e.status.waivable) basket

/-- Every outstanding entry becomes WAIVED (R92). -/
def waiveAll (basket : List Entry) : List Entry :=
  basket.map fun e => if e.status.waivable then { e with status := .waived } else e

/-- BAG_RESYNC (R92). -/
def bagResyncRequest (s : State) : State × Answer :=
  if s.attendant = false then refuse .notAttended s
  else
    let waived := waivableCount s.basket
    let settled := resyncedS s.bag
    let s1 := emptyMonitor .resync waived (mapSale (fun r => { r with basket := waiveAll r.basket }) s)
    answer (.resync waived s.monitor.exceptions.length settled) { s1 with settledS := settled }

/-- One expectation as READ_BAGGING returns it (R96). -/
def Expectation.view (x : Expectation) : ExpectationView where
  entry     := x.entry
  direction := x.direction
  weight    := x.weight
  tolerance := x.tolerance
  timer     := x.timer

/-- READ_BAGGING (R96). -/
def readBaggingRequest (first : Byte) (s : State) : State × Answer :=
  let listed := s.monitor.expectations.length
  if (listed = 0 ∧ first.toNat = 1) ∨ (1 ≤ first.toNat ∧ first.toNat ≤ listed) then
    answer (.bagging s.monitor.suspended s.tone.bagAlertHeld listed
      (((s.monitor.expectations.drop (first.toNat - 1)).take 12).map Expectation.view)
      s.monitor.unclaimed s.monitor.exceptions s.monitor.nextExceptionId) s
  else refuse .notFound s

end Sys2Proof.Machine
end

