-- ==== Sys2Proof/Machine/Basket.lean ====
section
/-! DEFINITION. Appending to the basket of the open sale (R54 to R57), shared by ADD_ITEM, VOID_ENTRY and the weigh
completion. -/

namespace Sys2Proof.Machine

/-- The next entry number, one more than the number of entries held (R54). -/
def SaleRecord.nextNumber (r : SaleRecord) : Nat := r.basket.length + 1

/-- The basket has no room: it holds 120 entries (R54). -/
def SaleRecord.full (r : SaleRecord) : Bool := decide (120 ≤ r.basket.length)

/-- An entry appended: the total takes its amount (R54, R55). -/
def SaleRecord.append (e : Entry) (r : SaleRecord) : SaleRecord :=
  { r with
    basket := r.basket ++ [e]
    total := r.total + e.amount }

/-- An entry appended to the open record, with its add-expectation when it carries an expected weight (R56, R57,
R77). -/
def appendEntry (e : Entry) (s : State) : State :=
  let s1 := mapSale (SaleRecord.append e) s
  match e.expected with
  | some w => addExpectation e.number w e.tolerance s1
  | none => s1

end Sys2Proof.Machine
end

