-- ==== Sys2Proof/Machine/Weighing.lean ====
section
/-! DEFINITION. The two weighing channels and the platter's tare, occupancy and weigh request (chapters 1 and 2,
R1 to R49). -/

namespace Sys2Proof.Machine

/-! ### Settings and limits of a channel (R1) -/

/-- The filter length N of a channel. -/
def filterLen (v : Settings) : ChannelId → Nat
  | .platter => v.platterFilterLen
  | .bag => v.bagFilterLen

/-- The stability length M of a channel. -/
def stableLen (v : Settings) : ChannelId → Nat
  | .platter => v.platterStableLen
  | .bag => v.bagStableLen

/-- The stability band of a channel in tenths (R1). -/
def stabilityBand (v : Settings) (ch : ChannelId) (r : CalRecord) : Int :=
  match ch with
  | .platter => r.profileInForce.e1
  | .bag => Int.ofNat v.bagBand * 50

/-- 2 % of Max in tenths (R1). -/
def twoPercent (ch : ChannelId) (r : CalRecord) : Int := channelMax ch r / 50

/-- 10 % of Max in tenths (R1). -/
def tenPercent (ch : ChannelId) (r : CalRecord) : Int := channelMax ch r / 10

/-! ### Condition and converter (R3, R13 to R16) -/

/-- A channel's condition changes, with one CHANNEL_STATE report; none when it stays (R16). -/
def setCondition (ch : ChannelId) (c : ChannelCondition) (s : State) : State :=
  let left := (s.channel ch).condition
  if left = c then s
  else report (.channelState ch c left) (s.withChannel ch { s.channel ch with condition := c })

/-- The rings are emptied, and the latest filter output and the tracking count go (R13, R15). -/
def Channel.emptied (c : Channel) : Channel :=
  { c with
    filterRing := []
    filterSum := 0
    latest := none
    stabilityRing := []
    trackingCount := 0 }

/-- The converter is started (R3). -/
def Channel.start (c : Channel) : Channel :=
  { c.emptied with
    converterOn := true
    settling := 2 }

/-- STARTING when the record is valid and UNCALIBRATED when it is not (R2, R14, R15). -/
def startCondition (ch : ChannelId) (r : CalRecord) : ChannelCondition :=
  if r.valid ch then .starting else .uncalibrated

/-- The converter is started and the channel goes to STARTING or UNCALIBRATED (R14, R15). -/
def startChannel (ch : ChannelId) (s : State) : State :=
  setCondition ch (startCondition ch (s.channel ch).record) (s.withChannel ch (s.channel ch).start)

/-- A SET of the sample rate, filter length or stability length that changed the live value restarts the channel; in
FAULT it is only stored (R15). -/
def restartChannel (ch : ChannelId) (s : State) : State :=
  if (s.channel ch).condition = .fault then s else startChannel ch s

/-- A weigh request ends with one WEIGH_DONE (R48, R49); with none in flight nothing happens. -/
def endWeigh (result : WeighResult) (entry : Option Nat) (netG price : Option Int) (s : State) : State :=
  match s.scale.weigh with
  | none => s
  | some _ =>
    report (.weighDone result entry netG price) { s with scale := { s.scale with weigh := none } }

/-- The excitation sense leaves its window (R13, R47). -/
def excitationLeaves (ch : ChannelId) (s : State) : State :=
  let c := s.channel ch
  if c.condition = .fault then s
  else
    let s1 := setCondition ch .fault (s.withChannel ch { c.emptied with converterOn := false })
    match ch with
    | .platter => endWeigh .channelFault none none none s1
    | .bag => s1

/-- The excitation sense returns into its window (R14). -/
def excitationReturns (ch : ChannelId) (s : State) : State :=
  if (s.channel ch).condition = .fault then startChannel ch s else s

/-! ### Zero (R10, R11, R22, R23) -/

/-- The stability ring and the latest fine gross follow a change of zero_ref (R10). -/
def Channel.rebase (ch : ChannelId) (c : Channel) : Channel :=
  match c.latest with
  | none => c
  | some o =>
    match o.fineGross, fineGrossOf ch c.record c.zeroRef o.filtered with
    | some old, some new =>
      { c with
        latest := some { o with fineGross := some new }
        stabilityRing := c.stabilityRing.map fun v => v + (new - old) }
    | _, _ => c

/-- zero_ref becomes a filtered value: the ring is re-based and the tracking count becomes 0 (R10, R23). -/
def Channel.zeroAt (ch : ChannelId) (value : Int) (c : Channel) : Channel :=
  Channel.rebase ch
    { c with
      zeroRef := some value
      trackingCount := 0 }

/-- Two count values, one of which may be absent, lie within a weight limit (R7). -/
def withinLimitOf (r : CalRecord) (a : Int) (b : Option Int) (limit : Int) : Bool :=
  match b with
  | some x => withinLimit r a x limit
  | none => false

/-! ### One filter output (R5, R6, R8, R9, R11, R12) -/

/-- A value appended to a ring of at most `n`, the oldest going first. -/
def ringPush (n : Nat) (v : Int) (ring : List Int) : List Int :=
  if ring.length < n then ring ++ [v] else ring.drop 1 ++ [v]

/-- A sample enters the filter ring and its running sum (R5). -/
def Channel.takeSample (n : Nat) (sample : Int) (c : Channel) : Channel :=
  { c with
    filterRing := ringPush n sample c.filterRing
    filterSum :=
      if c.filterRing.length < n then c.filterSum + sample
      else c.filterSum + (sample - (c.filterRing.head?).getD 0) }

/-- The first two stages of a filter output: fine gross, stability ring and stable test (R5, R6, R8, R9). The platter's
tracking count rises by one, up to 32 (R23, log 28). -/
def Channel.formOutput (ch : ChannelId) (v : Settings) (c : Channel) : Channel :=
  let filtered := roundAway c.filterSum (Int.ofNat (filterLen v ch))
  let fine := fineGrossOf ch c.record c.zeroRef filtered
  let sat := saturationOf c.filterRing
  let m := stableLen v ch
  let ring := ringPush m (fine.getD filtered) c.stabilityRing
  let band := if c.record.valid ch then stabilityBand v ch c.record else 64
  { c with
    latest := some
      { filtered := filtered
        fineGross := fine
        saturated := sat
        stable := stableTest ring m band sat }
    stabilityRing := ring
    trackingCount :=
      match ch with
      | .platter => min 32 (c.trackingCount + 1)
      | .bag => c.trackingCount }

/-- STARTING is left at a stable output (R11). -/
def leaveStarting (ch : ChannelId) (o : FilterOutput) (s : State) : State :=
  let c := s.channel ch
  match c.powerUpZero with
  | some _ => setCondition ch (rangeCondition ch c.record o.saturated (o.fineGross.getD 0)) s
  | none =>
    if withinLimitOf c.record o.filtered c.record.calZero (tenPercent ch c.record) then
      setCondition ch .ready
        (s.withChannel ch { c.zeroAt ch o.filtered with powerUpZero := some o.filtered })
    else setCondition ch .noZero s

/-- The condition stage of a filter output (R11, R12). -/
def judgeCondition (ch : ChannelId) (o : FilterOutput) (s : State) : State :=
  let c := s.channel ch
  if c.condition = .starting then
    if o.stable then leaveStarting ch o s else s
  else if c.condition.ranged then
    setCondition ch (rangeCondition ch c.record o.saturated (o.fineGross.getD 0)) s
  else s

/-! ### Platter: tracking, occupancy, weighing (R23, R35 to R44) -/

/-- Zero tracking corrects at this output (R23). -/
def trackingCorrects (o : FilterOutput) (s : State) : Bool :=
  let c := s.platter
  let fine := o.fineGross.getD 0
  c.condition == .ready && o.stable && s.scale.occupancy == .empty && s.scale.tareT == 0 && s.scale.weigh.isNone &&
    fine != 0 && decide (2 * fine.natAbs ≤ (channelE1 .platter c.record).natAbs) && c.trackingCount == 32 &&
    withinLimitOf c.record o.filtered c.powerUpZero (twoPercent .platter c.record)

/-- Zero tracking (R23). -/
def trackZero (o : FilterOutput) (s : State) : State :=
  if trackingCorrects o s then { s with platter := s.platter.zeroAt .platter o.filtered } else s

/-- Occupancy as a stable output with this fine gross judges it (R35, R36). -/
def judgedOccupancy (threshold fine : Int) (occ : Occupancy) : Occupancy :=
  if fine ≤ threshold then .empty
  else
    match occ with
    | .locked => .locked
    | _ => .loaded

/-- Occupancy of the platter after an output (R35). -/
def occupancyAfter (o : FilterOutput) (s : State) : Occupancy :=
  if o.stable && s.platter.condition.ranged then
    judgedOccupancy s.platter.record.profileInForce.emptyThreshold (o.fineGross.getD 0) s.scale.occupancy
  else s.scale.occupancy

/-- Occupancy changed. -/
def setOccupancy (occ : Occupancy) (s : State) : State := { s with scale := { s.scale with occupancy := occ } }

/-- One PLATTER_STATE report when occupancy differs from what it was before the output (R37). -/
def occupancyReport (left : Occupancy) (s : State) : State :=
  if s.scale.occupancy = left then s else report (.platterState s.scale.occupancy left) s

/-- The legal net of an output in tenths, from net_f (R28, R29). -/
def legalNet (p : Profile) (fine tareT : Int) : Int := legalRound p (fine - tareT)

/-- The completion point is reached at this output (R40). Occupancy has been judged. -/
def completionPoint (o : FilterOutput) (s : State) : Bool :=
  let p := s.platter.record.profileInForce
  let net := legalNet p (o.fineGross.getD 0) s.scale.tareT
  s.platter.condition == .ready && o.stable && s.scale.occupancy != .locked && decide (p.minimum ≤ net) &&
    decide (net ≤ p.max) && s.sale.current.state == .opened

/-- The sale record can take an entry of this price (R42). -/
def recordTakes (price : Int) (s : State) : Bool :=
  match s.sale.current.record? with
  | some r => !r.full && totalInRange (r.total + price)
  | none => false

/-- The number the next entry gets. -/
def nextEntryNumber (s : State) : Nat := s.basket.length + 1

/-- The WEIGHED entry of a completion (R43). -/
def weighedEntry (w : WeighRequest) (fine : Int) (s : State) : Entry :=
  let p := s.platter.record.profileInForce
  let netG := legalNet p fine s.scale.tareT / 10
  { number := nextEntryNumber s
    kind := .weighed
    description := w.description
    amount := priceOf netG w.unitPrice
    voided := false
    voids := none
    weighing := some
      { netG := netG
        tareG := s.scale.tareT / 10
        divisionG := p.divisionAt (fine - s.scale.tareT) / 10
        unitPrice := w.unitPrice
        profile := p }
    expected := some netG.toNat
    tolerance := none
    status := .none }

/-- A completion with an entry (R43). `left` is the occupancy before the output. -/
def completeWithEntry (w : WeighRequest) (fine : Int) (left : Occupancy) (s : State) : State :=
  let e := weighedEntry w fine s
  let netG := legalNet s.platter.record.profileInForce fine s.scale.tareT / 10
  let s1 := occupancyReport left (setOccupancy .locked (appendEntry e s))
  let s2 := if s1.live.tarePerItem then { s1 with scale := { s1.scale with tareT := 0 } } else s1
  endWeigh .ok (some e.number) (some netG) (some e.amount) s2

/-- The weigh request in flight examined at an output (R40 to R43). `left` is the occupancy before the output. -/
def examineWeigh (o : FilterOutput) (left : Occupancy) (s : State) : State :=
  match s.scale.weigh with
  | none => occupancyReport left s
  | some w =>
    if completionPoint o s then
      let fine := o.fineGross.getD 0
      let netG := legalNet s.platter.record.profileInForce fine s.scale.tareT / 10
      let price := priceOf netG w.unitPrice
      if 9999999 < price then
        endWeigh .priceLimit none (some netG) (some price) (occupancyReport left s)
      else if recordTakes price s = false then
        endWeigh .totalLimit none (some netG) (some price) (occupancyReport left s)
      else completeWithEntry w fine left s
    else occupancyReport left s

/-- The platter's last stages of a filter output: tracking, occupancy, the weigh request (R5 stage 4). -/
def platterStages (s : State) : State :=
  match s.platter.latest with
  | none => s
  | some o =>
    let s1 := trackZero o s
    let o1 := (s1.platter.latest).getD o
    examineWeigh o1 s.scale.occupancy (setOccupancy (occupancyAfter o1 s1) s1)

/-! ### Bag: settled weight and bag changes (R24, R25) -/

/-- The bag channel's last stage of a filter output (R24, R25). -/
def bagStage (s : State) : State :=
  match s.bag.latest with
  | none => s
  | some o =>
    if o.stable && s.bag.condition == .ready then
      let g := bagGross (o.fineGross.getD 0)
      match s.settledS with
      | none => { s with settledS := some g }
      | some settled =>
        let s1 := { s with settledS := some g }
        if (g - settled).natAbs ≤ s.live.bagThreshold then s1 else bagChange (g - settled) s1
    else s

/-! ### A sample (R3, R5) -/

/-- A filter output carried through its stages (R5). -/
def filterOutput (ch : ChannelId) (s : State) : State :=
  let s1 := s.withChannel ch ((s.channel ch).formOutput ch s.live)
  match (s1.channel ch).latest with
  | none => s1
  | some o =>
    let s2 := judgeCondition ch o s1
    match ch with
    | .platter => platterStages s2
    | .bag => bagStage s2

/-- A raw sample arrives (R3, R5): nothing while the converter is stopped, a discard while settling, otherwise the
filter ring and, once it is full, a filter output. -/
def sampleArrives (ch : ChannelId) (sample : Int) (s : State) : State :=
  let c := s.channel ch
  if c.converterOn = false then s
  else if 0 < c.settling then s.withChannel ch { c with settling := c.settling - 1 }
  else
    let c' := c.takeSample (filterLen s.live ch) sample
    let s1 := s.withChannel ch c'
    if c'.filterRing.length < filterLen s.live ch then s1 else filterOutput ch s1

/-- The weigh timer of a request in flight expires (R44). -/
def weighTimerExpires (s : State) : State := endWeigh .timeout none none none s

/-! ### Calibration (R17 to R21) -/

/-- The shared checks of a calibration step after its first field (R18). -/
def calibrationCheck (ch : ChannelId) (s : State) : Option Status :=
  if s.inputs.calEnable = false then some .calDisabled
  else if ch = .platter ∧ s.scale.weigh.isSome then some .busy
  else if (s.channel ch).condition = .fault then some .badState
  else none

/-- The record after a step: cal_count rises, up to 65,535; the platter's record holds a profile from its creation (R17,
R18, log 36). -/
def CalRecord.stepped (ch : ChannelId) (r : CalRecord) : CalRecord :=
  { r with
    calCount := min 65535 (r.calCount + 1)
    profile :=
      match ch with
      | .platter => some r.profileInForce
      | .bag => r.profile }

/-- The channel after a successful step that leaves this record (R18); `zeroToo` for CAL_ZERO, whose zero_ref follows
cal_zero on an uncalibrated channel as well (R19). A record that was invalid and stays so keeps the stability ring, which
R8 and R18 say differently (log 38). The condition is set by the caller. -/
def Channel.calibrated (ch : ChannelId) (zeroToo : Bool) (r : CalRecord) (c : Channel) : Channel :=
  if r.valid ch then
    { c with
      record := r
      zeroRef := r.calZero
      powerUpZero := r.calZero
      trackingCount := 0
      stabilityRing := [] }
  else
    { c with
      record := r
      zeroRef := if zeroToo then r.calZero else c.zeroRef
      trackingCount := if zeroToo then 0 else c.trackingCount
      stabilityRing := if c.record.valid ch then [] else c.stabilityRing }

/-- Tare becomes 0 on the platter, S absent on the bag channel (R18). -/
def clearAfterStep (ch : ChannelId) (s : State) : State :=
  match ch with
  | .platter => { s with scale := { s.scale with tareT := 0 } }
  | .bag => { s with settledS := none }

/-- The effects of a successful step and the start of its store write; the reply waits for the write (R18, R191). -/
def calibrationStep (ch : ChannelId) (zeroToo : Bool) (r : CalRecord) (s : State) : State × Answer :=
  let r' := r.stepped ch
  let s1 := clearAfterStep ch (s.withChannel ch ((s.channel ch).calibrated ch zeroToo r'))
  let s2 := setCondition ch (startCondition ch r') s1
  ({ s2 with store := { s2.store with write := some (.record ch r') } }, .deferred)

/-- The filtered value of the latest filter output when it is stable. -/
def Channel.stableReading (c : Channel) : Option Int :=
  match c.latest with
  | some o => if o.stable then some o.filtered else none
  | none => none

/-- CAL_ZERO on a channel (R19). -/
def calZeroOn (ch : ChannelId) (s : State) : State × Answer :=
  match calibrationCheck ch s with
  | some st => refuse st s
  | none =>
    match (s.channel ch).stableReading with
    | none => refuse .busy s
    | some v => calibrationStep ch true { (s.channel ch).record with calZero := some v } s

/-- CAL_ZERO (R19). -/
def calZeroRequest (channel : Byte) (s : State) : State × Answer :=
  match channelOfByte channel with
  | none => refuse .badValue s
  | some ch => calZeroOn ch s

/-- CAL_SPAN on a channel with a load in tenths (R20). -/
def calSpanOn (ch : ChannelId) (loadT : Int) (s : State) : State × Answer :=
  let c := s.channel ch
  match calibrationCheck ch s with
  | some st => refuse st s
  | none =>
    match c.record.calZero with
    | none => refuse .badState s
    | some z =>
      if loadInRange (channelMax ch c.record) loadT = false then refuse .badValue s
      else
        match c.stableReading with
        | none => refuse .busy s
        | some v =>
          if v - z < 50000 then refuse .badValue s
          else calibrationStep ch false { c.record with span := some { counts := v - z, loadT := loadT } } s

/-- CAL_SPAN (R20); the load is in g. -/
def calSpanRequest (channel : Byte) (load : Wide) (s : State) : State × Answer :=
  match channelOfByte channel with
  | none => refuse .badValue s
  | some ch => calSpanOn ch (load.toInt * 10) s

/-- SET_PROFILE (R21). -/
def setProfileRequest (profile : Byte) (s : State) : State × Answer :=
  match profileOfByte profile with
  | none => refuse .badValue s
  | some p =>
    match calibrationCheck .platter s with
    | some st => refuse st s
    | none => calibrationStep .platter false { s.platter.record with profile := some p } s

/-! ### ZERO and READ_WEIGHT (R22, R24, R26) -/

/-- Check 5 of ZERO: the reading lies within the limit of the condition (R22). -/
def zeroAllowed (ch : ChannelId) (value : Int) (c : Channel) : Bool :=
  if c.condition = .noZero then withinLimitOf c.record value c.record.calZero (tenPercent ch c.record)
  else withinLimitOf c.record value c.powerUpZero (twoPercent ch c.record)

/-- The effects of a successful ZERO (R22, R24). -/
def zeroTaken (ch : ChannelId) (value : Int) (s : State) : State :=
  let c := s.channel ch
  let c1 := c.zeroAt ch value
  let s1 :=
    if c.condition = .noZero then setCondition ch .ready (s.withChannel ch { c1 with powerUpZero := some value })
    else s.withChannel ch c1
  match ch with
  | .platter => s1
  | .bag => { s1 with settledS := some 0 }

/-- ZERO on a channel (R22). -/
def zeroOn (ch : ChannelId) (s : State) : State × Answer :=
  let c := s.channel ch
  if ¬(c.condition.ranged ∨ c.condition = .noZero) then refuse .badState s
  else if ch = .platter ∧ s.scale.weigh.isSome then refuse .busy s
  else if ch = .platter ∧ s.scale.tareT ≠ 0 then refuse .badState s
  else
    match c.stableReading with
    | none => refuse .busy s
    | some v => if zeroAllowed ch v c then done (zeroTaken ch v s) else refuse .badValue s

/-- ZERO (R22). -/
def zeroRequest (channel : Byte) (s : State) : State × Answer :=
  match channelOfByte channel with
  | none => refuse .badValue s
  | some ch => zeroOn ch s

/-- The fine gross that may be shown: that of the latest output, in READY (R26). -/
def Channel.shownFine (c : Channel) : Option Int :=
  if c.condition = .ready then
    match c.latest with
    | some o => o.fineGross
    | none => none
  else none

/-- The latest output is stable; no when there is none (R26). -/
def Channel.shownStable (c : Channel) : Bool :=
  match c.latest with
  | some o => o.stable
  | none => false

/-- The fields of a READ_WEIGHT reply (R26). -/
def weightFields (ch : ChannelId) (s : State) : ReplyFields :=
  match ch with
  | .platter =>
    let p := s.platter.record.profileInForce
    .weightPlatter s.platter.condition s.platter.shownStable
      (s.platter.shownFine.map fun f => legalRound p f / 10) (s.scale.tareT / 10)
      (s.platter.shownFine.map fun f => legalNet p f s.scale.tareT / 10) s.scale.occupancy
  | .bag => .weightBag s.bag.condition s.bag.shownStable (s.bag.shownFine.map bagGross) s.settledS

/-- READ_WEIGHT (R26). -/
def readWeightRequest (channel : Byte) (s : State) : State × Answer :=
  match channelOfByte channel with
  | none => refuse .badValue s
  | some ch => answer (weightFields ch s) s

/-! ### Tare and WEIGH_ITEM (R32 to R34, R38, R45) -/

/-- A tare of a weight in tenths, rounded to e1; absent when it does not pass check 2 of SET_TARE (R32). -/
def presetTare (p : Profile) (tenths : Int) : Option Int :=
  if 0 ≤ tenths ∧ roundToDivision tenths p.e1 ≤ p.maxTare then some (roundToDivision tenths p.e1) else none

/-- The tare held changed. -/
def setTareT (t : Int) (s : State) : State := { s with scale := { s.scale with tareT := t } }

/-- SET_TARE (R32); the weight is in g. -/
def setTareRequest (weight : Wide) (s : State) : State × Answer :=
  if s.scale.weigh.isSome then refuse .busy s
  else
    match presetTare s.platter.record.profileInForce (weight.toInt * 10) with
    | none => refuse .badValue s
    | some t => answer (.tare (t / 10)) (setTareT t s)

/-- TAKE_TARE (R33). -/
def takeTareRequest (s : State) : State × Answer :=
  if s.scale.weigh.isSome then refuse .busy s
  else if s.platter.condition ≠ .ready then refuse .badState s
  else
    match s.platter.latest with
    | none => refuse .busy s
    | some o =>
      if o.stable = false then refuse .busy s
      else
        let p := s.platter.record.profileInForce
        let t := roundToDivision (o.fineGross.getD 0) p.e1
        if 0 < t ∧ t ≤ p.maxTare then answer (.tare (t / 10)) (setTareT t s) else refuse .badValue s

/-- CLEAR_TARE (R34). -/
def clearTareRequest (s : State) : State × Answer :=
  if s.scale.weigh.isSome then refuse .busy s else done (setTareT 0 s)

/-- The tare a WEIGH_ITEM would leave: the one given, rounded, or the one held; absent when the one given fails its check
(R38). -/
def weighTare (tare : Option Wide) (s : State) : Option Int :=
  match tare with
  | none => some s.scale.tareT
  | some w => presetTare s.platter.record.profileInForce (w.toInt * 10)

/-- A weigh request accepted (R38). -/
def acceptWeigh (description : List Byte) (unitPrice tareT : Int) (s : State) : State :=
  { s with scale := { s.scale with
    tareT := tareT
    weigh := some
      { description := printableText description
        unitPrice := unitPrice
        timer := s.live.weighTimeout * 1000 } } }

/-- WEIGH_ITEM (R38). -/
def weighItemRequest (description : List Byte) (unitPrice : Wide) (tare : Option Wide) (s : State) : State × Answer :=
  match s.sale.current with
  | .opened r =>
    if s.platter.condition = .uncalibrated then refuse .notCalibrated s
    else if s.platter.condition ≠ .ready then refuse .badState s
    else if s.scale.weigh.isSome then refuse .busy s
    else if ¬(1 ≤ unitPrice.toInt ∧ unitPrice.toInt ≤ 999999 ∧ description.length ≤ 24) then refuse .badValue s
    else
      match weighTare tare s with
      | none => refuse .badValue s
      | some t => if r.full then refuse .queueFull s else done (acceptWeigh description unitPrice.toInt t s)
  | _ => refuse .badState s

/-- CANCEL_WEIGH (R45). -/
def cancelWeighRequest (s : State) : State × Answer :=
  match s.scale.weigh with
  | none => refuse .badState s
  | some _ => done (endWeigh .cancelled none none none s)

end Sys2Proof.Machine
end

