-- ==== Sys2Proof/Machine/SaleRecord.lean ====
section
/-! DEFINITION. The Sale Controller (chapter 3, R50 to R73). -/

namespace Sys2Proof.Machine

/-- The current sale replaced. -/
def setSale (c : CurrentSale) (s : State) : State := { s with sale := { s.sale with current := c } }

/-- One SALE_STATE report (R51) for a record. -/
def saleReport (left : SaleState) (cause : SaleCause) (r : SaleRecord) (change : Option Int) (s : State) : State :=
  report (.saleState s.sale.current.state left cause r.number r.total change) s

/-! ### Opening and the basket (R53 to R59) -/

/-- A new record (R53). -/
def SaleRecord.fresh (number : Int) : SaleRecord where
  number  := number
  basket  := []
  total   := 0
  tenders := []

/-- OPEN_SALE (R53). -/
def openSaleRequest (number : Wide) (s : State) : State × Answer :=
  if s.sale.current.state ≠ .idle then refuse .badState s
  else if ¬(1 ≤ number.toInt ∧ number.toInt ≤ 9999999) then refuse .badValue s
  else if s.live.drawerCloseRequired ∧ s.live.drawerSensePresent ∧ s.drawer.state ≠ .closed then refuse .drawerOpen s
  else
    done (saleReport .idle .opened (SaleRecord.fresh number.toInt) none
      (setSale (.opened (SaleRecord.fresh number.toInt)) s))

/-- Check 3 of ADD_ITEM (R56). -/
def expectationFieldsOk (expected tolerance : Option Half) : Bool :=
  match expected, tolerance with
  | none, none => true
  | none, some _ => false
  | some w, none => decide (1 ≤ w.toNat ∧ w.toNat ≤ 30000)
  | some w, some t => decide (1 ≤ w.toNat ∧ w.toNat ≤ 30000) && decide (1 ≤ t.toNat ∧ t.toNat ≤ 2000)

/-- The SCANNED entry of an ADD_ITEM (R56). -/
def scannedEntry (number : Nat) (description : List Byte) (amount : Int) (expected tolerance : Option Half) : Entry where
  number      := number
  kind        := .scanned
  description := printableText description
  amount      := amount
  voided      := false
  voids       := none
  weighing    := none
  expected    := expected.map BitVec.toNat
  tolerance   := tolerance.map BitVec.toNat
  status      := .none

/-- ADD_ITEM (R56). -/
def addItemRequest (description : List Byte) (amount : Wide) (expected tolerance : Option Half) (s : State) :
    State × Answer :=
  match s.sale.current with
  | .opened r =>
    if ¬(description.length ≤ 24 ∧ -9999999 ≤ amount.toInt ∧ amount.toInt ≤ 9999999) then refuse .badValue s
    else if expectationFieldsOk expected tolerance = false then refuse .badValue s
    else if r.full then refuse .queueFull s
    else if totalInRange (r.total + amount.toInt) = false then refuse .limit s
    else
      answer (.entryTotal r.nextNumber (r.total + amount.toInt))
        (appendEntry (scannedEntry r.nextNumber description amount.toInt expected tolerance) s)
  | _ => refuse .badState s

/-- The VOID entry that names an entry (R58). -/
def voidEntryOf (number : Nat) (e : Entry) : Entry where
  number      := number
  kind        := .void
  description := e.description
  amount      := -e.amount
  voided      := false
  voids       := some e.number
  weighing    := none
  expected    := none
  tolerance   := none
  status      := .none

/-- The named entry becomes voided (R58). -/
def markVoided (n : Nat) (basket : List Entry) : List Entry :=
  basket.map fun e => if e.number = n then { e with voided := true } else e

/-- The effects of a successful VOID_ENTRY on the record and in the Bagging Monitor (R58, R59). -/
def voidTaken (number : Nat) (e : Entry) (s : State) : State :=
  entryVoided e
    (appendEntry (voidEntryOf number e)
      (mapSale (fun r => { r with basket := markVoided e.number r.basket }) s))

/-- VOID_ENTRY (R58). -/
def voidEntryRequest (entry : Byte) (s : State) : State × Answer :=
  match s.sale.current with
  | .opened r =>
    if s.attendant = false then refuse .notAttended s
    else
      match findEntry entry.toNat r.basket with
      | none => refuse .notFound s
      | some e =>
        if e.kind = .void ∨ e.voided then refuse .badValue s
        else if r.full then refuse .queueFull s
        else if totalInRange (r.total - e.amount) = false then refuse .limit s
        else answer (.entryTotal r.nextNumber (r.total - e.amount)) (voidTaken r.nextNumber e s)
  | _ => refuse .badState s

/-! ### To payment and back (R60, R61) -/

/-- BEGIN_TENDER (R60). -/
def beginTenderRequest (s : State) : State × Answer :=
  match s.sale.current with
  | .opened r =>
    if s.monitor.outstanding then refuse .exceptionPending s
    else if r.total < 0 then refuse .badValue s
    else done (saleReport .opened .tenderBegun r none (setSale (.tender r) s))
  | _ => refuse .badState s

/-- RESUME_SALE (R61). -/
def resumeSaleRequest (s : State) : State × Answer :=
  match s.sale.current with
  | .tender r =>
    if r.tenders.isEmpty then done (saleReport .tender .resumed r none (setSale (.opened r) s))
    else refuse .badState s
  | _ => refuse .badState s

/-! ### Tenders (R62 to R65) -/

/-- A tender appended (R62). -/
def SaleRecord.addTender (t : Tender) (r : SaleRecord) : SaleRecord := { r with tenders := r.tenders ++ [t] }

/-- ADD_CASH (R63). -/
def addCashRequest (amount : Wide) (s : State) : State × Answer :=
  match s.sale.current with
  | .tender r =>
    if ¬(1 ≤ amount.toInt ∧ amount.toInt ≤ 99999999) then refuse .badValue s
    else if 8 ≤ r.tenders.length then refuse .queueFull s
    else
      answer (.positionSum (r.tenders.length + 1) (r.tendered + amount.toInt))
        (mapSale (SaleRecord.addTender
          { kind := .cash, amount := amount.toInt, state := .accepted, masked := none }) s)
  | _ => refuse .badState s

/-- ADD_CARD_TENDER (R64, R115). -/
def addCardTenderRequest (amount : Wide) (s : State) : State × Answer :=
  match s.sale.current with
  | .tender r =>
    if r.cardPending then refuse .badState s
    else
      match s.reader.slot with
      | .held d m _ =>
        if ¬(1 ≤ amount.toInt ∧ amount.toInt ≤ r.total - r.tendered) then refuse .badValue s
        else if 8 ≤ r.tenders.length then refuse .queueFull s
        else
          answer (.positionMasked (r.tenders.length + 1) m)
            (setSlot (.attached d m)
              (mapSale (SaleRecord.addTender
                { kind := .card, amount := amount.toInt, state := .pending, masked := some m }) s))
      | _ => refuse .noCard s
  | _ => refuse .badState s

/-- The PENDING tender becomes APPROVED (R65). -/
def approveTenders (ts : List Tender) : List Tender :=
  ts.map fun t => if t.state = .pending then { t with state := .approved } else t

/-- The PENDING tender is removed (R65). -/
def declineTenders (ts : List Tender) : List Tender := ts.filter fun t => t.state != .pending

/-- A decision carried out: the tender is settled and the slot is emptied (R65, R117). -/
def decideCard (approved : Bool) (s : State) : State :=
  emptySlot (mapSale
    (fun r => { r with tenders := if approved then approveTenders r.tenders else declineTenders r.tenders }) s)

/-- The sum of tenders of the open sale; 0 in IDLE. -/
def State.tendered (s : State) : Int :=
  match s.sale.current.record? with
  | some r => r.tendered
  | none => 0

/-- CARD_DECISION (R65). -/
def cardDecisionRequest (decision : Byte) (s : State) : State × Answer :=
  match s.sale.current with
  | .tender r =>
    if r.cardPending = false then refuse .badState s
    else
      match decisionOfByte decision with
      | none => refuse .badValue s
      | some approved => answer (.tenderSum (decideCard approved s).tendered) (decideCard approved s)
  | _ => refuse .badState s

/-! ### Close and abandon (R66 to R68) -/

/-- The closed slot or the Print Queue holds a close back (R66 check 5). -/
def receiptBacklog (s : State) : Bool :=
  (match s.sale.closed with
    | some c => c.receipt == .pending
    | none => false) ||
  s.queue.jobs.any fun j => j.kind == .copy

/-- A card slot still HELD is emptied (R67, R117). -/
def emptyHeld (s : State) : State := if s.reader.slot.isHeld then emptySlot s else s

/-- The closed sale of a record (R67). -/
def closedOf (r : SaleRecord) : ClosedSale where
  record    := r
  changeDue := r.tendered - r.total
  receipt   := .pending

/-- The effects of a close, with its reports in their order (R67). -/
def closeSale (r : SaleRecord) (s : State) : State :=
  let c := closedOf r
  let s1 := saleReport .tender .closed r (some c.changeDue)
    { s with sale := { current := .idle, closed := some c } }
  let s2 := endWeigh .saleEnded none none none s1
  let s3 := acceptJob (receiptJob .original c s2) s2
  let s4 := if r.hasCash then kick .closeSale s3 else s3
  ignoreSwipe (emptyHeld (discardUnclaimed s4))

/-- CLOSE_SALE (R66). -/
def closeSaleRequest (s : State) : State × Answer :=
  match s.sale.current with
  | .tender r =>
    if r.cardPending then refuse .badState s
    else if s.monitor.outstanding then refuse .exceptionPending s
    else if r.tendered < r.total then refuse .badValue s
    else if receiptBacklog s then refuse .printerBacklog s
    else answer (.change (r.tendered - r.total)) (closeSale r s)
  | _ => refuse .badState s

/-- The effects of an abandon, with its reports in their order (R68). -/
def abandonSale (r : SaleRecord) (s : State) : State :=
  let s1 := saleReport s.sale.current.state .abandoned r none (setSale .idle s)
  let s2 := endWeigh .saleEnded none none none s1
  ignoreSwipe (emptySlot (emptyMonitor .saleEnded 0 s2))

/-- ABANDON_SALE (R68). -/
def abandonSaleRequest (s : State) : State × Answer :=
  match s.sale.current.record? with
  | none => refuse .badState s
  | some r =>
    if s.attendant = false then refuse .notAttended s
    else if r.tenders.isEmpty = false then refuse .badState s
    else done (abandonSale r s)

/-! ### The closed slot and reading (R70 to R73) -/

/-- REPRINT (R70). -/
def reprintRequest (s : State) : State × Answer :=
  match s.sale.closed with
  | none => refuse .badState s
  | some c =>
    match c.receipt with
    | .pending => refuse .badState s
    | .aborted =>
      let s1 := setReceipt .pending s
      answer (.jobId s.queue.nextJobId) (acceptJob (receiptJob .original c s1) s1)
    | .done =>
      if 3 ≤ s.queue.textAndCopy then refuse .queueFull s
      else answer (.jobId s.queue.nextJobId) (acceptJob (receiptJob .copy c s) s)

/-- The open record as READ_SALE returns it (R71). -/
def SaleRecord.view (r : SaleRecord) : OpenSaleView where
  number      := r.number
  entries     := r.basket.length
  tenders     := r.tenders.length
  total       := r.total
  tendered    := r.tendered
  cardPending := r.cardPending

/-- The closed sale as READ_SALE returns it (R71). -/
def ClosedSale.view (c : ClosedSale) : ClosedSaleView where
  number    := c.record.number
  total     := c.record.total
  changeDue := c.changeDue

/-- READ_SALE (R71). -/
def readSaleRequest (s : State) : State × Answer :=
  answer (.sale s.sale.current.state s.attendant (s.sale.current.record?.map SaleRecord.view)
    (s.sale.closed.map ClosedSale.receipt) (s.sale.closed.map ClosedSale.view)) s

/-- READ_ENTRY (R72). -/
def readEntryRequest (entry : Byte) (s : State) : State × Answer :=
  match s.sale.current.record? with
  | none => refuse .badState s
  | some r =>
    match findEntry entry.toNat r.basket with
    | none => refuse .notFound s
    | some e => answer (.entry e) s

/-- READ_TENDER (R73). -/
def readTenderRequest (position : Byte) (s : State) : State × Answer :=
  match s.sale.current.record? with
  | none => refuse .badState s
  | some r =>
    if position = 0 then refuse .notFound s
    else
      match r.tenders[position.toNat - 1]? with
      | none => refuse .notFound s
      | some t => answer (.tender t) s

end Sys2Proof.Machine
end

