-- ==== Sys2Proof/Machine/SettingsStore.lean ====
section
/-! DEFINITION. The Settings Store (chapter 11, R197 to R203). -/

namespace Sys2Proof.Machine

/-! ### The 36 settings by id (R197) -/

/-- The kinds of setting and how a value sent is taken (R198). -/
inductive SettingKind where
  | range (low high : Int)
  | gap
  | member (values : List Int) (default : Int)
  | text
  deriving DecidableEq, Repr

/-- on and off as numbers (R197). -/
def onOff (b : Bool) : Int := if b then 1 else 0

/-- The kind of each setting; an id above 35 names none (R197). -/
def settingKind (id : Nat) : Option SettingKind :=
  match id with
  | 0 | 1 => some (.member [50, 100, 200] 100)
  | 2 => some (.member [4, 8, 16, 32, 64] 16)
  | 3 => some (.member [4, 8, 16, 32, 64] 32)
  | 4 | 5 => some (.range 4 32)
  | 6 => some (.range 1 10)
  | 7 => some (.range 5 100)
  | 8 => some (.range 2 30)
  | 9 => some (.member [0, 1] 1)
  | 10 => some (.range 5 200)
  | 11 => some (.range 0 20)
  | 12 => some (.range 3 60)
  | 13 => some (.range 0 10)
  | 14 => some (.member [0, 1] 1)
  | 15 => some (.range 10 120)
  | 16 => some (.member [0, 1] 1)
  | 17 => some (.member [0, 1] 0)
  | 18 => some (.range 20 100)
  | 19 => some (.range 0 150)
  | 20 => some (.range 32 255)
  | 21 => some .gap
  | 22 => some (.range 16 40)
  | 23 => some (.range 0 3)
  | 24 | 25 | 26 | 27 | 28 | 29 | 30 | 31 => some .text
  | 32 => some (.range 80 120)
  | 33 => some (.range 0 24)
  | 34 => some (.member [9600, 19200, 38400, 57600, 115200] 38400)
  | 35 => some (.member [0, 1, 2] 0)
  | _ => none

/-- NONE, EVEN, ODD as 0, 1, 2 (R197). -/
def Parity.number : Parity → Int
  | .none => 0
  | .even => 1
  | .odd => 2

/-- The parity a number names (R197). -/
def parityOf (v : Int) : Parity := if v = 1 then .even else if v = 2 then .odd else .none

/-- A live setting by its id (R199). -/
def Settings.get (v : Settings) (id : Nat) : Option SettingValue :=
  match id with
  | 0 => some (.number v.platterSampleRate)
  | 1 => some (.number v.bagSampleRate)
  | 2 => some (.number v.platterFilterLen)
  | 3 => some (.number v.bagFilterLen)
  | 4 => some (.number v.platterStableLen)
  | 5 => some (.number v.bagStableLen)
  | 6 => some (.number v.bagBand)
  | 7 => some (.number v.bagThreshold)
  | 8 => some (.number v.weighTimeout)
  | 9 => some (.number (onOff v.tarePerItem))
  | 10 => some (.number v.bagTolAbs)
  | 11 => some (.number v.bagTolPct)
  | 12 => some (.number v.bagTimeout)
  | 13 => some (.number v.bagGrace)
  | 14 => some (.number (onOff v.cardReaderEnable))
  | 15 => some (.number v.cardHold)
  | 16 => some (.number (onOff v.drawerSensePresent))
  | 17 => some (.number (onOff v.drawerCloseRequired))
  | 18 => some (.number v.drawerPullMs)
  | 19 => some (.number v.drawerHoldMs)
  | 20 => some (.number v.drawerHoldDuty)
  | 21 => some (.number v.drawerAlarmS)
  | 22 => some (.number v.supplyBudget)
  | 23 => some (.number v.amountDecimals)
  | 24 => some (.text v.header1)
  | 25 => some (.text v.header2)
  | 26 => some (.text v.header3)
  | 27 => some (.text v.header4)
  | 28 => some (.text v.trailer1)
  | 29 => some (.text v.trailer2)
  | 30 => some (.text v.trailer3)
  | 31 => some (.text v.trailer4)
  | 32 => some (.number v.printDensity)
  | 33 => some (.number v.lineSpacing)
  | 34 => some (.number v.linkRate)
  | 35 => some (.number v.linkParity.number)
  | _ => none

/-- A numeric live setting replaced by its id; the ids of texts and those above 35 change nothing here. -/
def Settings.putNumber (v : Settings) (id : Nat) (x : Int) : Settings :=
  match id with
  | 0 => { v with platterSampleRate := x.toNat }
  | 1 => { v with bagSampleRate := x.toNat }
  | 2 => { v with platterFilterLen := x.toNat }
  | 3 => { v with bagFilterLen := x.toNat }
  | 4 => { v with platterStableLen := x.toNat }
  | 5 => { v with bagStableLen := x.toNat }
  | 6 => { v with bagBand := x.toNat }
  | 7 => { v with bagThreshold := x.toNat }
  | 8 => { v with weighTimeout := x.toNat }
  | 9 => { v with tarePerItem := x == 1 }
  | 10 => { v with bagTolAbs := x.toNat }
  | 11 => { v with bagTolPct := x.toNat }
  | 12 => { v with bagTimeout := x.toNat }
  | 13 => { v with bagGrace := x.toNat }
  | 14 => { v with cardReaderEnable := x == 1 }
  | 15 => { v with cardHold := x.toNat }
  | 16 => { v with drawerSensePresent := x == 1 }
  | 17 => { v with drawerCloseRequired := x == 1 }
  | 18 => { v with drawerPullMs := x.toNat }
  | 19 => { v with drawerHoldMs := x.toNat }
  | 20 => { v with drawerHoldDuty := x.toNat }
  | 21 => { v with drawerAlarmS := x.toNat }
  | 22 => { v with supplyBudget := x.toNat }
  | 23 => { v with amountDecimals := x.toNat }
  | 32 => { v with printDensity := x.toNat }
  | 33 => { v with lineSpacing := x.toNat }
  | 34 => { v with linkRate := x.toNat }
  | 35 => { v with linkParity := parityOf x }
  | _ => v

/-- A text live setting replaced by its id; other ids change nothing here. -/
def Settings.putText (v : Settings) (id : Nat) (t : List Byte) : Settings :=
  match id with
  | 24 => { v with header1 := t }
  | 25 => { v with header2 := t }
  | 26 => { v with header3 := t }
  | 27 => { v with header4 := t }
  | 28 => { v with trailer1 := t }
  | 29 => { v with trailer2 := t }
  | 30 => { v with trailer3 := t }
  | 31 => { v with trailer4 := t }
  | _ => v

/-- A live setting replaced by its id. -/
def Settings.put (v : Settings) (id : Nat) : SettingValue → Settings
  | .number x => v.putNumber id x
  | .text t => v.putText id t

/-! ### SET and GET (R198, R199) -/

/-- A value within a range, or its nearer end (R198). -/
def clampTo (low high v : Int) : Int := if v < low then low else if high < v then high else v

/-- The value of `drawer_alarm_s` taken: 0 below 0, 5 for 1..4, 120 above 120 (R198). -/
def clampGap (v : Int) : Int := if v < 0 then 0 else if 1 ≤ v ∧ v ≤ 4 then 5 else if 120 < v then 120 else v

/-- The number a kind takes for a number sent (R198); the kind text takes none. -/
def takenNumber (k : SettingKind) (v : Int) : Option Int :=
  match k with
  | .range low high => some (clampTo low high v)
  | .gap => some (clampGap v)
  | .member values default => some (if values.contains v then v else default)
  | .text => none

/-- The live settings replaced. -/
def setLive (v : Settings) (s : State) : State := { s with store := { s.store with live := v } }

/-- The line settings the live settings ask for (R182). -/
def Settings.line (v : Settings) : LineSettings where
  rate   := v.linkRate
  parity := v.linkParity

/-- What a change of a live setting does beyond the live value (R198). -/
def settingEffect (id : Nat) (s : State) : State :=
  match id with
  | 0 | 2 | 4 => restartChannel .platter s
  | 1 | 3 | 5 => restartChannel .bag s
  | 14 => if s.live.cardReaderEnable then s else ignoreSwipe s
  | 16 => sensePresentSet s
  | 20 => { s with drawer := { s.drawer with pendingDuty := s.live.drawerHoldDuty } }
  | 22 => budgetSet s
  | 34 | 35 => { s with link := { s.link with pendingLine := some s.live.line } }
  | _ => s

/-- A live setting takes a value; one that equals the live value changes nothing and starts no effect (R198). -/
def changeSetting (id : Nat) (value : SettingValue) (s : State) : State :=
  if s.live.get id = some value then s else settingEffect id (setLive (s.live.put id value) s)

/-- The answer of a SET whose value taken is `value` (R198). -/
def setAnswer (id : Nat) (value : SettingValue) (same : Bool) (s : State) : State × Answer :=
  (changeSetting id value s, .reply (if same then .ok else .adjusted) (.setting id value))

/-- SET (R198). A value in the form of the other kind does not fit its id and is answered BAD_LENGTH (R190, log 35). -/
def setRequest (id : Byte) (value : SettingArg) (s : State) : State × Answer :=
  match settingKind id.toNat, value with
  | none, .number _ => refuse .notFound s
  | none, .text _ => refuse .badLength s
  | some .text, .text chars =>
    if 32 < chars.length then refuse .badValue s
    else setAnswer id.toNat (.text (printableText chars)) (printableText chars == chars) s
  | some .text, .number _ => refuse .badLength s
  | some _, .text _ => refuse .badLength s
  | some k, .number v =>
    match takenNumber k v.toInt with
    | some x => setAnswer id.toNat (.number x) (x == v.toInt) s
    | none => refuse .badLength s

/-- GET (R199). -/
def getRequest (id : Byte) (s : State) : State × Answer :=
  match s.live.get id.toNat with
  | none => refuse .notFound s
  | some v => answer (.setting id.toNat v) s

/-! ### The store (R200, R201) -/

/-- The numeric settings in id order. -/
def Settings.numbers (v : Settings) : List Int :=
  [v.platterSampleRate, v.bagSampleRate, v.platterFilterLen, v.bagFilterLen, v.platterStableLen, v.bagStableLen,
    v.bagBand, v.bagThreshold, v.weighTimeout, onOff v.tarePerItem, v.bagTolAbs, v.bagTolPct, v.bagTimeout, v.bagGrace,
    onOff v.cardReaderEnable, v.cardHold, onOff v.drawerSensePresent, onOff v.drawerCloseRequired, v.drawerPullMs,
    v.drawerHoldMs, v.drawerHoldDuty, v.drawerAlarmS, v.supplyBudget, v.amountDecimals, v.printDensity, v.lineSpacing,
    v.linkRate, v.linkParity.number]

/-- The text settings in id order. -/
def Settings.texts (v : Settings) : List (List Byte) :=
  [v.header1, v.header2, v.header3, v.header4, v.trailer1, v.trailer2, v.trailer3, v.trailer4]

/-- The check byte of the settings image (R200; free, log 13). -/
def Settings.checkByte (v : Settings) : Byte := Config.settingsCheck v.numbers v.texts

/-- The check byte of a calibration record (R201; free, log 13). -/
def CalRecord.checkByte (r : CalRecord) : Byte :=
  Config.recordCheck r.calZero (r.span.map Span.counts) (r.span.map Span.loadT)
    (r.profile.map fun p => p.ctorIdx) r.calCount

/-- What a stored copy gives at a start: its values when the check byte recomputed from them equals the one stored;
nothing when it was never written or its write was cut off (R200, R201). -/
def StoredCopy.passing {α : Type} (check : α → Byte) : StoredCopy α → Option α
  | .neverWritten => none
  | .cutOff => none
  | .written v c => if check v = c then some v else none

/-- SAVE_SETTINGS (R200): the write starts and the reply waits for its end. -/
def saveSettingsRequest (s : State) : State × Answer :=
  ({ s with store := { s.store with write := some (.image s.live) } }, .deferred)

/-- A write in progress reaches its end: the copy is stored with its check byte (R200, R201). -/
def Store.writeDone (st : Store) : Store :=
  match st.write with
  | none => st
  | some (.image v) =>
    { st with
      image := .written v v.checkByte
      write := none }
  | some (.record .platter r) =>
    { st with
      platterCopy := .written r r.checkByte
      write := none }
  | some (.record .bag r) =>
    { st with
      bagCopy := .written r r.checkByte
      write := none }

/-- A loss of power cuts a write in progress off (R17, R200, R201; log 31). -/
def Store.cutOff (st : Store) : Store :=
  match st.write with
  | none => st
  | some (.image _) =>
    { st with
      image := .cutOff
      write := none }
  | some (.record .platter _) =>
    { st with
      platterCopy := .cutOff
      write := none }
  | some (.record .bag _) =>
    { st with
      bagCopy := .cutOff
      write := none }

/-- RESTART (R202): answered at once; the restart is carried out once the reply has been sent (R191). -/
def restartRequest (s : State) : State × Answer :=
  done { s with link := { s.link with restart := .asked } }

/-- The revision letter, one of the 26 capitals (R203; free, log 12). -/
def revisionLetter : Byte := byteOf (0x41 + Config.revisionIndex.val)

/-- IDENTIFY (R203). -/
def identifyRequest (s : State) : State × Answer :=
  answer (.identity revisionLetter s.platter.record.calCount s.platter.record.profileInForce s.bag.record.calCount) s

end Sys2Proof.Machine
end

