-- ==== Sys2Proof/Machine/PowerUp.lean ====
section
/-! DEFINITION. The start of the part at power-on and at the carrying out of a restart, and the loss of power (R2, R200
to R202 and the start values of every block). -/

namespace Sys2Proof.Machine

/-- A weighing channel at a start (R2): its record, STARTING or UNCALIBRATED, or FAULT when its excitation lies outside
the window. -/
def startedChannel (ch : ChannelId) (excitation : Bool) (r : CalRecord) : Channel where
  condition     := if excitation then startCondition ch r else .fault
  converterOn   := excitation
  settling      := 2
  filterRing    := []
  filterSum     := 0
  latest        := none
  stabilityRing := []
  zeroRef       := r.calZero
  powerUpZero   := none
  trackingCount := 0
  record        := r

/-- The platter's tare, occupancy and weigh request at a start (R31, R37, section 2.5). -/
def startedScale : PlatterScale where
  tareT     := 0
  occupancy := .empty
  weigh     := none

/-- The Sale Controller at a start (R50). -/
def startedSale : SaleBlock where
  current := .idle
  closed  := none

/-- The Bagging Monitor at a start (R74). -/
def startedMonitor : Monitor where
  expectations    := []
  unclaimed       := none
  exceptions      := []
  suspended       := false
  nextExceptionId := 1
  nextOrder       := 0

/-- The Card Reader at a start (R98, R113). -/
def startedReader : Reader where
  gap      := .swipe
  decoded  := false
  gapTimer := 20
  alpha    := Track.blank
  numeric  := Track.blank
  slot     := .empty

/-- The Drawer Controller at a start (R120, R121). -/
def startedDrawer (v : Settings) (isOpen : Bool) : Drawer where
  state       := if isOpen && v.drawerSensePresent then .opened else .closed
  senseOpen   := isOpen
  attempts    := 0
  phaseTimer  := none
  alarmTimer  :=
    if isOpen && v.drawerSensePresent && v.drawerAlarmS != 0 then some (v.drawerAlarmS * 1000) else none
  dutyInForce := v.drawerHoldDuty
  pendingDuty := v.drawerHoldDuty
  kickSource  := none

/-- The Tone Generator at a start (R133). -/
def startedTone : Tone where
  owner           := .none
  drawerAlarmHeld := false
  bagAlertHeld    := false
  position        := none
  sounding        := false
  level           := false
  halfPeriod      := 250
  pendingHalf     := none
  toggleCounter   := 0
  beep            := none

/-- The Supply Arbiter at a start (R137). -/
def startedSupply (v : Settings) (low : Bool) : Supply where
  budget  := v.supplyBudget
  low     := low
  granted := { drawer := 0, cutter := 0, motor := 0, head := 0 }
  waiting := { drawer := none, cutter := none, motor := none, head := none }

/-- The Print Queue at a start (R146). -/
def startedQueue : PrintQueue where
  jobs      := []
  nextJobId := 1

/-- The Print Engine at a start (R165). -/
def startedEngine (x : StartInputs) : Engine where
  condition     := .idle
  causes        :=
    { paperOut := x.paperOut
      coverOpen := x.coverOpen
      headHot := decide (65 ≤ x.headTemp)
      supplyLow := x.supplyBelow20 }
  paperLow      := x.paperLow
  line          := none
  row           := none
  phase         := none
  stepRunning   := none
  memory        := 0
  band          := bandOf x.headTemp
  speedIndex    := 0
  periodInForce := 2500
  pendingPeriod := 2500
  cutter        := .rest
  seenAway      := false
  cutTimer      := none
  clearTaken    := false
  abandoned     := false

/-- The Link Controller at a start (R182, R196), before the reports of the start. -/
def startedLink (v : Settings) : Link where
  line          := v.line
  pendingLine   := none
  lineChangeDue := false
  receiver      := Receiver.hunting
  gapTimer      := none
  slots         := []
  dispatch      := .free
  reply         := none
  reports       := []
  lost          := false
  transmitter   := .idle
  restart       := .none

/-- The live settings a start loads (R201). -/
def Store.loaded (st : Store) : Settings := (st.image.passing Settings.checkByte).getD Settings.defaults

/-- The calibration record a start loads for a channel (R201). -/
def Store.loadedRecord (st : Store) : ChannelId → CalRecord
  | .platter => (st.platterCopy.passing CalRecord.checkByte).getD CalRecord.blank
  | .bag => (st.bagCopy.passing CalRecord.checkByte).getD CalRecord.blank

/-- Every block at its start values, with the settings and records loaded (R201). -/
def startedBlocks (x : StartInputs) (s : State) : State where
  pending   := s.pending
  powered   := true
  now       := 0
  inputs    :=
    { calEnable := x.calEnable
      headTemp := x.headTemp
      cutterHome := x.cutterHome }
  attendant := false
  platter   := startedChannel .platter x.platterExcitation (s.store.loadedRecord .platter)
  bag       := startedChannel .bag x.bagExcitation (s.store.loadedRecord .bag)
  scale     := startedScale
  settledS  := none
  sale      := startedSale
  monitor   := startedMonitor
  reader    := startedReader
  drawer    := startedDrawer s.store.loaded x.drawerOpen
  tone      := startedTone
  supply    := startedSupply s.store.loaded x.supplyBelow20
  queue     := startedQueue
  engine    := startedEngine x
  link      := startedLink s.store.loaded
  store     :=
    { s.store with
      live := s.store.loaded
      write := none }

/-- The RESTARTED report of a start (R201). -/
def restartedReport (cause : StartCause) (st : Store) : Report :=
  .restarted cause (st.image.passing Settings.checkByte).isSome
    (st.platterCopy.passing CalRecord.checkByte).isSome ((st.loadedRecord .platter).valid .platter)
    (st.bagCopy.passing CalRecord.checkByte).isSome ((st.loadedRecord .bag).valid .bag)

/-- A start: the blocks at their start values, RESTARTED, and SETTINGS_STATE when the image failed its check (R201). -/
def startPart (cause : StartCause) (x : StartInputs) (s : State) : State :=
  let s1 := report (restartedReport cause s.store) (startedBlocks x s)
  if (s.store.image.passing Settings.checkByte).isSome then s1 else report .settingsState s1

/-- Power is lost: a write in progress is cut off, and the part stands still until the next POWER_ON (R200, log 5). -/
def losePower (s : State) : State :=
  { s with
    powered := false
    store := s.store.cutOff }

/-- Power-on; of a part that was powered it is a loss of power first (log 5). -/
def applyPower (x : StartInputs) (s : State) : State := startPart .powerOn x (losePower s)

end Sys2Proof.Machine
end

