-- ==== Sys2Proof/Machine/HostLink.lean ====
section
/-! DEFINITION. The Link Controller (chapter 10, R182 to R196): dispatch, the receiver, replies and line changes. -/

namespace Sys2Proof.Machine

/-! ### Dispatch (R189 to R191) -/

/-- A request given to the block that owns it (R190 case 3). -/
def handleRequest (r : Request) (s : State) : State × Answer :=
  match r with
  | .readWeight ch => readWeightRequest ch s
  | .zero ch => zeroRequest ch s
  | .calZero ch => calZeroRequest ch s
  | .calSpan ch load => calSpanRequest ch load s
  | .setProfile p => setProfileRequest p s
  | .setTare w => setTareRequest w s
  | .takeTare => takeTareRequest s
  | .clearTare => clearTareRequest s
  | .weighItem d u t => weighItemRequest d u t s
  | .cancelWeigh => cancelWeighRequest s
  | .openSale n => openSaleRequest n s
  | .addItem d a e t => addItemRequest d a e t s
  | .voidEntry n => voidEntryRequest n s
  | .beginTender => beginTenderRequest s
  | .resumeSale => resumeSaleRequest s
  | .addCash a => addCashRequest a s
  | .addCardTender a => addCardTenderRequest a s
  | .cardDecision d => cardDecisionRequest d s
  | .closeSale => closeSaleRequest s
  | .abandonSale => abandonSaleRequest s
  | .reprint => reprintRequest s
  | .readSale => readSaleRequest s
  | .readEntry n => readEntryRequest n s
  | .readTender p => readTenderRequest p s
  | .clearException id => clearExceptionRequest id s
  | .waiveBagging n => waiveBaggingRequest n s
  | .bagResync => bagResyncRequest s
  | .readBagging first => readBaggingRequest first s
  | .releaseCard => releaseCardRequest s
  | .discardCard => discardCardRequest s
  | .readCard => readCardRequest s
  | .noSale => noSaleRequest s
  | .drawerReset => drawerResetRequest s
  | .readDrawer => readDrawerRequest s
  | .beep f t n => beepRequest f t n s
  | .readSupply => readSupplyRequest s
  | .printText lines => printTextRequest lines s
  | .printerClear => printerClearRequest s
  | .readPrintQueue => readPrintQueueRequest s
  | .readPrinter => readPrinterRequest s
  | .set id v => setRequest id v s
  | .get id => getRequest id s
  | .saveSettings => saveSettingsRequest s
  | .restart => restartRequest s
  | .identify => identifyRequest s

/-- The reply slot filled (R190, R192). -/
def formReply (kind tag : Byte) (status : Status) (fields : ReplyFields) (s : State) : State :=
  { s with link := { s.link with
    reply := some { kind := replyKind kind, tag := tag, status := status, fields := fields } } }

/-- What a dispatch leaves: the reply formed, or WRITING until the store write ends (R190, R191). -/
def settleAnswer (kind tag : Byte) (x : State × Answer) : State :=
  match x with
  | (s, .reply status fields) => formReply kind tag status fields s
  | (s, .deferred) => { s with link := { s.link with dispatch := .writing kind tag } }

/-- A request taken whole (R190 case 3). -/
def takeRequest (tag : Byte) (r : Request) (s : State) : State :=
  settleAnswer (requestKind r) tag (handleRequest r s)

/-- A frame's KIND and BODY judged, and the request it carries handled (R190). -/
def handleFrame (f : Frame) (s : State) : State × Answer :=
  match parseRequest f.kind f.body with
  | .unknown => refuse .unknownRequest s
  | .badLength => refuse .badLength s
  | .request r => handleRequest r s

/-- A frame that has left its slot is dispatched (R190). -/
def takeFrame (f : Frame) (s : State) : State := settleAnswer f.kind f.tag (handleFrame f s)

/-- Dispatch is open: FREE, the reply slot empty, and no restart or line change due (R190, R191, R195). -/
def Link.dispatchOpen (l : Link) : Bool :=
  l.dispatch == .free && l.reply.isNone && l.restart == .none && !l.lineChangeDue

/-- The slots changed. -/
def setSlots (fs : List Frame) (s : State) : State := { s with link := { s.link with slots := fs } }

/-- The request of the earliest arrival is dispatched when dispatch is open (R190). -/
def dispatchNext (s : State) : State :=
  if s.link.dispatchOpen then
    match s.link.slots with
    | f :: rest => takeFrame f (setSlots rest s)
    | [] => s
  else s

/-- A checked frame is offered to the receive slots; with both full it is lost (R189). -/
def offerFrame (f : Frame) (s : State) : State :=
  if s.link.slots.length < 2 then setSlots (s.link.slots ++ [f]) s
  else report (.linkError .rxOverrun (some f.kind) (some f.tag)) s

/-- A checked frame arrives: it takes a slot and is dispatched at once when dispatch is open (R189, R190). -/
def frameArrives (f : Frame) (s : State) : State := dispatchNext (offerFrame f s)

/-- A checked frame of a request arrives (log 1). Where it would be dispatched from its slot at once, the request is
taken directly; otherwise its frame is offered to the slots. -/
def requestArrives (tag : Byte) (r : Request) (s : State) : State :=
  if s.link.dispatchOpen ∧ s.link.slots = [] then takeRequest tag r s else frameArrives (requestFrame tag r) s

/-! ### The receiver (R183, R185 to R188) -/

/-- The receiver goes on with a frame; its gap timer is restarted (R185, R187). -/
def keepReceiving (x : Receiver) (s : State) : State :=
  { s with link := { s.link with
    receiver := x
    gapTimer := some 20 } }

/-- The receiver returns to HUNT and its gap timer stops (R185). -/
def huntAgain (s : State) : State :=
  { s with link := { s.link with
    receiver := Receiver.hunting
    gapTimer := none } }

/-- A frame ends in error, with one LINK_ERROR (R186). -/
def endFrame (reason : LinkErrorReason) (s : State) : State :=
  report (.linkError reason s.link.receiver.kind s.link.receiver.tag) (huntAgain s)

/-- A frame in progress ends in error; in HUNT nothing happens (R187, R188, R195). -/
def endFrameInside (reason : LinkErrorReason) (s : State) : State :=
  if s.link.receiver.phase = .hunt then s else endFrame reason s

/-- The EOF place decides the frame (R185). -/
def eofPlace (b : Byte) (s : State) : State :=
  let x := s.link.receiver
  if x.chk ≠ x.check then endFrame .check s
  else if b ≠ 0x5A then endFrame .noEof s
  else
    frameArrives { kind := x.kind.getD 0, tag := x.tag.getD 0, body := x.body } (huntAgain s)

/-- A good byte is taken (R185). -/
def byteArrives (b : Byte) (s : State) : State :=
  let x := s.link.receiver
  match x.phase with
  | .hunt => if b = 0xA5 then keepReceiving { Receiver.hunting with phase := .len } s else s
  | .len =>
    if 2 ≤ b.toNat ∧ b.toNat ≤ 250 then
      keepReceiving { x with phase := .kind, len := b.toNat, check := x.check ^^^ b } s
    else endFrame .lenRange s
  | .kind => keepReceiving { x with phase := .tag, kind := some b, check := x.check ^^^ b } s
  | .tag =>
    keepReceiving { x with phase := if x.len = 2 then .chk else .body, tag := some b, check := x.check ^^^ b } s
  | .body =>
    keepReceiving
      { x with
        phase := if x.body.length + 1 = x.len - 2 then .chk else .body
        body := x.body ++ [b]
        check := x.check ^^^ b } s
  | .chk => keepReceiving { x with phase := .eof, chk := b } s
  | .eof => eofPlace b s

/-- A character is judged and taken (R183, R185, R186): a faulty one ends the frame it falls in and is dropped in
HUNT. -/
def charArrives (c : LineChar) (s : State) : State :=
  match judgeChar s.link.line.parity c with
  | .ok b => byteArrives b s
  | .error reason => endFrameInside reason s

/-- The good bytes of a frame one after another, each an event of its own (R185; log 29). -/
def bytesArrive : List Byte → State → State
  | [], s => s
  | b :: bs, s => bytesArrive bs (endEvent (byteArrives b s))

/-! ### The characters of the line (R182) -/

/-- The parity bit of a character (R182): it makes the number of 1s even or odd; under NONE there is none. -/
def parityBits (p : Parity) (b : Byte) : List Bool :=
  match p with
  | .none => []
  | .even => [oddOnes b]
  | .odd => [!oddOnes b]

/-- The levels of a character on the line in the order they are sent, one for each bit time (R182): a low start bit, the
8 data bits least significant first, the parity bit and a high stop bit. -/
def sentCharacter (p : Parity) (b : Byte) : List Bool :=
  false :: (List.ofFn (fun i : Fin 8 => b.getLsbD i) ++ parityBits p b ++ [true])

/-- A bit whose three samples agree (R183). -/
def cleanSample (level : Bool) : Sample := ⟨level, level, level⟩

/-- The character a receiver samples when the line takes these levels, one for each bit time (R182, R183). -/
def charOfLevels (p : Parity) (levels : List Bool) : LineChar where
  start  := cleanSample (levels.getD 0 true)
  data   := Vector.ofFn fun i => cleanSample (levels.getD (i.val + 1) true)
  parity := cleanSample (levels.getD 9 true)
  stop   := cleanSample (levels.getD (if p = .none then 9 else 10) true)

/-- The bytes of the frame being sent; none while the transmitter is idle (R184, R194). -/
def Link.frameSent (l : Link) : List Byte :=
  match l.transmitter with
  | .idle => []
  | .sendingReply => (l.reply.map Reply.bytes).getD []
  | .sendingReport q => q.bytes

/-- The levels that carry the frame being sent, character after character at the line settings in force (R182, R194). -/
def Link.levelsSent (l : Link) : List Bool := l.frameSent.flatMap (sentCharacter l.line.parity)

/-! ### Sending (R191, R194, R195, R202) -/

/-- A store write ends: the copy is stored, the deferred reply is formed and dispatch is FREE (R191). -/
def writeEnds (s : State) : State :=
  match s.link.dispatch with
  | .free => s
  | .writing kind tag =>
    formReply kind tag .ok .empty
      { s with
        store := s.store.writeDone
        link := { s.link with dispatch := .free } }

/-- The reply slot is emptied and the transmitter is idle (R194). -/
def Link.replyGone (l : Link) : Link :=
  { l with
    reply := none
    transmitter := .idle }

/-- The last byte of the reply has been sent (R191, R194, R195, R202): a restart asked for is due, a pending line change
is due, otherwise the next waiting request is dispatched. -/
def replyEnds (s : State) : State :=
  match s.link.transmitter with
  | .sendingReply =>
    if s.link.restart = .asked then { s with link := { s.link.replyGone with restart := .due } }
    else if s.link.pendingLine.isSome then { s with link := { s.link.replyGone with lineChangeDue := true } }
    else dispatchNext { s with link := s.link.replyGone }
  | _ => s

/-- The last byte of a report has been sent (R194). -/
def reportEnds (s : State) : State :=
  match s.link.transmitter with
  | .sendingReport _ => { s with link := { s.link with transmitter := .idle } }
  | _ => s

/-- The pending line settings come into force (R195). -/
def Link.lineChanged (l : Link) : Link :=
  { l with
    line := l.pendingLine.getD l.line
    pendingLine := none
    lineChangeDue := false }

/-- The line change due is made: a frame partly received is discarded, and dispatch goes on (R195, log 9). -/
def lineChanges (s : State) : State :=
  if s.link.lineChangeDue then
    dispatchNext (endFrameInside .rateChange { s with link := s.link.lineChanged })
  else s

/-- The restart due is carried out (R202, log 10). -/
def restartHappens (x : StartInputs) (s : State) : State :=
  if s.link.restart = .due then startPart .request x s else s

/-! ### One command as an event -/

/-- An event of a powered part, at whose end an idle transmitter chooses (R194, log 5, log 8). -/
def asEvent (f : State → State) (s : State) : State := if s.powered then endEvent (f s) else s

/-- A request command (log 1). -/
def asRequest (tag : Byte) (r : Request) (s : State) : State := asEvent (requestArrives tag r) s

/-- A request command that brings the level of the calibration enable input (R18, log 6). -/
def asCalibration (calEnable : Bool) (tag : Byte) (r : Request) (s : State) : State :=
  asEvent (fun x => requestArrives tag r { x with inputs := { x.inputs with calEnable := calEnable } }) s

end Sys2Proof.Machine
end

