-- ==== Sys2Proof/Machine/BagCommands.lean ====
section
/-! DEFINITION. The meanings of the commands of the Bagging Monitor (chapter 4). -/

namespace Sys2Proof.Machine

/-- CLEAR_EXCEPTION (R90). -/
def execClearException (tag : Byte) (id : Byte) (s : State) : Host.Outcome State Fault Refusal :=
  .next (asRequest tag (.clearException id) s)

/-- WAIVE_BAGGING (R91). -/
def execWaiveBagging (tag : Byte) (entry : Byte) (s : State) : Host.Outcome State Fault Refusal :=
  .next (asRequest tag (.waiveBagging entry) s)

/-- BAG_RESYNC (R92). -/
def execBagResync (tag : Byte) (s : State) : Host.Outcome State Fault Refusal :=
  .next (asRequest tag .bagResync s)

/-- READ_BAGGING (R96). -/
def execReadBagging (tag : Byte) (first : Byte) (s : State) : Host.Outcome State Fault Refusal :=
  .next (asRequest tag (.readBagging first) s)

/-- BAG_TIMER_EXPIRY (R78). -/
def execBagTimerExpiry (entry : Nat) (s : State) : Host.Outcome State Fault Refusal :=
  .next (asEvent (bagTimerExpires entry) s)

/-- GRACE_TIMER_EXPIRY (R85). -/
def execGraceTimerExpiry (s : State) : Host.Outcome State Fault Refusal :=
  .next (asEvent graceExpires s)

end Sys2Proof.Machine
end

