-- ==== Sys2Proof/Machine/CardCommands.lean ====
section
/-! DEFINITION. The meanings of the commands of the Card Reader (chapter 5). -/

namespace Sys2Proof.Machine

/-- RELEASE_CARD (R116). -/
def execReleaseCard (tag : Byte) (s : State) : Host.Outcome State Fault Refusal :=
  .next (asRequest tag .releaseCard s)

/-- DISCARD_CARD (R118). -/
def execDiscardCard (tag : Byte) (s : State) : Host.Outcome State Fault Refusal :=
  .next (asRequest tag .discardCard s)

/-- READ_CARD (R119). -/
def execReadCard (tag : Byte) (s : State) : Host.Outcome State Fault Refusal :=
  .next (asRequest tag .readCard s)

/-- SWIPE_BEGIN (R98). -/
def execSwipeBegin (head : HeadId) (s : State) : Host.Outcome State Fault Refusal :=
  .next (asEvent (swipeBegins head) s)

/-- SWIPE_END (R98, R110). -/
def execSwipeEnd (s : State) : Host.Outcome State Fault Refusal :=
  .next (asEvent swipeEnds s)

/-- HOLD_TIMER_EXPIRY (R114). -/
def execHoldTimerExpiry (s : State) : Host.Outcome State Fault Refusal :=
  .next (asEvent holdExpires s)

/-- FLUX_TRANSITION (R97): a transition, `elapsed` microseconds after the capture timer was last brought up to date. -/
def execFluxTransition (head : HeadId) (elapsed : Nat) (s : State) : Host.Outcome State Fault Refusal :=
  .next (asEvent (fluxArrives head elapsed) s)

end Sys2Proof.Machine
end

