-- ==== Sys2Proof/Machine/DrawerCommands.lean ====
section
/-! DEFINITION. The meanings of the commands of the drawer, the tone output and the supply (chapters 6 and 7). -/

namespace Sys2Proof.Machine

/-- NO_SALE (R130). -/
def execNoSale (tag : Byte) (s : State) : Host.Outcome State Fault Refusal :=
  .next (asRequest tag .noSale s)

/-- DRAWER_RESET (R131). -/
def execDrawerReset (tag : Byte) (s : State) : Host.Outcome State Fault Refusal :=
  .next (asRequest tag .drawerReset s)

/-- READ_DRAWER (R132). -/
def execReadDrawer (tag : Byte) (s : State) : Host.Outcome State Fault Refusal :=
  .next (asRequest tag .readDrawer s)

/-- BEEP (R136). -/
def execBeep (tag : Byte) (frequency : Half) (onTime : Half) (count : Byte) (s : State) :
    Host.Outcome State Fault Refusal :=
  .next (asRequest tag (.beep frequency onTime count) s)

/-- READ_SUPPLY (R145). -/
def execReadSupply (tag : Byte) (s : State) : Host.Outcome State Fault Refusal :=
  .next (asRequest tag .readSupply s)

/-- SENSE_CHANGE (R120): the debounced sense takes a level. -/
def execSenseChange (isOpen : Bool) (s : State) : Host.Outcome State Fault Refusal :=
  .next (asEvent (senseChanged isOpen) s)

/-- PULL_IN_END (R124). -/
def execPullInEnd (s : State) : Host.Outcome State Fault Refusal :=
  .next (asEvent pullInEnds s)

/-- HOLD_END (R125). -/
def execHoldEnd (s : State) : Host.Outcome State Fault Refusal :=
  .next (asEvent holdEnds s)

/-- PWM_PERIOD_BOUNDARY (R125). -/
def execPwmPeriodBoundary (s : State) : Host.Outcome State Fault Refusal :=
  .next (asEvent pwmBoundary s)

/-- COOL_END (R127). -/
def execCoolEnd (s : State) : Host.Outcome State Fault Refusal :=
  .next (asEvent coolEnds s)

/-- ALARM_TIMER_EXPIRY (R128). -/
def execAlarmTimerExpiry (s : State) : Host.Outcome State Fault Refusal :=
  .next (asEvent alarmExpires s)

/-- TOGGLE_COUNTER_EXPIRY (R133). -/
def execToggleCounterExpiry (s : State) : Host.Outcome State Fault Refusal :=
  .next (asEvent (fun x => { x with tone := x.tone.toggle }) s)

/-- PATTERN_STEP_END (R134). -/
def execPatternStepEnd (s : State) : Host.Outcome State Fault Refusal :=
  .next (asEvent (fun x => { x with tone := x.tone.stepEnd }) s)

/-- SUPPLY_LOW (R143). -/
def execSupplyLow (s : State) : Host.Outcome State Fault Refusal :=
  .next (asEvent supplyFalls s)

/-- SUPPLY_RECOVERY (R144). -/
def execSupplyRecovery (s : State) : Host.Outcome State Fault Refusal :=
  .next (asEvent supplyRecovers s)

end Sys2Proof.Machine
end

