-- ==== Sys2Proof/Machine/LinkCommands.lean ====
section
/-! DEFINITION. The meanings of the commands of the Host Link (chapter 10). -/

namespace Sys2Proof.Machine

/-- UNKNOWN_REQUEST (R190): a checked frame whose KIND names no request arrives. -/
def execUnknownRequest (kind : Byte) (tag : Byte) (body : List Byte) (s : State) : Host.Outcome State Fault Refusal :=
  .next (asEvent (frameArrives { kind := kind, tag := tag, body := body }) s)

/-- RECEIVE_FRAME (R185): the good bytes of a frame, one after another. -/
def execReceiveFrame (bytes : List Byte) (s : State) : Host.Outcome State Fault Refusal :=
  .next (if s.powered then bytesArrive bytes s else s)

/-- FRAME_GAP (R187). -/
def execFrameGap (s : State) : Host.Outcome State Fault Refusal :=
  .next (asEvent (endFrameInside .frameGap) s)

/-- BREAK (R188). -/
def execLineBreak (s : State) : Host.Outcome State Fault Refusal :=
  .next (asEvent (endFrameInside .lineBreak) s)

/-- WRITE_END (R191). -/
def execWriteEnd (s : State) : Host.Outcome State Fault Refusal :=
  .next (asEvent writeEnds s)

/-- REPLY_SENT (R194). -/
def execReplySent (s : State) : Host.Outcome State Fault Refusal :=
  .next (asEvent replyEnds s)

/-- REPORT_SENT (R194). -/
def execReportSent (s : State) : Host.Outcome State Fault Refusal :=
  .next (asEvent reportEnds s)

/-- LINE_SETTINGS_CHANGE (R195). -/
def execLineSettingsChange (s : State) : Host.Outcome State Fault Refusal :=
  .next (asEvent lineChanges s)

/-- RESTART_CARRIED_OUT (R202): the restart, with the levels the inputs show. -/
def execRestartCarriedOut (levels : StartInputs) (s : State) : Host.Outcome State Fault Refusal :=
  .next (asEvent (restartHappens levels) s)

/-- CHARACTER_RECEIVED (R183, R185). -/
def execCharacterReceived (char : LineChar) (s : State) : Host.Outcome State Fault Refusal :=
  .next (asEvent (charArrives char) s)

end Sys2Proof.Machine
end

