-- ==== Sys2Proof/Machine/PrinterCommands.lean ====
section
/-! DEFINITION. The meanings of the commands of the Print Queue and the Print Engine (chapters 8 and 9). -/

namespace Sys2Proof.Machine

/-- PRINT_TEXT (R151). -/
def execPrintText (tag : Byte) (lines : List LineArg) (s : State) : Host.Outcome State Fault Refusal :=
  .next (asRequest tag (.printText lines) s)

/-- PRINTER_CLEAR (R155). -/
def execPrinterClear (tag : Byte) (s : State) : Host.Outcome State Fault Refusal :=
  .next (asRequest tag .printerClear s)

/-- READ_PRINT_QUEUE (R163). -/
def execReadPrintQueue (tag : Byte) (s : State) : Host.Outcome State Fault Refusal :=
  .next (asRequest tag .readPrintQueue s)

/-- READ_PRINTER (R181). -/
def execReadPrinter (tag : Byte) (s : State) : Host.Outcome State Fault Refusal :=
  .next (asRequest tag .readPrinter s)

/-- PAPER_SENSOR (R166). -/
def execPaperSensor (out : Bool) (s : State) : Host.Outcome State Fault Refusal :=
  .next (asEvent (causeFollows .paperOut out) s)

/-- COVER_SENSOR (R166). -/
def execCoverSensor (isOpen : Bool) (s : State) : Host.Outcome State Fault Refusal :=
  .next (asEvent (causeFollows .coverOpen isOpen) s)

/-- PAPER_LOW_SENSOR (R166). -/
def execPaperLowSensor (low : Bool) (s : State) : Host.Outcome State Fault Refusal :=
  .next (asEvent (paperLowChanges low) s)

/-- HEAD_TEMPERATURE (R166): a reading of the head temperature. -/
def execHeadTemperature (reading : Int) (s : State) : Host.Outcome State Fault Refusal :=
  .next (asEvent (headReads reading) s)

/-- PHASE_END (R172). -/
def execPhaseEnd (s : State) : Host.Outcome State Fault Refusal :=
  .next (asEvent phaseEnds s)

/-- STEP_END (R173). -/
def execStepEnd (s : State) : Host.Outcome State Fault Refusal :=
  .next (asEvent stepEnds s)

/-- HOME_SENSOR_RETURN (R177, R179). -/
def execHomeSensorReturn (s : State) : Host.Outcome State Fault Refusal :=
  .next (asEvent homeReturns s)

/-- CUT_TIMER_EXPIRY (R178). -/
def execCutTimerExpiry (s : State) : Host.Outcome State Fault Refusal :=
  .next (asEvent cutJams s)

/-- HOME_SENSOR_AWAY (R177). -/
def execHomeSensorAway (s : State) : Host.Outcome State Fault Refusal :=
  .next (asEvent homeLeaves s)

end Sys2Proof.Machine
end

