-- ==== Sys2Proof/Machine/SaleCommands.lean ====
section
/-! DEFINITION. The meanings of the commands of the Sale Controller and the attendant switch (chapter 3). -/

namespace Sys2Proof.Machine

/-- OPEN_SALE (R53). -/
def execOpenSale (tag : Byte) (number : Wide) (s : State) : Host.Outcome State Fault Refusal :=
  .next (asRequest tag (.openSale number) s)

/-- ADD_ITEM (R56). -/
def execAddItem (tag : Byte) (description : List Byte) (amount : Wide) (expected : Option Half) (tolerance : Option Half) (s : State) :
    Host.Outcome State Fault Refusal :=
  .next (asRequest tag (.addItem description amount expected tolerance) s)

/-- VOID_ENTRY (R58, R59). -/
def execVoidEntry (tag : Byte) (entry : Byte) (s : State) : Host.Outcome State Fault Refusal :=
  .next (asRequest tag (.voidEntry entry) s)

/-- BEGIN_TENDER (R60). -/
def execBeginTender (tag : Byte) (s : State) : Host.Outcome State Fault Refusal :=
  .next (asRequest tag .beginTender s)

/-- RESUME_SALE (R61). -/
def execResumeSale (tag : Byte) (s : State) : Host.Outcome State Fault Refusal :=
  .next (asRequest tag .resumeSale s)

/-- ADD_CASH (R63). -/
def execAddCash (tag : Byte) (amount : Wide) (s : State) : Host.Outcome State Fault Refusal :=
  .next (asRequest tag (.addCash amount) s)

/-- ADD_CARD_TENDER (R64, R115). -/
def execAddCardTender (tag : Byte) (amount : Wide) (s : State) : Host.Outcome State Fault Refusal :=
  .next (asRequest tag (.addCardTender amount) s)

/-- CARD_DECISION (R65, R117). -/
def execCardDecision (tag : Byte) (decision : Byte) (s : State) : Host.Outcome State Fault Refusal :=
  .next (asRequest tag (.cardDecision decision) s)

/-- CLOSE_SALE (R66, R67). -/
def execCloseSale (tag : Byte) (s : State) : Host.Outcome State Fault Refusal :=
  .next (asRequest tag .closeSale s)

/-- ABANDON_SALE (R68). -/
def execAbandonSale (tag : Byte) (s : State) : Host.Outcome State Fault Refusal :=
  .next (asRequest tag .abandonSale s)

/-- REPRINT (R70). -/
def execReprint (tag : Byte) (s : State) : Host.Outcome State Fault Refusal :=
  .next (asRequest tag .reprint s)

/-- READ_SALE (R71). -/
def execReadSale (tag : Byte) (s : State) : Host.Outcome State Fault Refusal :=
  .next (asRequest tag .readSale s)

/-- READ_ENTRY (R72). -/
def execReadEntry (tag : Byte) (entry : Byte) (s : State) : Host.Outcome State Fault Refusal :=
  .next (asRequest tag (.readEntry entry) s)

/-- READ_TENDER (R73). -/
def execReadTender (tag : Byte) (position : Byte) (s : State) : Host.Outcome State Fault Refusal :=
  .next (asRequest tag (.readTender position) s)

/-- ATTENDANT_SWITCH (R52): the input has held a new level for 20 ms. -/
def execAttendantSwitch (on : Bool) (s : State) : Host.Outcome State Fault Refusal :=
  .next (asEvent (fun x => { x with attendant := on }) s)

end Sys2Proof.Machine
end

