-- ==== Sys2Proof/Machine/ScaleCommands.lean ====
section
/-! DEFINITION. The meanings of the commands of the weighing channels and the platter (chapters 1 and 2). -/

namespace Sys2Proof.Machine

/-- READ_WEIGHT (R26). -/
def execReadWeight (tag : Byte) (channel : Byte) (s : State) : Host.Outcome State Fault Refusal :=
  .next (asRequest tag (.readWeight channel) s)

/-- ZERO (R22). -/
def execZero (tag : Byte) (channel : Byte) (s : State) : Host.Outcome State Fault Refusal :=
  .next (asRequest tag (.zero channel) s)

/-- CAL_ZERO (R18, R19). -/
def execCalZero (calEnable : Bool) (tag : Byte) (channel : Byte) (s : State) : Host.Outcome State Fault Refusal :=
  .next (asCalibration calEnable tag (.calZero channel) s)

/-- CAL_SPAN (R18, R20). -/
def execCalSpan (calEnable : Bool) (tag : Byte) (channel : Byte) (load : Wide) (s : State) :
    Host.Outcome State Fault Refusal :=
  .next (asCalibration calEnable tag (.calSpan channel load) s)

/-- SET_PROFILE (R18, R21). -/
def execSetProfile (calEnable : Bool) (tag : Byte) (profile : Byte) (s : State) : Host.Outcome State Fault Refusal :=
  .next (asCalibration calEnable tag (.setProfile profile) s)

/-- SET_TARE (R32). -/
def execSetTare (tag : Byte) (weight : Wide) (s : State) : Host.Outcome State Fault Refusal :=
  .next (asRequest tag (.setTare weight) s)

/-- TAKE_TARE (R33). -/
def execTakeTare (tag : Byte) (s : State) : Host.Outcome State Fault Refusal :=
  .next (asRequest tag .takeTare s)

/-- CLEAR_TARE (R34). -/
def execClearTare (tag : Byte) (s : State) : Host.Outcome State Fault Refusal :=
  .next (asRequest tag .clearTare s)

/-- WEIGH_ITEM (R38). -/
def execWeighItem (tag : Byte) (description : List Byte) (unitPrice : Wide) (tare : Option Wide) (s : State) :
    Host.Outcome State Fault Refusal :=
  .next (asRequest tag (.weighItem description unitPrice tare) s)

/-- CANCEL_WEIGH (R45). -/
def execCancelWeigh (tag : Byte) (s : State) : Host.Outcome State Fault Refusal :=
  .next (asRequest tag .cancelWeigh s)

/-- SAMPLE_ARRIVAL (R3 to R5): a raw bridge sample. -/
def execSampleArrival (channel : ChannelId) (sample : Int) (s : State) : Host.Outcome State Fault Refusal :=
  .next (asEvent (sampleArrives channel sample) s)

/-- EXCITATION_LOST (R13). -/
def execExcitationLost (channel : ChannelId) (s : State) : Host.Outcome State Fault Refusal :=
  .next (asEvent (excitationLeaves channel) s)

/-- EXCITATION_RETURN (R14). -/
def execExcitationReturn (channel : ChannelId) (s : State) : Host.Outcome State Fault Refusal :=
  .next (asEvent (excitationReturns channel) s)

/-- WEIGH_TIMER_EXPIRY (R44). -/
def execWeighTimerExpiry (s : State) : Host.Outcome State Fault Refusal :=
  .next (asEvent weighTimerExpires s)

end Sys2Proof.Machine
end

