-- ==== Sys2Proof/Machine/StoreCommands.lean ====
section
/-! DEFINITION. The meanings of the commands of the Settings Store, start and power (chapter 11). -/

namespace Sys2Proof.Machine

/-- POWER_ON (R201): the part starts with the levels its inputs show. -/
def execPowerOn (levels : StartInputs) (s : State) : Host.Outcome State Fault Refusal :=
  .next (endEvent (applyPower levels s))

/-- SET (R198). -/
def execSet (tag : Byte) (id : Byte) (value : SettingArg) (s : State) : Host.Outcome State Fault Refusal :=
  .next (asRequest tag (.set id value) s)

/-- GET (R199). -/
def execGet (tag : Byte) (id : Byte) (s : State) : Host.Outcome State Fault Refusal :=
  .next (asRequest tag (.get id) s)

/-- SAVE_SETTINGS (R200). -/
def execSaveSettings (tag : Byte) (s : State) : Host.Outcome State Fault Refusal :=
  .next (asRequest tag .saveSettings s)

/-- RESTART (R202). -/
def execRestart (tag : Byte) (s : State) : Host.Outcome State Fault Refusal :=
  .next (asRequest tag .restart s)

/-- IDENTIFY (R203). -/
def execIdentify (tag : Byte) (s : State) : Host.Outcome State Fault Refusal :=
  .next (asRequest tag .identify s)

/-- POWER_LOSS (R200). -/
def execPowerLoss (s : State) : Host.Outcome State Fault Refusal :=
  .next (if s.powered then losePower s else s)

end Sys2Proof.Machine
end

