-- ==== Sys2Proof/Machine/Dispatch.lean ====
section
/-! DEFINITION. The dispatch of every command to its meaning, one arm per constructor. -/

namespace Sys2Proof.Machine

def exec (i : Instr) (s : State) : Host.Outcome State Fault Refusal :=
  match i with
  | .powerOn levels => Sys2Proof.Machine.execPowerOn levels s
  | .readWeight tag channel => Sys2Proof.Machine.execReadWeight tag channel s
  | .zero tag channel => Sys2Proof.Machine.execZero tag channel s
  | .calZero calEnable tag channel => Sys2Proof.Machine.execCalZero calEnable tag channel s
  | .calSpan calEnable tag channel load => Sys2Proof.Machine.execCalSpan calEnable tag channel load s
  | .setProfile calEnable tag profile => Sys2Proof.Machine.execSetProfile calEnable tag profile s
  | .setTare tag weight => Sys2Proof.Machine.execSetTare tag weight s
  | .takeTare tag => Sys2Proof.Machine.execTakeTare tag s
  | .clearTare tag => Sys2Proof.Machine.execClearTare tag s
  | .weighItem tag description unitPrice tare => Sys2Proof.Machine.execWeighItem tag description unitPrice tare s
  | .cancelWeigh tag => Sys2Proof.Machine.execCancelWeigh tag s
  | .openSale tag number => Sys2Proof.Machine.execOpenSale tag number s
  | .addItem tag description amount expected tolerance => Sys2Proof.Machine.execAddItem tag description amount expected tolerance s
  | .voidEntry tag entry => Sys2Proof.Machine.execVoidEntry tag entry s
  | .beginTender tag => Sys2Proof.Machine.execBeginTender tag s
  | .resumeSale tag => Sys2Proof.Machine.execResumeSale tag s
  | .addCash tag amount => Sys2Proof.Machine.execAddCash tag amount s
  | .addCardTender tag amount => Sys2Proof.Machine.execAddCardTender tag amount s
  | .cardDecision tag decision => Sys2Proof.Machine.execCardDecision tag decision s
  | .closeSale tag => Sys2Proof.Machine.execCloseSale tag s
  | .abandonSale tag => Sys2Proof.Machine.execAbandonSale tag s
  | .reprint tag => Sys2Proof.Machine.execReprint tag s
  | .readSale tag => Sys2Proof.Machine.execReadSale tag s
  | .readEntry tag entry => Sys2Proof.Machine.execReadEntry tag entry s
  | .readTender tag position => Sys2Proof.Machine.execReadTender tag position s
  | .clearException tag id => Sys2Proof.Machine.execClearException tag id s
  | .waiveBagging tag entry => Sys2Proof.Machine.execWaiveBagging tag entry s
  | .bagResync tag => Sys2Proof.Machine.execBagResync tag s
  | .readBagging tag first => Sys2Proof.Machine.execReadBagging tag first s
  | .releaseCard tag => Sys2Proof.Machine.execReleaseCard tag s
  | .discardCard tag => Sys2Proof.Machine.execDiscardCard tag s
  | .readCard tag => Sys2Proof.Machine.execReadCard tag s
  | .noSale tag => Sys2Proof.Machine.execNoSale tag s
  | .drawerReset tag => Sys2Proof.Machine.execDrawerReset tag s
  | .readDrawer tag => Sys2Proof.Machine.execReadDrawer tag s
  | .beep tag frequency onTime count => Sys2Proof.Machine.execBeep tag frequency onTime count s
  | .readSupply tag => Sys2Proof.Machine.execReadSupply tag s
  | .printText tag lines => Sys2Proof.Machine.execPrintText tag lines s
  | .printerClear tag => Sys2Proof.Machine.execPrinterClear tag s
  | .readPrintQueue tag => Sys2Proof.Machine.execReadPrintQueue tag s
  | .readPrinter tag => Sys2Proof.Machine.execReadPrinter tag s
  | .set tag id value => Sys2Proof.Machine.execSet tag id value s
  | .get tag id => Sys2Proof.Machine.execGet tag id s
  | .saveSettings tag => Sys2Proof.Machine.execSaveSettings tag s
  | .restart tag => Sys2Proof.Machine.execRestart tag s
  | .identify tag => Sys2Proof.Machine.execIdentify tag s
  | .unknownRequest kind tag body => Sys2Proof.Machine.execUnknownRequest kind tag body s
  | .sampleArrival channel sample => Sys2Proof.Machine.execSampleArrival channel sample s
  | .excitationLost channel => Sys2Proof.Machine.execExcitationLost channel s
  | .excitationReturn channel => Sys2Proof.Machine.execExcitationReturn channel s
  | .weighTimerExpiry => Sys2Proof.Machine.execWeighTimerExpiry s
  | .attendantSwitch on => Sys2Proof.Machine.execAttendantSwitch on s
  | .bagTimerExpiry entry => Sys2Proof.Machine.execBagTimerExpiry entry s
  | .graceTimerExpiry => Sys2Proof.Machine.execGraceTimerExpiry s
  | .swipeBegin head => Sys2Proof.Machine.execSwipeBegin head s
  | .swipeEnd => Sys2Proof.Machine.execSwipeEnd s
  | .holdTimerExpiry => Sys2Proof.Machine.execHoldTimerExpiry s
  | .senseChange isOpen => Sys2Proof.Machine.execSenseChange isOpen s
  | .pullInEnd => Sys2Proof.Machine.execPullInEnd s
  | .holdEnd => Sys2Proof.Machine.execHoldEnd s
  | .pwmPeriodBoundary => Sys2Proof.Machine.execPwmPeriodBoundary s
  | .coolEnd => Sys2Proof.Machine.execCoolEnd s
  | .alarmTimerExpiry => Sys2Proof.Machine.execAlarmTimerExpiry s
  | .toggleCounterExpiry => Sys2Proof.Machine.execToggleCounterExpiry s
  | .patternStepEnd => Sys2Proof.Machine.execPatternStepEnd s
  | .supplyLow => Sys2Proof.Machine.execSupplyLow s
  | .supplyRecovery => Sys2Proof.Machine.execSupplyRecovery s
  | .paperSensor out => Sys2Proof.Machine.execPaperSensor out s
  | .coverSensor isOpen => Sys2Proof.Machine.execCoverSensor isOpen s
  | .paperLowSensor low => Sys2Proof.Machine.execPaperLowSensor low s
  | .headTemperature reading => Sys2Proof.Machine.execHeadTemperature reading s
  | .phaseEnd => Sys2Proof.Machine.execPhaseEnd s
  | .stepEnd => Sys2Proof.Machine.execStepEnd s
  | .homeSensorReturn => Sys2Proof.Machine.execHomeSensorReturn s
  | .cutTimerExpiry => Sys2Proof.Machine.execCutTimerExpiry s
  | .receiveFrame bytes => Sys2Proof.Machine.execReceiveFrame bytes s
  | .frameGap => Sys2Proof.Machine.execFrameGap s
  | .lineBreak => Sys2Proof.Machine.execLineBreak s
  | .writeEnd => Sys2Proof.Machine.execWriteEnd s
  | .replySent => Sys2Proof.Machine.execReplySent s
  | .reportSent => Sys2Proof.Machine.execReportSent s
  | .lineSettingsChange => Sys2Proof.Machine.execLineSettingsChange s
  | .restartCarriedOut levels => Sys2Proof.Machine.execRestartCarriedOut levels s
  | .fluxTransition head elapsed => Sys2Proof.Machine.execFluxTransition head elapsed s
  | .characterReceived char => Sys2Proof.Machine.execCharacterReceived char s
  | .homeSensorAway => Sys2Proof.Machine.execHomeSensorAway s
  | .powerLoss => Sys2Proof.Machine.execPowerLoss s

end Sys2Proof.Machine
end

