-- ==== Sys2Proof/WellFormed.lean ====
section
/-! DEFINITION. Which terms of `Instr` stand for a command that can reach the part: what a frame can carry (R184) and
what an event can bring. -/

namespace Sys2Proof

open Sys2Proof.Machine

/-- A line record of a PRINT_TEXT frame: a text has one count byte, and the kinds 0, 1 and 2 are the known ones (R149,
R184, log 15). -/
def LineArg.wellFormed : LineArg → Bool
  | .text chars _ _ _ _ => decide (chars.length ≤ 255)
  | .feed _ => true
  | .cut => true
  | .unknown kind => decide (3 ≤ kind.toNat)

/-- The value of a SET has the form its id asks for (R197). -/
def settingFormFits (id : Byte) : SettingArg → Bool
  | .number _ => !isTextSetting id.toNat
  | .text chars => isTextSetting id.toNat && decide (chars.length ≤ 255)

/-- The fields of a request fit their forms (R184). -/
def Request.fieldsFit : Request → Bool
  | .weighItem d _ _ => decide (d.length ≤ 255)
  | .addItem d _ _ _ => decide (d.length ≤ 255)
  | .printText lines => decide (lines.length ≤ 255) && lines.all LineArg.wellFormed
  | .set id v => settingFormFits id v
  | _ => true

/-- A request that a frame can carry: its fields fit and its body holds at most 248 bytes (R184). -/
def Request.wellFormed (r : Request) : Bool := r.fieldsFit && decide ((requestBody r).length ≤ 248)

/-- The TAG and the request of a request command; none for the other commands (log 1). -/
def Instr.request? : Instr → Option (Byte × Request)
  | .readWeight t c => some (t, .readWeight c)
  | .zero t c => some (t, .zero c)
  | .calZero _ t c => some (t, .calZero c)
  | .calSpan _ t c l => some (t, .calSpan c l)
  | .setProfile _ t p => some (t, .setProfile p)
  | .setTare t w => some (t, .setTare w)
  | .takeTare t => some (t, .takeTare)
  | .clearTare t => some (t, .clearTare)
  | .weighItem t d u x => some (t, .weighItem d u x)
  | .cancelWeigh t => some (t, .cancelWeigh)
  | .openSale t n => some (t, .openSale n)
  | .addItem t d a e x => some (t, .addItem d a e x)
  | .voidEntry t n => some (t, .voidEntry n)
  | .beginTender t => some (t, .beginTender)
  | .resumeSale t => some (t, .resumeSale)
  | .addCash t a => some (t, .addCash a)
  | .addCardTender t a => some (t, .addCardTender a)
  | .cardDecision t d => some (t, .cardDecision d)
  | .closeSale t => some (t, .closeSale)
  | .abandonSale t => some (t, .abandonSale)
  | .reprint t => some (t, .reprint)
  | .readSale t => some (t, .readSale)
  | .readEntry t n => some (t, .readEntry n)
  | .readTender t p => some (t, .readTender p)
  | .clearException t n => some (t, .clearException n)
  | .waiveBagging t n => some (t, .waiveBagging n)
  | .bagResync t => some (t, .bagResync)
  | .readBagging t f => some (t, .readBagging f)
  | .releaseCard t => some (t, .releaseCard)
  | .discardCard t => some (t, .discardCard)
  | .readCard t => some (t, .readCard)
  | .noSale t => some (t, .noSale)
  | .drawerReset t => some (t, .drawerReset)
  | .readDrawer t => some (t, .readDrawer)
  | .beep t f o c => some (t, .beep f o c)
  | .readSupply t => some (t, .readSupply)
  | .printText t lines => some (t, .printText lines)
  | .printerClear t => some (t, .printerClear)
  | .readPrintQueue t => some (t, .readPrintQueue)
  | .readPrinter t => some (t, .readPrinter)
  | .set t n v => some (t, .set n v)
  | .get t n => some (t, .get n)
  | .saveSettings t => some (t, .saveSettings)
  | .restart t => some (t, .restart)
  | .identify t => some (t, .identify)
  | .powerOn _ | .unknownRequest _ _ _ | .sampleArrival _ _ | .excitationLost _ | .excitationReturn _
  | .weighTimerExpiry | .attendantSwitch _ | .bagTimerExpiry _ | .graceTimerExpiry | .swipeBegin _ | .swipeEnd
  | .holdTimerExpiry | .senseChange _ | .pullInEnd | .holdEnd | .pwmPeriodBoundary | .coolEnd | .alarmTimerExpiry
  | .toggleCounterExpiry | .patternStepEnd | .supplyLow | .supplyRecovery | .paperSensor _ | .coverSensor _
  | .paperLowSensor _ | .headTemperature _ | .phaseEnd | .stepEnd | .homeSensorReturn | .cutTimerExpiry
  | .receiveFrame _ | .frameGap | .lineBreak | .writeEnd | .replySent | .reportSent | .lineSettingsChange
  | .restartCarriedOut _ | .fluxTransition _ _ | .characterReceived _ | .homeSensorAway | .powerLoss => none

/-- The level of the calibration enable input that a calibration command brings (log 6). -/
def Instr.calLevel? (i : Instr) : Option Bool :=
  match i with
  | .calZero e _ _ => some e
  | .calSpan e _ _ _ => some e
  | .setProfile e _ _ => some e
  | _ => none

/-- The operands of an event command lie in what the lane can bring: a signed 24-bit sample (R3), an entry number of a
basket (R54), a KIND that names no request with a body that can be framed (R190), and at most the bytes of one frame
(R184). -/
def Instr.eventFits : Instr → Bool
  | .sampleArrival _ sample => decide (-8388608 ≤ sample ∧ sample ≤ 8388607)
  | .bagTimerExpiry entry => decide (1 ≤ entry ∧ entry ≤ 120)
  | .unknownRequest kind _ body => parseRequest kind body == .unknown && decide (body.length ≤ 248)
  | .receiveFrame bytes => decide (bytes.length ≤ 254)
  | _ => true

/-- A command that can reach the part. -/
def Instr.wellFormed (i : Instr) : Bool :=
  i.eventFits &&
    match i.request? with
    | some (_, r) => r.wellFormed
    | none => true

end Sys2Proof
end

