-- ==== Sys2Proof/Safety.lean ====
section
/-! DEFINITION. What holds of a sound part, in the terms the claims use: the laws of the manual as conditions on one
state, and the forms in which a command's effect on the link is stated. -/

namespace Sys2Proof.Machine

/-! ### The effect of a command on the link -/

/-- A request command is taken as it arrives: the part is powered, dispatch is open and no frame waits (R190). -/
abbrev State.accepts (s : State) : Prop := s.powered = true ∧ s.link.dispatchOpen = true ∧ s.link.slots = []

/-- The transmitter once a reply stands in the reply slot: an idle one begins it (R194). -/
def Transmitter.withReply : Transmitter → Transmitter
  | .idle => .sendingReply
  | .sendingReply => .sendingReply
  | .sendingReport r => .sendingReport r

/-- The link after a request of this kind has been answered (R190, R194). -/
def Link.answered (kind tag : Byte) (status : Status) (fields : ReplyFields) (l : Link) : Link :=
  { l with
    reply := some { kind := kind + 0x80, tag := tag, status := status, fields := fields }
    transmitter := l.transmitter.withReply }

/-- The link after a request has been refused with a status alone (R190, R192). -/
def Link.refused (kind tag : Byte) (status : Status) (l : Link) : Link := l.answered kind tag status .empty

/-- The part after a request has been answered and nothing but the link has changed (R190, R192). -/
def State.replies (kind tag : Byte) (status : Status) (fields : ReplyFields) (s : State) : State :=
  { s with link := s.link.answered kind tag status fields }

/-- The link after a deferred request has started its store write; an idle transmitter goes on with its reports
(R191). -/
def Link.deferred (kind tag : Byte) (l : Link) : Link := ({ l with dispatch := .writing kind tag } : Link).choose

/-- A READY channel has been held at one raw value: its filter ring is full of that value and its stability ring full of
the fine gross the value gives, which lies in the READY range. The next sample of the value then forms a stable output
(R4 to R9, R12). -/
abbrev State.steady (ch : ChannelId) (value fine : Int) (s : State) : Prop :=
  let c := s.channel ch
  c.converterOn = true ∧ c.settling = 0 ∧ c.condition = .ready ∧ c.record.valid ch = true ∧
    fineGrossOf ch c.record c.zeroRef value = some fine ∧ rangeCondition ch c.record .no fine = .ready ∧
    value ≠ 8388607 ∧ value ≠ -8388608 ∧ 0 < filterLen s.store.live ch ∧ 0 < stableLen s.store.live ch ∧
    c.filterRing = List.replicate (filterLen s.store.live ch) value ∧
    c.filterSum = Int.ofNat (filterLen s.store.live ch) * value ∧
    c.stabilityRing = List.replicate (stableLen s.store.live ch) fine

/-- The channel after the output that a steady value forms. -/
def Channel.steadied (ch : ChannelId) (value fine : Int) (c : Channel) : Channel :=
  { c with
    latest := some { filtered := value, fineGross := some fine, saturated := .no, stable := true }
    trackingCount :=
      match ch with
      | .platter => min 32 (c.trackingCount + 1)
      | .bag => c.trackingCount }

/-- The 24 V supply with nothing waiting, in SUPPLY_OK, and with no pending budget (section 7.1): a release then grants
nothing to anyone else. -/
abbrev State.quietSupply (s : State) : Prop :=
  s.supply.waiting = { drawer := none, cutter := none, motor := none, head := none } ∧ s.supply.low = false ∧
    s.store.live.supplyBudget = s.supply.budget

/-! ### A track as its stripe holds it (R103 to R105) -/

/-- The data bits of a character of `width` bits, least significant first (R103). -/
def dataBits (width v : Nat) : List Bool := (List.range (width - 1)).map v.testBit

/-- The parity bit that makes the count of 1s odd (R103). -/
def parityBit (data : List Bool) : Bool := decide (data.count true % 2 = 0)

/-- A character as the stripe holds it: its data bits and its parity bit (R103). -/
def charBits (width v : Nat) : List Bool := dataBits width v ++ [parityBit (dataBits width v)]

/-- Zeros, the start sentinel, the characters read so far and the bits still to be read. -/
def stripe (width start zeros : Nat) (chars : List Nat) (left : List Bool) : List Bool :=
  List.replicate zeros false ++ charBits width start ++ (chars.map (charBits width)).flatten ++ left

/-- Data values that fill a character and are no end sentinel. -/
def ordinary (width finish : Nat) (chars : List Nat) : Prop := ∀ v ∈ chars, v < 2 ^ (width - 1) ∧ v ≠ finish

/-- The exclusive-or of the data from the start sentinel to the end sentinel (R104). -/
def lrcOf (start finish : Nat) (chars : List Nat) : Nat := chars.foldl (fun x v => x ^^^ v) start ^^^ finish

/-- What a parse pass over a bit sequence gives, one constructor for each way it ends (R104): the outcome, and for GOOD
the characters between the sentinels. It is stated over the bits as the stripe holds them, so that no function of the
reader stands in it. -/
inductive StripePass (width start finish longest : Nat) : List Bool → TrackStatus → List Nat → Prop
  | blank (n : Nat) : StripePass width start finish longest (List.replicate n false) .noStart []
  | short (n : Nat) (left : List Bool) : left.length + 1 < width →
      StripePass width start finish longest (List.replicate n false ++ true :: left) .noStart []
  | otherStart (n : Nat) (left : List Bool) : width ≤ left.length + 1 →
      (true :: left).take (width - 1) ≠ dataBits width start →
      StripePass width start finish longest (List.replicate n false ++ true :: left) .noStart []
  | startParity (n : Nat) (left : List Bool) :
      StripePass width start finish longest
        (List.replicate n false ++ dataBits width start ++ (!parityBit (dataBits width start)) :: left) .parity []
  | parity (n : Nat) (chars : List Nat) (data left : List Bool) : ordinary width finish chars →
      chars.length + 2 ≤ longest → data.length + 1 = width →
      StripePass width start finish longest
        (stripe width start n chars (data ++ (!parityBit data) :: left)) .parity []
  | noEnd (n : Nat) (chars : List Nat) (left : List Bool) : ordinary width finish chars →
      chars.length + 2 ≤ longest → left.length < width →
      StripePass width start finish longest (stripe width start n chars left) .noEnd []
  | tooLong (n : Nat) (chars : List Nat) (left : List Bool) : ordinary width finish chars →
      chars.length + 1 = longest →
      StripePass width start finish longest (stripe width start n chars left) .tooLong []
  | noLrc (n : Nat) (chars : List Nat) (left : List Bool) : ordinary width finish chars →
      chars.length + 2 ≤ longest → left.length < width →
      StripePass width start finish longest (stripe width start n chars (charBits width finish ++ left)) .noEnd []
  | lrc (n : Nat) (chars : List Nat) (c left : List Bool) : ordinary width finish chars →
      chars.length + 2 ≤ longest → c.length = width → c ≠ charBits width (lrcOf start finish chars) →
      StripePass width start finish longest (stripe width start n chars (charBits width finish ++ c ++ left)) .lrc []
  | good (n : Nat) (chars : List Nat) (left : List Bool) : ordinary width finish chars → chars.length + 2 ≤ longest →
      StripePass width start finish longest
        (stripe width start n chars (charBits width finish ++ charBits width (lrcOf start finish chars) ++ left))
        .good chars

/-- The passes of one track by its format (R103). -/
def stripePasses : HeadId → List Bool → TrackStatus → List Nat → Prop
  | .numeric => StripePass 5 11 15 40
  | .alpha => StripePass 7 5 31 79

/-! ### Laws of the manual on one state -/

/-- At most 24 reports wait and at most two frames (R189, R193). -/
abbrev State.queuesBounded (s : State) : Prop := s.link.reports.length ≤ 24 ∧ s.link.slots.length ≤ 2

/-- The units granted never exceed the budget in force (R139, section 7.1). -/
abbrev State.budgetKept (s : State) : Prop := s.supply.granted.total ≤ s.supply.budget

/-- The records the part holds: the open one and the one in the closed slot. -/
def State.records (s : State) : List SaleRecord :=
  s.sale.current.record?.toList ++ (s.sale.closed.map ClosedSale.record).toList

/-- The law of the total (R55). -/
abbrev State.totalsAgree (s : State) : Prop := ∀ r ∈ s.records, r.total = sumOf (r.basket.map Entry.amount)

/-- Entry numbers run from 1 without gaps, and the basket holds at most 120 entries (R54). -/
abbrev State.basketsNumbered (s : State) : Prop :=
  ∀ r ∈ s.records, r.basket.map Entry.number = (List.range r.basket.length).map (· + 1) ∧ r.basket.length ≤ 120

/-- The sum of the CARD tenders (R62). -/
def SaleRecord.cardSum (r : SaleRecord) : Int := sumOf ((r.tenders.filter fun t => t.kind == .card).map Tender.amount)

/-- The sum of the CASH tenders (R62). -/
def SaleRecord.cashSum (r : SaleRecord) : Int := sumOf ((r.tenders.filter fun t => t.kind == .cash).map Tender.amount)

/-- The record of an OPEN sale. -/
def State.openRecord (s : State) : List SaleRecord :=
  match s.sale.current with
  | .opened r => [r]
  | _ => []

/-- The record of a sale in TENDER. -/
def State.tenderRecord (s : State) : List SaleRecord :=
  match s.sale.current with
  | .tender r => [r]
  | _ => []

/-- The law of tenders (R60 to R65): no tender in OPEN; in TENDER a total of 0 or more, at most 8 tenders of amounts
above 0, at most one PENDING and that one a CARD, and CARD tenders within the total. -/
abbrev State.tendersLawful (s : State) : Prop :=
  (∀ r ∈ s.openRecord, r.tenders = []) ∧
  ∀ r ∈ s.tenderRecord,
    0 ≤ r.total ∧ r.tenders.length ≤ 8 ∧ (∀ t ∈ r.tenders, 1 ≤ t.amount ∧ (t.state = .pending → t.kind = .card)) ∧
      countWhere (fun t => t.state == .pending) r.tenders ≤ 1 ∧ r.cardSum ≤ r.total

/-- What a closed sale satisfies: its change is the sum of tenders less the total, 0 or more, and at most the cash taken,
and no card is PENDING (R67). -/
abbrev State.closeSound (s : State) : Prop :=
  ∀ c ∈ s.sale.closed.toList,
    c.changeDue = c.record.tendered - c.record.total ∧ 0 ≤ c.changeDue ∧ c.changeDue ≤ c.record.cashSum ∧
      c.record.cardPending = false

/-- The open sale has a PENDING card tender. -/
def State.cardPending (s : State) : Bool := s.sale.current.record?.any SaleRecord.cardPending

/-- The slot is bound to a tender: ATTACHED or RELEASED (R115). -/
def CardSlot.bound : CardSlot → Bool
  | .attached .. => true
  | .released .. => true
  | _ => false

/-- The slot is bound exactly while a card tender is PENDING, which is only in TENDER (R62, R113). -/
abbrev State.slotBound (s : State) : Prop :=
  s.reader.slot.bound = s.cardPending ∧ (s.cardPending = true → s.sale.current.state = .tender)

/-- At most eight exceptions, and the bagging alert is held exactly while one is held or the monitor is SUSPENDED (R86,
R88). -/
abbrev State.alertFollows (s : State) : Prop :=
  s.monitor.exceptions.length ≤ 8 ∧ s.tone.bagAlertHeld = s.monitor.alerting

/-- The drawer alarm is held exactly in OPEN_ALARM (R128). -/
abbrev State.alarmFollows (s : State) : Prop := s.tone.drawerAlarmHeld = (s.drawer.state == .openAlarm)

/-- A channel is stopped exactly in FAULT, and its running sum is the sum of its ring (R3, R5, R13, R14). -/
abbrev Channel.sound (c : Channel) : Prop :=
  (c.converterOn = false ↔ c.condition = .fault) ∧ c.filterSum = sumOf c.filterRing

/-- Both channels are sound. -/
abbrev State.channelsSound (s : State) : Prop := s.platter.sound ∧ s.bag.sound

/-- The job list holds at most four jobs, at most three of them TEXT and COPY, and an ORIGINAL exactly while the closed
slot is RECEIPT_PENDING (R69, R146 to R148). -/
abbrev State.jobsLawful (s : State) : Prop :=
  s.queue.textAndCopy ≤ 3 ∧
    countWhere (fun j => j.kind == .original) s.queue.jobs =
      (if (s.sale.closed.map ClosedSale.receipt) = some .pending then 1 else 0)

/-- The printer is in FAULT exactly while the cutter is JAMMED, the cutter's request waits exactly while it is WAITING,
and no row is in progress while the cutter is not at REST (R165, R177 to R179). -/
abbrev State.engineSound (s : State) : Prop :=
  (s.engine.condition = .fault ↔ s.engine.cutter = .jammed) ∧
    (s.supply.waiting.cutter.isSome = true ↔ s.engine.cutter = .waiting) ∧
    (s.engine.cutter ≠ .rest → s.engine.row = none)

/-- The drawer holds 14 units in PULL_IN, 5 in HOLD and none otherwise, and asks for 14 exactly in WAIT_SUPPLY (R123 to
R126). -/
abbrev State.drawerUnits (s : State) : Prop :=
  s.supply.granted.drawer = (if s.drawer.state = .pullIn then 14 else if s.drawer.state = .hold then 5 else 0) ∧
    s.supply.waiting.drawer = (if s.drawer.state = .waitSupply then some 14 else none)

end Sys2Proof.Machine
end

