-- ==== Sys2Proof/Certificates/Slice0/Obligations.lean ====
section
/-! DEFINITION. The statements for the provers. Each docstring names the rules it formalises. A statement whose
conclusion is an equation `exec … = .next …` is also the completion statement and the frame of its command: what the
record update does not name is unchanged. -/

open Sys2Proof Sys2Proof.Machine

/-! ### The step, the start and the idle millisecond -/

/-- A step takes the command at the front of the queue with the queue's rest in place. -/
def Obligations.StepTakesFront : Prop :=
  ∀ (c : Instr) (rest : List Instr) (s : State),
    step { s with pending := c :: rest } = exec c { s with pending := rest }

/-- On an empty queue one millisecond passes on the part's time base (the model's choice, log 2; the capture timers'
microseconds, log 16): the weigh timer, the bag, grace, hold, drawer, alarm, cut and frame gap timers, the swipe gap timer
in SWIPE and the tone pattern's position count down by one, a capture timer rises by 1,000 up to 65,535, and nothing else
moves. While the part has no power no time passes on it (log 5). -/
def Obligations.IdleStepIsOneMillisecond : Prop :=
  ∀ s : State, s.pending = [] →
    let less : Option Nat → Option Nat := fun t => t.map fun n => n - 1
    let later : Track → Track := fun x => { x with timer := min 65535 (x.timer + 1000) }
    (s.powered = true → step s = .next { s with
      now := s.now + 1
      scale := { s.scale with weigh := s.scale.weigh.map fun w => { w with timer := w.timer - 1 } }
      monitor := { s.monitor with
        expectations := s.monitor.expectations.map fun x => { x with timer := less x.timer }
        unclaimed := s.monitor.unclaimed.map fun u => { u with grace := u.grace - 1 } }
      reader := { s.reader with
        gapTimer := if s.reader.gap = .swipe then s.reader.gapTimer - 1 else s.reader.gapTimer
        alpha := later s.reader.alpha
        numeric := later s.reader.numeric
        slot := match s.reader.slot with
          | .empty => .empty
          | .held d m t => .held d m (t - 1)
          | .attached d m => .attached d m
          | .released x m => .released x m }
      drawer := { s.drawer with phaseTimer := less s.drawer.phaseTimer, alarmTimer := less s.drawer.alarmTimer }
      tone := { s.tone with position := s.tone.position.map fun p => { p with remaining := p.remaining - 1 } }
      engine := { s.engine with cutTimer := less s.engine.cutTimer }
      link := { s.link with gapTimer := less s.link.gapTimer } }) ∧
    (s.powered = false → step s = .next s)

/-- The values that the manual gives for power-on, in the state after reset (R2, R31, R37, R50, R52, R74, R98, R113,
R133, R146, R165, R196). What the manual does not give is not stated here. -/
def Obligations.ResetHoldsStartValues : Prop :=
  let s := State.reset
  (∀ ch : ChannelId, (s.channel ch).settling = 2 ∧ (s.channel ch).filterRing = [] ∧
    (s.channel ch).stabilityRing = [] ∧ (s.channel ch).latest = none ∧ (s.channel ch).powerUpZero = none ∧
    (s.channel ch).trackingCount = 0) ∧
  s.settledS = none ∧
  (s.scale.tareT = 0 ∧ s.scale.occupancy = .empty ∧ s.scale.weigh = none) ∧
  (s.sale.current = .idle ∧ s.sale.closed = none ∧ s.attendant = false) ∧
  (s.monitor.expectations = [] ∧ s.monitor.exceptions = [] ∧ s.monitor.unclaimed = none ∧
    s.monitor.suspended = false ∧ s.monitor.nextExceptionId = 1 ∧ s.tone.bagAlertHeld = false) ∧
  (s.reader.gap = .swipe ∧ s.reader.decoded = false ∧ s.reader.gapTimer = 20 ∧ s.reader.alpha.bits = [] ∧
    s.reader.numeric.bits = [] ∧ s.reader.slot = .empty) ∧
  (s.tone.owner = .none ∧ s.tone.sounding = false ∧ s.tone.halfPeriod = 250 ∧ s.tone.pendingHalf = none) ∧
  (s.queue.jobs = [] ∧ s.queue.nextJobId = 1) ∧
  (s.engine.condition = .idle ∧ s.engine.line = none ∧ s.engine.row = none ∧ s.engine.memory = 0 ∧
    s.engine.speedIndex = 0 ∧ s.engine.periodInForce = 2500 ∧ s.engine.pendingPeriod = 2500 ∧
    s.engine.cutter = .rest ∧ s.engine.cutTimer = none ∧ s.engine.clearTaken = false) ∧
  (s.link.slots = [] ∧ s.link.reply = none ∧ s.link.dispatch = .free ∧ s.link.lost = false ∧
    s.link.receiver.phase = .hunt ∧ s.link.gapTimer = none ∧ s.link.pendingLine = none)

/-- Every law of the manual that is stated below as an invariant holds at reset. -/
def Obligations.LawsHoldAtReset : Prop :=
  State.reset.queuesBounded ∧ State.reset.budgetKept ∧ State.reset.totalsAgree ∧ State.reset.basketsNumbered ∧
    State.reset.tendersLawful ∧ State.reset.closeSound ∧ State.reset.slotBound ∧ State.reset.alertFollows ∧
    State.reset.alarmFollows ∧ State.reset.channelsSound ∧ State.reset.jobsLawful ∧ State.reset.engineSound ∧
    State.reset.drawerUnits

/-- POWER_ON with a store whose copies pass their checks (R2, R31, R37, R50, R52, R74, R98, R113, R120, R121, R133, R137,
R146, R165, R182, R196, R201): the live settings and records are those stored, each channel starts by its record and its
excitation, the drawer by its sense, the supply by its level, the printer by its sensors, every other block at its start
values, and RESTARTED alone is reported. That the levels come with the command is the model's form (log 7). -/
def Obligations.PowerOnLoadsStore : Prop :=
  ∀ (s : State) (x : StartInputs) (v : Settings) (p b : CalRecord),
    s.store.write = none → s.store.image = .written v v.checkByte → s.store.platterCopy = .written p p.checkByte →
    s.store.bagCopy = .written b b.checkByte →
    let starts : ChannelId → CalRecord → Bool → Channel → Prop := fun ch r excited c =>
      c.condition = (if excited then if r.valid ch then .starting else .uncalibrated else .fault) ∧
      c.converterOn = excited ∧ c.settling = 2 ∧ c.filterRing = [] ∧ c.stabilityRing = [] ∧ c.latest = none ∧
      c.zeroRef = r.calZero ∧ c.powerUpZero = none ∧ c.trackingCount = 0 ∧ c.record = r
    ∃ t, exec (.powerOn x) s = .next t ∧ t.powered = true ∧ t.pending = s.pending ∧ t.store.live = v ∧
      t.store.image = s.store.image ∧ starts .platter p x.platterExcitation t.platter ∧
      starts .bag b x.bagExcitation t.bag ∧ t.settledS = none ∧
      t.link.line = { rate := v.linkRate, parity := v.linkParity } ∧ t.link.reports = [] ∧ t.link.slots = [] ∧
      t.link.dispatch = .free ∧ t.link.reply = none ∧ t.link.lost = false ∧ t.link.pendingLine = none ∧
      t.link.receiver.phase = .hunt ∧ t.link.gapTimer = none ∧
      t.link.transmitter = .sendingReport
        { lostBefore := false
          report := .restarted .powerOn true true (p.valid .platter) true (b.valid .bag) } ∧
      t.sale.current = .idle ∧ t.sale.closed = none ∧ t.attendant = false ∧
      t.scale = { tareT := 0, occupancy := .empty, weigh := none } ∧
      (t.monitor.expectations = [] ∧ t.monitor.exceptions = [] ∧ t.monitor.unclaimed = none ∧
        t.monitor.suspended = false ∧ t.monitor.nextExceptionId = 1) ∧
      (t.reader.gap = .swipe ∧ t.reader.decoded = false ∧ t.reader.gapTimer = 20 ∧
        t.reader.alpha.decoder = .seeking [] ∧ t.reader.alpha.bits = [] ∧ t.reader.numeric.decoder = .seeking [] ∧
        t.reader.numeric.bits = [] ∧ t.reader.slot = .empty) ∧
      (t.tone.owner = .none ∧ t.tone.drawerAlarmHeld = false ∧ t.tone.bagAlertHeld = false ∧
        t.tone.position = none ∧ t.tone.beep = none ∧ t.tone.sounding = false ∧ t.tone.halfPeriod = 250 ∧
        t.tone.pendingHalf = none) ∧
      t.supply =
        { budget := v.supplyBudget
          low := x.supplyBelow20
          granted := { drawer := 0, cutter := 0, motor := 0, head := 0 }
          waiting := { drawer := none, cutter := none, motor := none, head := none } } ∧
      t.queue = { jobs := [], nextJobId := 1 } ∧
      (t.engine.condition = .idle ∧
        t.engine.causes =
          { paperOut := x.paperOut, coverOpen := x.coverOpen, headHot := decide (65 ≤ x.headTemp)
            supplyLow := x.supplyBelow20 } ∧
        t.engine.paperLow = x.paperLow ∧ t.engine.line = none ∧ t.engine.row = none ∧ t.engine.phase = none ∧
        t.engine.stepRunning = none ∧ t.engine.memory = 0 ∧ t.engine.band = bandOf x.headTemp ∧
        t.engine.speedIndex = 0 ∧ t.engine.periodInForce = 2500 ∧ t.engine.pendingPeriod = 2500 ∧
        t.engine.cutter = .rest ∧ t.engine.cutTimer = none ∧ t.engine.clearTaken = false) ∧
      t.drawer =
        { state := if x.drawerOpen = true ∧ v.drawerSensePresent = true then .opened else .closed
          senseOpen := x.drawerOpen
          attempts := 0
          phaseTimer := none
          alarmTimer :=
            if x.drawerOpen = true ∧ v.drawerSensePresent = true ∧ v.drawerAlarmS ≠ 0 then
              some (v.drawerAlarmS * 1000)
            else none
          dutyInForce := v.drawerHoldDuty
          pendingDuty := v.drawerHoldDuty
          kickSource := none }

/-- A start whose settings image does not pass its check, by POWER_ON or by the restart due (R201, R202): the defaults
are live, the image is left as it is, and SETTINGS_STATE follows RESTARTED. -/
def Obligations.StartWithFailingImage : Prop :=
  ∀ (s : State) (x : StartInputs), s.store.write = none →
    (∀ v c, s.store.image = .written v c → v.checkByte ≠ c) →
    (∃ t, exec (.powerOn x) s = .next t ∧ t.store.live = Settings.defaults ∧ t.store.image = s.store.image ∧
      t.link.line = { rate := 38400, parity := .none } ∧
      (∃ pc pv bc bv, t.link.transmitter =
        .sendingReport { lostBefore := false, report := .restarted .powerOn false pc pv bc bv }) ∧
      t.link.reports = [{ lostBefore := false, report := .settingsState }]) ∧
    (s.powered = true → s.link.restart = .due →
      ∃ t, exec (.restartCarriedOut x) s = .next t ∧ t.store.live = Settings.defaults ∧
        t.store.image = s.store.image ∧ t.link.restart = .none ∧ t.sale.current = .idle ∧ t.sale.closed = none ∧
        t.reader.slot = .empty ∧ t.supply.granted.total = 0 ∧ t.link.line = { rate := 38400, parity := .none } ∧
        (∃ pc pv bc bv, t.link.transmitter =
          .sendingReport { lostBefore := false, report := .restarted .request false pc pv bc bv }) ∧
        t.link.reports = [{ lostBefore := false, report := .settingsState }])

/-- POWER_LOSS during a store write cuts it off (R17, R200, R201): the copy being written fails its check from then on,
and the other copies are kept. With no write in progress every copy is kept. -/
def Obligations.PowerLossCutsWrite : Prop :=
  ∀ s : State, s.powered = true →
    ∃ t, exec .powerLoss s = .next t ∧ t.powered = false ∧ t.store.write = none ∧
      (s.store.write = none → t.store = s.store) ∧
      (∀ v, s.store.write = some (.image v) →
        t.store.image.passing Settings.checkByte = none ∧ t.store.platterCopy = s.store.platterCopy ∧
          t.store.bagCopy = s.store.bagCopy) ∧
      (∀ r, s.store.write = some (.record .platter r) →
        t.store.platterCopy.passing CalRecord.checkByte = none ∧ t.store.image = s.store.image ∧
          t.store.bagCopy = s.store.bagCopy) ∧
      (∀ r, s.store.write = some (.record .bag r) →
        t.store.bagCopy.passing CalRecord.checkByte = none ∧ t.store.image = s.store.image ∧
          t.store.platterCopy = s.store.platterCopy)

/-! ### Whole-machine laws: invariants every step keeps -/

/-- At most 24 reports and two frames wait (R189, R193), and the grants never exceed the budget in force (R139, R142,
section 7.1). -/
def Obligations.StepKeepsBounds : Prop :=
  ∀ s t : State, s.queuesBounded → s.budgetKept → step s = .next t → t.queuesBounded ∧ t.budgetKept

/-- The law of the total, open and closed, and the numbering of the basket (R54, R55). -/
def Obligations.StepKeepsTotals : Prop :=
  ∀ s t : State, s.totalsAgree → s.basketsNumbered → step s = .next t → t.totalsAgree ∧ t.basketsNumbered

/-- The law of tenders, and what a closed sale satisfies (R62, R67): the change due is never more than the cash. -/
def Obligations.StepKeepsTenders : Prop :=
  ∀ s t : State, s.tendersLawful → s.closeSound → step s = .next t → t.tendersLawful ∧ t.closeSound

/-- The card slot is bound exactly while a card tender is PENDING (R64, R65, R113, R115, R117). -/
def Obligations.StepKeepsSlotBound : Prop :=
  ∀ s t : State, s.slotBound → step s = .next t → t.slotBound

/-- The alert is held exactly while an exception is held or the monitor is SUSPENDED, and the drawer alarm exactly in
OPEN_ALARM (R86 to R88, R128). The drawer's units (R123 to R126) are a premise: they rule out an OPEN_ALARM drawer whose
request for units waits. -/
def Obligations.StepKeepsHeldTones : Prop :=
  ∀ s t : State, s.drawerUnits → s.alertFollows → s.alarmFollows → step s = .next t → t.alertFollows ∧ t.alarmFollows

/-- A converter is stopped exactly in FAULT, and a filter sum is the sum of its ring (R3, R5, R13, R14). -/
def Obligations.StepKeepsChannelsSound : Prop :=
  ∀ s t : State, s.channelsSound → step s = .next t → t.channelsSound

/-- At most three TEXT and COPY jobs, and one ORIGINAL exactly while the closed slot is RECEIPT_PENDING (R69, R148). -/
def Obligations.StepKeepsJobs : Prop :=
  ∀ s t : State, s.jobsLawful → step s = .next t → t.jobsLawful

/-- FAULT exactly while the cutter is JAMMED, and the drawer's units follow its state (R123 to R126, R177 to R179). -/
def Obligations.StepKeepsEngineAndDrawer : Prop :=
  ∀ s t : State, s.engineSound → s.drawerUnits → step s = .next t → t.engineSound ∧ t.drawerUnits

/-- The law of the platter (R36): a LOCKED platter is left only by a stable platter output at or below the empty
threshold, which makes it EMPTY, and by a start. -/
def Obligations.LockedPlatterLaw : Prop :=
  ∀ (c : Instr) (s t : State), exec c s = .next t → s.scale.occupancy = .locked → t.scale.occupancy ≠ .locked →
    (∃ x, c = .powerOn x) ∨ (∃ x, c = .restartCarriedOut x) ∨
    (∃ x, c = .sampleArrival .platter x ∧ t.scale.occupancy = .empty ∧
      ∃ o, t.platter.latest = some o ∧ o.stable = true ∧
        o.fineGross.getD 0 ≤ t.platter.record.profileInForce.emptyThreshold)

/-- The law of card data (R112, R116): a reply that carries track data is formed only from an ATTACHED slot, which it
leaves RELEASED. -/
def Obligations.CardDataLeavesOnce : Prop :=
  ∀ (c : Instr) (s t : State) (r : Reply) (d : CardData) (m : MaskedAccount),
    exec c s = .next t → t.link.reply = some r → r.fields = .cardRelease d m → s.link.reply ≠ some r →
    s.reader.slot = .attached d m ∧ t.reader.slot = .released d.source m

/-- What a refusal leaves (R190, R192): every status but OK and ADJUSTED carries no field and changes nothing. -/
def Obligations.RefusalChangesNothing : Prop :=
  ∀ (r : Request) (s t : State) (st : Status) (f : ReplyFields),
    handleRequest r s = (t, .reply st f) → st ≠ .ok → st ≠ .adjusted → t = s ∧ f = .empty

/-- What moves only by its own events: the attendant switch state by ATTENDANT_SWITCH and by a start (R52); the stored
copies by WRITE_END and by a loss of power (R18, R191, R200, R201). -/
def Obligations.MovedByTheirEventsOnly : Prop :=
  ∀ (c : Instr) (s t : State), exec c s = .next t →
    (t.attendant ≠ s.attendant →
      c = .attendantSwitch t.attendant ∨ (∃ x, c = .powerOn x) ∨ ∃ x, c = .restartCarriedOut x) ∧
    ((t.store.image ≠ s.store.image ∨ t.store.platterCopy ≠ s.store.platterCopy ∨
        t.store.bagCopy ≠ s.store.bagCopy) →
      c = .writeEnd ∨ c = .powerLoss ∨ ∃ x, c = .powerOn x)

/-- One channel never moves the other (chapter 1): a sample, a loss or a return of excitation on a channel leaves the
other channel as it was. -/
def Obligations.ChannelsAreIndependent : Prop :=
  ∀ (s t : State) (x : Int),
    (exec (.sampleArrival .platter x) s = .next t → t.bag = s.bag ∧ t.settledS = s.settledS) ∧
    (exec (.sampleArrival .bag x) s = .next t → t.platter = s.platter ∧ t.scale = s.scale) ∧
    (exec (.excitationLost .platter) s = .next t → t.bag = s.bag ∧ t.settledS = s.settledS) ∧
    (exec (.excitationLost .bag) s = .next t → t.platter = s.platter ∧ t.scale = s.scale) ∧
    (exec (.excitationReturn .platter) s = .next t → t.bag = s.bag ∧ t.settledS = s.settledS) ∧
    (exec (.excitationReturn .bag) s = .next t → t.platter = s.platter ∧ t.scale = s.scale)

/-! ### The link -/

/-- Frames lose nothing (R184, R190): the KIND and BODY of a well-formed request are read back as that request. -/
def Obligations.RequestFrameRoundTrip : Prop :=
  ∀ r : Request, r.wellFormed = true → parseRequest (requestKind r) (requestBody r) = .request r

/-- The bytes of a request frame, received one by one in HUNT, do what the request command does (R184, R185, R189,
R190): the frame is checked, takes a slot and is dispatched at once. That a request command is the arrival of its frame,
that RECEIVE_FRAME is a list of good bytes, and that a calibration command brings the level of the enable input are the
model's choices (logs 1, 29 and 6). A calibration command is compared at the level that the inputs hold. -/
def Obligations.ReceivedFrameIsTheRequest : Prop :=
  ∀ (i : Instr) (tag : Byte) (r : Request) (s : State), i.request? = some (tag, r) → r.wellFormed = true →
    s.accepts → s.link.receiver = Receiver.hunting → s.link.gapTimer = none → s.link.choose = s.link →
    (∀ e ∈ i.calLevel?, e = s.inputs.calEnable) →
    exec (.receiveFrame (requestFrame tag r).bytes) s = .next (asRequest tag r s) ∧
      exec i s = .next (asRequest tag r s)

/-- A request that comes while dispatch is not open waits in a receive slot, and with both slots full is lost with one
LINK_ERROR RX_OVERRUN that carries its KIND and TAG (R189, R190, R191). It holds of every request command, which is the
arrival of its frame (log 1); the calibration level that a calibration command brings is the one held (log 6). -/
def Obligations.RequestWaitsOrIsLost : Prop :=
  ∀ (i : Instr) (tag : Byte) (r : Request) (s : State), i.request? = some (tag, r) → s.powered = true →
    s.link.dispatchOpen = false → s.link.choose = s.link → (∀ e ∈ i.calLevel?, e = s.inputs.calEnable) →
    (s.link.slots.length < 2 →
      exec i s = .next { s with link := { s.link with
        slots := s.link.slots ++ [{ kind := requestKind r, tag := tag, body := requestBody r }] } }) ∧
    (s.link.slots.length = 2 →
      exec i s = .next { s with link :=
        (s.link.push (.linkError .rxOverrun (some (requestKind r)) (some tag))).choose })

/-- An unknown KIND is answered UNKNOWN_REQUEST, with KIND + 0x80 for a kind of 0x01..0x3F and 0x80 otherwise, and a
body that does not fit its KIND is answered BAD_LENGTH; neither changes anything else (R190). -/
def Obligations.UnknownAndMisfitFramesAnswered : Prop :=
  ∀ (s : State) (kind tag : Byte) (body : List Byte), s.accepts →
    (parseRequest kind body = .unknown →
      exec (.unknownRequest kind tag body) s =
        .next { s with link := { s.link with
          reply := some
            { kind := if 1 ≤ kind.toNat ∧ kind.toNat ≤ 0x3F then kind + 0x80 else 0x80
              tag := tag, status := .unknownRequest, fields := .empty }
          transmitter := s.link.transmitter.withReply } }) ∧
    (parseRequest kind body = .badLength →
      exec (.unknownRequest kind tag body) s = .next { s with link := s.link.refused kind tag .badLength })

/-- A sent byte is a low start bit, its bits least significant first, the parity bit in force and a high stop bit, and a
clean reception of those levels is judged as that byte (R182, R183). A good character carries its byte in samples that all
agree. It begins a frame, is dropped in HUNT, or is the frame's next field (R185, R187): HUNT to LEN, LEN to KIND, KIND to
TAG, TAG to BODY or with LEN 2 to CHK, BODY to CHK at its last byte, CHK to EOF, with the gap timer at 20 ms; in the EOF
place it ends a frame whose check agrees, which is dispatched, waits in a slot or is lost (R189, R190). Nothing else
moves. -/
def Obligations.GoodCharacterIsTaken : Prop :=
  (∀ (p : Parity) (y : Byte) (bits : List Bool),
    bits = [false, y.getLsbD 0, y.getLsbD 1, y.getLsbD 2, y.getLsbD 3, y.getLsbD 4, y.getLsbD 5, y.getLsbD 6,
      y.getLsbD 7] ++
      (match p with
        | .none => [true]
        | .even => [oddOnes y, true]
        | .odd => [!oddOnes y, true]) →
    sentCharacter p y = bits ∧ judgeChar p (charOfLevels p bits) = .ok y) ∧
  ∀ (s : State) (c : LineChar) (b : Byte), s.powered = true → s.link.choose = s.link →
    judgeChar s.link.line.parity c = .ok b →
    let x := s.link.receiver
    let becomes : Receiver → Prop := fun y =>
      exec (.characterReceived c) s = .next { s with link := { s.link with receiver := y, gapTimer := some 20 } }
    let ended : Link := { s.link with receiver := Receiver.hunting, gapTimer := none }
    ((∀ i : Fin 8, c.data[i] = ⟨b.getLsbD i, b.getLsbD i, b.getLsbD i⟩) ∧ c.stop = ⟨true, true, true⟩ ∧
      (s.link.line.parity = .even → c.parity = ⟨oddOnes b, oddOnes b, oddOnes b⟩) ∧
      (s.link.line.parity = .odd → c.parity = ⟨!oddOnes b, !oddOnes b, !oddOnes b⟩)) ∧
    (x.phase = .hunt → b = 0xA5 → becomes
      { phase := .len, len := 0, kind := none, tag := none, body := [], check := 0, chk := 0 }) ∧
    (x.phase = .hunt → b ≠ 0xA5 → exec (.characterReceived c) s = .next s) ∧
    (x.phase = .len → 2 ≤ b.toNat → b.toNat ≤ 250 → becomes
      { x with phase := .kind, len := b.toNat, check := x.check ^^^ b }) ∧
    (x.phase = .kind → becomes { x with phase := .tag, kind := some b, check := x.check ^^^ b }) ∧
    (x.phase = .tag → x.len ≠ 2 → becomes { x with phase := .body, tag := some b, check := x.check ^^^ b }) ∧
    (x.phase = .tag → x.len = 2 → becomes { x with phase := .chk, tag := some b, check := x.check ^^^ b }) ∧
    (x.phase = .body → x.body.length + 1 ≠ x.len - 2 → becomes
      { x with body := x.body ++ [b], check := x.check ^^^ b }) ∧
    (x.phase = .body → x.body.length + 1 = x.len - 2 → becomes
      { x with phase := .chk, body := x.body ++ [b], check := x.check ^^^ b }) ∧
    (x.phase = .chk → becomes { x with phase := .eof, chk := b }) ∧
    (∀ kind tag f, x.phase = .eof → x.chk = x.check → b = 0x5A → x.kind = some kind → x.tag = some tag →
      f = { kind := kind, tag := tag, body := x.body } →
      (s.link.dispatchOpen = true → s.link.slots = [] →
        exec (.characterReceived c) s = .next (endEvent (takeFrame f { s with link := ended }))) ∧
      (s.link.dispatchOpen = false → s.link.slots.length < 2 →
        exec (.characterReceived c) s = .next { s with link := { ended with slots := s.link.slots ++ [f] } }) ∧
      (s.link.dispatchOpen = false → s.link.slots.length = 2 →
        exec (.characterReceived c) s =
          .next { s with link := (ended.push (.linkError .rxOverrun (some kind) (some tag))).choose }))

/-- A frame ends in error with one LINK_ERROR that carries the KIND and TAG received, and the receiver is in HUNT with
its timer stopped (R185 to R188): by a faulty character, by FRAME_GAP, by BREAK, by a LEN outside 2..250, and in the EOF
place by a CHK that differs or by a byte that is not 0x5A. In HUNT the first three do nothing. -/
def Obligations.FrameEndsInError : Prop :=
  ∀ (s : State) (c : LineChar) (e : LinkErrorReason) (b : Byte), s.powered = true → s.link.choose = s.link →
    let x := s.link.receiver
    let ended : LinkErrorReason → State := fun why =>
      { s with link := (({ s.link with receiver := Receiver.hunting, gapTimer := none } : Link).push
          (.linkError why x.kind x.tag)).choose }
    (x.phase ≠ .hunt → exec .frameGap s = .next (ended .frameGap) ∧ exec .lineBreak s = .next (ended .lineBreak)) ∧
    (x.phase = .hunt → exec .frameGap s = .next s ∧ exec .lineBreak s = .next s) ∧
    (judgeChar s.link.line.parity c = .error e →
      (x.phase ≠ .hunt → exec (.characterReceived c) s = .next (ended e)) ∧
      (x.phase = .hunt → exec (.characterReceived c) s = .next s)) ∧
    (judgeChar s.link.line.parity c = .ok b →
      (x.phase = .len → b.toNat < 2 ∨ 250 < b.toNat → exec (.characterReceived c) s = .next (ended .lenRange)) ∧
      (x.phase = .eof → x.chk ≠ x.check → exec (.characterReceived c) s = .next (ended .check)) ∧
      (x.phase = .eof → x.chk = x.check → b ≠ 0x5A → exec (.characterReceived c) s = .next (ended .noEof)))

/-- WRITE_END stores what was being written, forms the deferred reply OK and frees dispatch (R191, R200, R201). -/
def Obligations.WriteEndAnswersDeferred : Prop :=
  ∀ (s : State) (kind tag : Byte), s.powered = true → s.link.dispatch = .writing kind tag → s.link.reply = none →
    s.link.lineChangeDue = false → s.link.restart = .none → 1 ≤ kind.toNat → kind.toNat ≤ 0x3F →
    let answered := ({ s.link with dispatch := .free } : Link).answered kind tag .ok .empty
    (∀ v, s.store.write = some (.image v) →
      exec .writeEnd s = .next { s with
        store := { s.store with image := .written v v.checkByte, write := none }, link := answered }) ∧
    (∀ r, s.store.write = some (.record .platter r) →
      exec .writeEnd s = .next { s with
        store := { s.store with platterCopy := .written r r.checkByte, write := none }, link := answered }) ∧
    (∀ r, s.store.write = some (.record .bag r) →
      exec .writeEnd s = .next { s with
        store := { s.store with bagCopy := .written r r.checkByte, write := none }, link := answered })

/-- REPLY_SENT empties the reply slot (R112, R190, R191, R194, R195, R202): with nothing waiting the transmitter takes the
oldest report or is idle; a waiting request is dispatched from its slot. That a restart asked for and a pending line change
become due here, and are carried out by commands of their own, is the model's split of one moment of R202 and of R195 in
two (logs 10 and 9). REPORT_SENT ends a report and the transmitter chooses the reply first, then the oldest report. -/
def Obligations.SendingEnds : Prop :=
  ∀ s : State, s.powered = true → s.link.lineChangeDue = false →
    (s.link.transmitter = .sendingReply → s.link.restart = .none → s.link.pendingLine = none → s.link.slots = [] →
      (s.link.reports = [] →
        exec .replySent s = .next { s with link := { s.link with reply := none, transmitter := .idle } }) ∧
      (∀ r rest, s.link.reports = r :: rest →
        exec .replySent s = .next { s with link :=
          { s.link with reply := none, transmitter := .sendingReport r, reports := rest } })) ∧
    (∀ f rest, s.link.transmitter = .sendingReply → s.link.restart = .none → s.link.pendingLine = none →
      s.link.dispatch = .free → s.link.slots = f :: rest →
      exec .replySent s = .next (endEvent (takeFrame f
        { s with link := { s.link with reply := none, transmitter := .idle, slots := rest } }))) ∧
    (s.link.transmitter = .sendingReply → s.link.restart = .asked →
      exec .replySent s = .next { s with link :=
        { s.link with reply := none, transmitter := .idle, restart := .due } }) ∧
    (∀ l, s.link.transmitter = .sendingReply → s.link.restart = .none → s.link.pendingLine = some l →
      exec .replySent s = .next { s with link :=
        { s.link with reply := none, transmitter := .idle, lineChangeDue := true } }) ∧
    (∀ q, s.link.transmitter = .sendingReport q → s.link.restart = .none →
      (∀ r, s.link.reply = some r →
        exec .reportSent s = .next { s with link := { s.link with transmitter := .sendingReply } }) ∧
      (s.link.reply = none → s.link.reports = [] →
        exec .reportSent s = .next { s with link := { s.link with transmitter := .idle } }) ∧
      (∀ r rest, s.link.reply = none → s.link.reports = r :: rest →
        exec .reportSent s = .next { s with link :=
          { s.link with transmitter := .sendingReport r, reports := rest } }))

/-- LINE_SETTINGS_CHANGE, due once the reply of the SET has been sent, brings the pending line settings into force (R186,
R195): with no frame in progress only the line and the transmitter's choice change; a frame in progress is discarded with
RATE_CHANGE. -/
def Obligations.LineChangesAfterReply : Prop :=
  ∀ (s : State) (l : LineSettings), s.powered = true → s.link.lineChangeDue = true → s.link.pendingLine = some l →
    s.link.slots = [] → s.link.restart = .none →
    let changed : Link := { s.link with line := l, pendingLine := none, lineChangeDue := false }
    (s.link.receiver.phase = .hunt → exec .lineSettingsChange s = .next { s with link := changed.choose }) ∧
    (s.link.receiver.phase ≠ .hunt →
      exec .lineSettingsChange s = .next { s with link :=
        (({ changed with receiver := Receiver.hunting, gapTimer := none } : Link).push
          (.linkError .rateChange s.link.receiver.kind s.link.receiver.tag)).choose })

/-! ### Settings (chapter 11) -/

/-- SET takes a number by its setting's kind, whose range, or members and default, R197's table gives for each id, and a text
with `?` for what is not printable; the reply is OK when the value taken is the value sent and ADJUSTED otherwise; the live
value becomes the value taken and no other setting moves (R197, R198). A value that equals the live one changes nothing.
Beyond the live value, a change of `card_reader_enable` to off ends the decoding of a swipe (R99), of `drawer_sense_present`
tells the drawer (R120), of `drawer_hold_duty` sets the pending duty (R125), of `supply_budget` sets the budget once nothing
is granted (R142), of `link_rate` and `link_parity` makes pending line settings (R195); the six of a channel are
`SetRestartsChannel`. A value in the form of the other kind is answered BAD_LENGTH (the model's choice, log 35). GET returns
the live value (R199), each id that of its own setting, and the defaults are those of R197's table. -/
def Obligations.SetAndGet : Prop :=
  ((List.range 36).map settingKind =
    [.member [50, 100, 200] 100, .member [50, 100, 200] 100, .member [4, 8, 16, 32, 64] 16,
      .member [4, 8, 16, 32, 64] 32, .range 4 32, .range 4 32, .range 1 10, .range 5 100, .range 2 30, .member [0, 1] 1,
      .range 5 200, .range 0 20, .range 3 60, .range 0 10, .member [0, 1] 1, .range 10 120, .member [0, 1] 1,
      .member [0, 1] 0, .range 20 100, .range 0 150, .range 32 255, .gap, .range 16 40, .range 0 3, .text, .text, .text,
      .text, .text, .text, .text, .text, .range 80 120, .range 0 24,
      .member [9600, 19200, 38400, 57600, 115200] 38400, .member [0, 1, 2] 0].map some) ∧
  (∀ id, 36 ≤ id → settingKind id = none) ∧
  (∀ v : Settings, let switch : Bool → SettingValue := fun b => .number (if b then 1 else 0)
    (List.range 36).map v.get =
      [.number v.platterSampleRate, .number v.bagSampleRate, .number v.platterFilterLen, .number v.bagFilterLen,
        .number v.platterStableLen, .number v.bagStableLen, .number v.bagBand, .number v.bagThreshold,
        .number v.weighTimeout, switch v.tarePerItem, .number v.bagTolAbs, .number v.bagTolPct, .number v.bagTimeout,
        .number v.bagGrace, switch v.cardReaderEnable, .number v.cardHold, switch v.drawerSensePresent,
        switch v.drawerCloseRequired, .number v.drawerPullMs, .number v.drawerHoldMs, .number v.drawerHoldDuty,
        .number v.drawerAlarmS, .number v.supplyBudget, .number v.amountDecimals, .text v.header1, .text v.header2,
        .text v.header3, .text v.header4, .text v.trailer1, .text v.trailer2, .text v.trailer3, .text v.trailer4,
        .number v.printDensity, .number v.lineSpacing, .number v.linkRate,
        .number (match v.linkParity with | .none => 0 | .even => 1 | .odd => 2)].map some) ∧
  ((List.range 36).map Settings.defaults.get =
    ([100, 100, 16, 32, 8, 16, 2, 10, 10, 1, 15, 5, 15, 3, 1, 60, 1, 0, 50, 80, 96, 30, 24, 2].map SettingValue.number ++
      List.replicate 8 (SettingValue.text []) ++ [100, 6, 38400, 0].map SettingValue.number).map some) ∧
  (∀ low high v : Int, takenNumber (.range low high) v =
    some (if v < low then low else if high < v then high else v)) ∧
  (∀ v : Int, takenNumber .gap v = some (if v ≤ 0 then 0 else if v ≤ 5 then 5 else if v ≤ 120 then v else 120)) ∧
  (∀ (xs : List Int) (d v : Int), takenNumber (.member xs d) v = some (if v ∈ xs then v else d)) ∧
  ∀ (s : State) (tag id : Byte) (v : Wide) (chars y : List Byte), s.accepts →
    let sets : SettingArg → Status → SettingValue → State → Prop := fun a st y t =>
      exec (.set tag id a) s = .next (t.replies 0x29 tag st (.setting id.toNat y))
    let refuses : SettingArg → Status → Prop := fun a st =>
      exec (.set tag id a) s = .next (s.replies 0x29 tag st .empty)
    let becomes : SettingValue → State := fun y =>
      { s with store := { s.store with live := s.store.live.put id.toNat y } }
    let onlyThis : SettingValue → Prop := fun y =>
      (s.store.live.put id.toNat y).get id.toNat = some y ∧
        ∀ j, j ≠ id.toNat → (s.store.live.put id.toNat y).get j = s.store.live.get j
    (∀ (k : SettingKind) (x : Int), settingKind id.toNat = some k → takenNumber k v.toInt = some x →
      let st : Status := if x = v.toInt then .ok else .adjusted
      let t := becomes (.number x)
      let shut : Drawer := { s.drawer with state := .closed, phaseTimer := none, alarmTimer := none }
      onlyThis (.number x) ∧
      (s.store.live.get id.toNat = some (.number x) → sets (.number v) st (.number x) s) ∧
      (s.store.live.get id.toNat ≠ some (.number x) →
        (id.toNat ∉ [0, 1, 2, 3, 4, 5, 14, 16, 20, 22, 34, 35] → sets (.number v) st (.number x) t) ∧
        (id = 14 → sets (.number v) st (.number x)
          (if x = 0 ∧ s.reader.gap = .swipe ∧ s.reader.decoded = true then
            { t with reader := { s.reader with
              decoded := false
              alpha := { s.reader.alpha with bits := [] }
              numeric := { s.reader.numeric with bits := [] } } }
          else t)) ∧
        (id = 16 →
          (x = 0 → s.drawer.state = .opened → sets (.number v) st (.number x)
            { t with
              drawer := shut
              link := s.link.push (.drawerState .closed .opened .senseClosed s.drawer.attempts none) }) ∧
          (x = 0 → s.drawer.state = .openAlarm → ∃ tone : Tone, tone.drawerAlarmHeld = false ∧
            sets (.number v) st (.number x)
              { t with
                drawer := shut
                tone := tone
                link := s.link.push (.drawerState .closed .openAlarm .senseClosed s.drawer.attempts none) }) ∧
          (s.drawer.state ∉ [DrawerState.opened, .openAlarm] → x = 0 ∨ s.drawer.senseOpen = false →
            sets (.number v) st (.number x) t) ∧
          (x = 1 → s.drawer.senseOpen = true → s.drawer.state = .closed → sets (.number v) st (.number x)
            { t with
              drawer := { s.drawer with
                state := .opened
                phaseTimer := none
                alarmTimer :=
                  if s.store.live.drawerAlarmS = 0 then none else some (s.store.live.drawerAlarmS * 1000) }
              link := s.link.push (.drawerState .opened .closed .forced s.drawer.attempts none) })) ∧
        (id = 20 → sets (.number v) st (.number x) { t with drawer := { s.drawer with pendingDuty := x.toNat } }) ∧
        (id = 22 → s.supply.waiting = { drawer := none, cutter := none, motor := none, head := none } →
          (s.supply.granted.total = 0 → x ≠ s.supply.budget → sets (.number v) st (.number x)
            { t with
              supply := { s.supply with budget := x.toNat }
              link := s.link.push (.supplyState s.supply.low s.supply.low .budget x.toNat 0) }) ∧
          (s.supply.granted.total ≠ 0 → sets (.number v) st (.number x) t)) ∧
        (id = 34 ∨ id = 35 → sets (.number v) st (.number x)
          { t with link := { s.link with
            pendingLine := some { rate := t.store.live.linkRate, parity := t.store.live.linkParity } } }))) ∧
    (24 ≤ id.toNat → id.toNat ≤ 31 →
      (32 < chars.length → refuses (.text chars) .badValue) ∧
      (chars.length ≤ 32 → y = (chars.map fun b => if 0x20 ≤ b.toNat ∧ b.toNat ≤ 0x7E then b else 0x3F) →
        onlyThis (.text y) ∧
        sets (.text chars) (if y = chars then .ok else .adjusted) (.text y) (becomes (.text y))) ∧
      refuses (.number v) .badLength) ∧
    (id.toNat ≤ 23 ∨ 32 ≤ id.toNat → refuses (.text chars) .badLength) ∧
    (36 ≤ id.toNat → refuses (.number v) .notFound ∧
      exec (.get tag id) s = .next (s.replies 0x2A tag .notFound .empty)) ∧
    (id.toNat < 36 → ∃ z, s.store.live.get id.toNat = some z ∧
      exec (.get tag id) s = .next (s.replies 0x2A tag .ok (.setting id.toNat z)))

/-- SAVE_SETTINGS starts the write of the live settings and waits for its end; RESTART is answered at once and closes
dispatch; IDENTIFY names the part (R191, R200, R202, R203). -/
def Obligations.StoreRequests : Prop :=
  ∀ (s : State) (tag : Byte), s.accepts →
    exec (.saveSettings tag) s =
      .next { s with
        store := { s.store with write := some (.image s.store.live) }, link := s.link.deferred 0x2B tag } ∧
    (∃ t, exec (.restart tag) s = .next t ∧
      t = { s with link := ({ s.link with restart := .asked } : Link).answered 0x2C tag .ok .empty } ∧
      t.link.dispatchOpen = false) ∧
    exec (.identify tag) s =
      .next { s with
        link := s.link.answered 0x2D tag .ok
          (.identity revisionLetter s.platter.record.calCount (s.platter.record.profile.getD .a)
            s.bag.record.calCount) } ∧
    0x41 ≤ revisionLetter.toNat ∧ revisionLetter.toNat ≤ 0x5A

/-- A SET of a channel's sample rate, filter length or stability length (ids 0, 2, 4 of the platter and 1, 3, 5 of the
bag) that changes the live value restarts the channel, and in FAULT is only stored; one that leaves it restarts nothing
(R3, R15, R198). -/
def Obligations.SetRestartsChannel : Prop :=
  ∀ (s : State) (tag id : Byte) (v : Wide) (ch : ChannelId) (k : SettingKind) (x : Int), s.accepts →
    id.toNat ∈ (if ch = .platter then [0, 2, 4] else [1, 3, 5]) →
    settingKind id.toNat = some k → takenNumber k v.toInt = some x →
    let c := s.channel ch
    let st : Status := if x = v.toInt then .ok else .adjusted
    let stored : State := { s with store := { s.store with live := s.store.live.put id.toNat (.number x) } }
    let begun : ChannelCondition := if c.record.valid ch then .starting else .uncalibrated
    let restarted : Channel := { c with
      condition := begun
      converterOn := true
      settling := 2
      filterRing := []
      filterSum := 0
      latest := none
      stabilityRing := []
      trackingCount := 0 }
    (s.store.live.get id.toNat = some (.number x) →
      exec (.set tag id (.number v)) s = .next (s.replies 0x29 tag st (.setting id.toNat (.number x)))) ∧
    (s.store.live.get id.toNat ≠ some (.number x) → c.condition = .fault →
      exec (.set tag id (.number v)) s = .next (stored.replies 0x29 tag st (.setting id.toNat (.number x)))) ∧
    (s.store.live.get id.toNat ≠ some (.number x) → c.condition ≠ .fault →
      exec (.set tag id (.number v)) s = .next (({ stored with
        platter := if ch = .platter then restarted else s.platter
        bag := if ch = .platter then s.bag else restarted
        link := if c.condition = begun then s.link else s.link.push (.channelState ch begun c.condition) } :
          State).replies 0x29 tag st (.setting id.toNat (.number x))))

/-! ### Scale (chapters 1 and 2) -/

/-- READ_WEIGHT (R24, R26, R28, R29): gross and net are carried in READY alone, rounded to the division of their
interval; tare, occupancy and the settled weight always. READ_SALE, READ_ENTRY and READ_TENDER return what the record
holds (R71 to R73). None of them changes anything. -/
def Obligations.ReadsOfScaleAndSale : Prop :=
  ∀ (s : State) (tag n : Byte) (r : SaleRecord), s.accepts →
    let p := s.platter.record.profileInForce
    (∀ o f, s.platter.condition = .ready → s.platter.latest = some o → o.fineGross = some f →
      exec (.readWeight tag 0) s = .next (s.replies 0x01 tag .ok
        (.weightPlatter .ready o.stable (some (legalRound p f / 10)) (s.scale.tareT / 10)
          (some (legalRound p (f - s.scale.tareT) / 10)) s.scale.occupancy))) ∧
    (s.platter.condition ≠ .ready → exec (.readWeight tag 0) s = .next (s.replies 0x01 tag .ok
      (.weightPlatter s.platter.condition (s.platter.latest.any FilterOutput.stable) none (s.scale.tareT / 10) none
        s.scale.occupancy))) ∧
    (∀ o f, s.bag.condition = .ready → s.bag.latest = some o → o.fineGross = some f →
      exec (.readWeight tag 1) s = .next (s.replies 0x01 tag .ok
        (.weightBag .ready o.stable (some (roundAway f 50 * 5)) s.settledS))) ∧
    (s.bag.condition ≠ .ready → exec (.readWeight tag 1) s = .next (s.replies 0x01 tag .ok
      (.weightBag s.bag.condition (s.bag.latest.any FilterOutput.stable) none s.settledS))) ∧
    (2 ≤ n.toNat → exec (.readWeight tag n) s = .next (s.replies 0x01 tag .badValue .empty)) ∧
    (s.sale.current = .idle →
      exec (.readSale tag) s = .next (s.replies 0x16 tag .ok
        (.sale .idle s.attendant none (s.sale.closed.map ClosedSale.receipt) (s.sale.closed.map ClosedSale.view))) ∧
      exec (.readEntry tag n) s = .next (s.replies 0x17 tag .badState .empty) ∧
      exec (.readTender tag n) s = .next (s.replies 0x18 tag .badState .empty)) ∧
    (s.sale.current = .opened r ∨ s.sale.current = .tender r →
      exec (.readSale tag) s = .next (s.replies 0x16 tag .ok
        (.sale s.sale.current.state s.attendant
          (some
            { number := r.number, entries := r.basket.length, tenders := r.tenders.length, total := r.total
              tendered := sumOf (r.tenders.map Tender.amount)
              cardPending := r.tenders.any fun t => t.state == .pending })
          (s.sale.closed.map ClosedSale.receipt) (s.sale.closed.map ClosedSale.view))) ∧
      (∀ e, findEntry n.toNat r.basket = some e →
        exec (.readEntry tag n) s = .next (s.replies 0x17 tag .ok (.entry e))) ∧
      (findEntry n.toNat r.basket = none →
        exec (.readEntry tag n) s = .next (s.replies 0x17 tag .notFound .empty)) ∧
      (∀ t, 1 ≤ n.toNat → r.tenders[n.toNat - 1]? = some t →
        exec (.readTender tag n) s = .next (s.replies 0x18 tag .ok (.tender t))) ∧
      (n = 0 ∨ r.tenders.length < n.toNat →
        exec (.readTender tag n) s = .next (s.replies 0x18 tag .notFound .empty)))

/-- SET_TARE, TAKE_TARE and CLEAR_TARE (R32 to R34): the tare is rounded to e1 half away from zero, a rounded tare above
the largest is refused, and none is taken while a weigh request is in flight. -/
def Obligations.TareRequests : Prop :=
  ∀ (s : State) (tag : Byte) (w : Wide), s.accepts →
    let p := s.platter.record.profileInForce
    let tared : Int → State := fun t => { s with scale := { s.scale with tareT := t } }
    (s.scale.weigh ≠ none →
      exec (.setTare tag w) s = .next (s.replies 0x06 tag .busy .empty) ∧
      exec (.takeTare tag) s = .next (s.replies 0x07 tag .busy .empty) ∧
      exec (.clearTare tag) s = .next (s.replies 0x08 tag .busy .empty)) ∧
    (s.scale.weigh = none →
      exec (.clearTare tag) s = .next ((tared 0).replies 0x08 tag .ok .empty) ∧
      (∀ t, t = roundAway (w.toInt * 10) p.e1 * p.e1 →
        (0 ≤ w.toInt → t ≤ p.max / 2 →
          exec (.setTare tag w) s = .next ((tared t).replies 0x06 tag .ok (.tare (t / 10)))) ∧
        (w.toInt < 0 ∨ p.max / 2 < t →
          exec (.setTare tag w) s = .next (s.replies 0x06 tag .badValue .empty))) ∧
      (s.platter.condition ≠ .ready → exec (.takeTare tag) s = .next (s.replies 0x07 tag .badState .empty)) ∧
      (∀ o f t, s.platter.condition = .ready → s.platter.latest = some o → o.fineGross = some f →
        t = roundAway f p.e1 * p.e1 →
        (o.stable = false → exec (.takeTare tag) s = .next (s.replies 0x07 tag .busy .empty)) ∧
        (o.stable = true → 0 < t → t ≤ p.max / 2 →
          exec (.takeTare tag) s = .next ((tared t).replies 0x07 tag .ok (.tare (t / 10)))) ∧
        (o.stable = true → t ≤ 0 ∨ p.max / 2 < t →
          exec (.takeTare tag) s = .next (s.replies 0x07 tag .badValue .empty))))

/-- ZERO (R22), with its refusals in their order. In READY, OVERLOAD and UNDERLOAD a stable reading within 2 % of Max of
the power-up zero, and in NO_ZERO one within 10 % of Max of cal_zero, is taken: zero_ref becomes the reading, the tracking
count becomes 0, and the latest fine gross becomes 0 with the stability ring moved by the same shift (R10); in NO_ZERO the
power-up zero becomes the reading too and the channel goes to READY with its report (R16). On the bag channel S becomes 0
(R24). Nothing else changes but the reply. -/
def Obligations.ZeroTakesReading : Prop :=
  ∀ (s : State) (tag n : Byte) (ch : ChannelId), s.accepts → n = (match ch with | .platter => 0 | .bag => 1) →
    let c := s.channel ch
    let refused : Status → Prop := fun st => exec (.zero tag n) s = .next (s.replies 0x02 tag st .empty)
    let free := ch = .platter → s.scale.weigh = none ∧ s.scale.tareT = 0
    (c.condition ∈ [ChannelCondition.uncalibrated, .starting, .fault] → refused .badState) ∧
    (c.condition ∈ [ChannelCondition.ready, .overload, .underload, .noZero] →
      (ch = .platter → s.scale.weigh ≠ none → refused .busy) ∧
      (ch = .platter → s.scale.weigh = none → s.scale.tareT ≠ 0 → refused .badState) ∧
      (free → (∀ o, c.latest = some o → o.stable = false) → refused .busy) ∧
      ∀ (o : FilterOutput) (f : Int) (sp : Span), free → c.latest = some o → o.stable = true →
        o.fineGross = some f → c.record.valid ch = true → c.record.span = some sp →
        ∀ (about limit : Int),
          (c.condition = .noZero → c.record.calZero = some about ∧ limit = channelMax ch c.record / 10) →
          (c.condition ≠ .noZero → c.powerUpZero = some about ∧ limit = channelMax ch c.record / 50) →
          (limit * sp.counts < (o.filtered - about).natAbs * sp.loadT → refused .badValue) ∧
          ((o.filtered - about).natAbs * sp.loadT ≤ limit * sp.counts →
            let zeroed : Channel :=
              { c with
                zeroRef := some o.filtered
                trackingCount := 0
                latest := some { o with fineGross := some 0 }
                stabilityRing := c.stabilityRing.map fun v => v - f }
            exec (.zero tag n) s = .next
              (({ s.withChannel ch (if c.condition = .noZero then
                  { zeroed with powerUpZero := some o.filtered, condition := .ready } else zeroed) with
                settledS := if ch = .bag then some 0 else s.settledS
                link := if c.condition = .noZero then s.link.push (.channelState ch .ready .noZero)
                  else s.link } : State).replies 0x02 tag .ok .empty))) ∧
    (∀ m : Byte, 2 ≤ m.toNat → exec (.zero tag m) s = .next (s.replies 0x02 tag .badValue .empty))

/-- A successful calibration step (R17 to R21, R191), channel and link whole: the record takes the change with its count;
a valid record gives zero_ref and power_up_zero its cal_zero, a tracking count of 0, an empty stability ring and STARTING,
an invalid one UNCALIBRATED with zero_ref moved by CAL_ZERO alone and the stability ring emptied when the record was valid
before (the model's choice, log 38); tare or S goes; the filter ring and the converter are kept; CHANNEL_STATE is queued
only when the condition changes; and the store write starts, whose end the reply waits for. Each refusal changes nothing
but the enable level the command brings (log 6). A platter record that holds no profile takes A with the step (log 36). -/
def Obligations.CalibrationSteps : Prop :=
  ∀ (s : State) (on : Bool) (tag n : Byte) (ch : ChannelId) (load : Wide), s.accepts →
    n = (match ch with | .platter => 0 | .bag => 1) →
    let c := s.channel ch
    let at' : State := { s with inputs := { s.inputs with calEnable := on } }
    let counted : CalRecord → CalRecord := fun r =>
      { r with
        calCount := min 65535 (r.calCount + 1)
        profile := match ch with | .platter => some r.profileInForce | .bag => r.profile }
    let taken : Byte → Bool → CalRecord → State := fun kind zeroToo r =>
      let begun : ChannelCondition := if r.valid ch then .starting else .uncalibrated
      { at'.withChannel ch
          { c with
            record := r
            condition := begun
            zeroRef := if r.valid ch ∨ zeroToo then r.calZero else c.zeroRef
            powerUpZero := if r.valid ch then r.calZero else c.powerUpZero
            trackingCount := if r.valid ch ∨ zeroToo then 0 else c.trackingCount
            stabilityRing := if r.valid ch ∨ c.record.valid ch then [] else c.stabilityRing } with
        scale := match ch with | .platter => { s.scale with tareT := 0 } | .bag => s.scale
        settledS := match ch with | .platter => s.settledS | .bag => none
        store := { s.store with write := some (.record ch r) }
        link := (if c.condition = begun then s.link
          else s.link.push (.channelState ch begun c.condition)).deferred kind tag }
    let all : Status → Prop := fun st =>
      exec (.calZero on tag n) s = .next (at'.replies 0x03 tag st .empty) ∧
      exec (.calSpan on tag n load) s = .next (at'.replies 0x04 tag st .empty)
    (on = false → all .calDisabled) ∧
    (on = true → ch = .platter → s.scale.weigh ≠ none → all .busy) ∧
    (on = true → (ch = .platter → s.scale.weigh = none) → c.condition = .fault → all .badState) ∧
    (on = true → (ch = .platter → s.scale.weigh = none) → c.condition ≠ .fault →
      (∀ o, c.latest = some o → o.stable = true →
        exec (.calZero on tag n) s =
          .next (taken 0x03 true (counted { c.record with calZero := some o.filtered })) ∧
        ∀ z, c.record.calZero = some z → channelMax ch c.record ≤ 10 * (load.toInt * 10) →
          load.toInt * 10 ≤ channelMax ch c.record →
          (50000 ≤ o.filtered - z →
            exec (.calSpan on tag n load) s = .next (taken 0x04 false (counted
              { c.record with span := some { counts := o.filtered - z, loadT := load.toInt * 10 } }))) ∧
          (o.filtered - z < 50000 →
            exec (.calSpan on tag n load) s = .next (at'.replies 0x04 tag .badValue .empty))) ∧
      ((∀ o, c.latest = some o → o.stable = false) →
        exec (.calZero on tag n) s = .next (at'.replies 0x03 tag .busy .empty) ∧
        (c.record.calZero ≠ none → channelMax ch c.record ≤ 10 * (load.toInt * 10) →
          load.toInt * 10 ≤ channelMax ch c.record →
          exec (.calSpan on tag n load) s = .next (at'.replies 0x04 tag .busy .empty))) ∧
      (c.record.calZero = none → exec (.calSpan on tag n load) s = .next (at'.replies 0x04 tag .badState .empty)) ∧
      (c.record.calZero ≠ none → 10 * (load.toInt * 10) < channelMax ch c.record ∨
          channelMax ch c.record < load.toInt * 10 →
        exec (.calSpan on tag n load) s = .next (at'.replies 0x04 tag .badValue .empty)) ∧
      (ch = .platter → ∀ m p, (m, p) ∈ [((0 : Byte), Profile.a), (1, .b), (2, .c)] →
        exec (.setProfile on tag m) s =
          .next (taken 0x05 false (counted { c.record with profile := some p })))) ∧
    (ch = .platter → ∀ m : Byte, m.toNat ≤ 2 → ∀ st,
      (on = false ∧ st = .calDisabled) ∨ (on = true ∧ s.scale.weigh ≠ none ∧ st = .busy) ∨
        (on = true ∧ s.scale.weigh = none ∧ c.condition = .fault ∧ st = .badState) →
      exec (.setProfile on tag m) s = .next (at'.replies 0x05 tag st .empty)) ∧
    (∀ m : Byte, 2 ≤ m.toNat → exec (.calZero on tag m) s = .next (at'.replies 0x03 tag .badValue .empty) ∧
      exec (.calSpan on tag m load) s = .next (at'.replies 0x04 tag .badValue .empty) ∧
      (3 ≤ m.toNat → exec (.setProfile on tag m) s = .next (at'.replies 0x05 tag .badValue .empty)))

/-- A weigh request from its acceptance to its end without an entry (R38, R44, R45, R48): WEIGH_ITEM in an OPEN sale with
the platter READY starts the weigh timer; CANCEL_WEIGH and the timer's expiry end the request with one WEIGH_DONE. -/
def Obligations.WeighRequestLife : Prop :=
  ∀ (s : State) (tag : Byte) (d : List Byte) (u : Wide) (x : Option Wide) (r : SaleRecord) (w : WeighRequest),
    s.accepts →
    (∀ t, s.sale.current = .opened r → s.platter.condition = .ready → s.scale.weigh = none → 1 ≤ u.toInt →
      u.toInt ≤ 999999 → d.length ≤ 24 → r.basket.length < 120 →
      (x = none → t = s.scale.tareT) →
      (∀ g, x = some g → 0 ≤ g.toInt ∧ t ≤ s.platter.record.profileInForce.max / 2 ∧
        t = roundAway (g.toInt * 10) s.platter.record.profileInForce.e1 * s.platter.record.profileInForce.e1) →
      exec (.weighItem tag d u x) s = .next (({ s with scale := { s.scale with
        tareT := t
        weigh := some
          { description := d.map fun b => if 0x20 ≤ b.toNat ∧ b.toNat ≤ 0x7E then b else 0x3F
            unitPrice := u.toInt
            timer := s.store.live.weighTimeout * 1000 } } } : State).replies 0x09 tag .ok .empty)) ∧
    (s.sale.current = .opened r → s.platter.condition = .uncalibrated →
      exec (.weighItem tag d u x) s = .next (s.replies 0x09 tag .notCalibrated .empty)) ∧
    (s.scale.weigh = some w →
      exec (.cancelWeigh tag) s = .next (({ s with
        scale := { s.scale with weigh := none }
        link := s.link.push (.weighDone .cancelled none none none) } : State).replies 0x0A tag .ok .empty) ∧
      exec .weighTimerExpiry s = .next (endEvent { s with
        scale := { s.scale with weigh := none }
        link := s.link.push (.weighDone .timeout none none none) })) ∧
    (s.scale.weigh = none →
      exec (.cancelWeigh tag) s = .next (s.replies 0x0A tag .badState .empty) ∧
      exec .weighTimerExpiry s = .next (endEvent s))

/-- A sample (R3, R5): it is dropped while the converter is stopped (the model's choice, log 3: R3 has none arrive then),
discarded while the converter settles, and otherwise enters the ring. A sample that leaves the ring full forms a filter
output: its filtered value, fine gross, saturation and stable verdict (R4, R6, R8, R9); out of STARTING the power-up zero,
NO_ZERO or the range test, and the range test in READY, OVERLOAD and UNDERLOAD, each change of condition with one report
(R11, R12); then, with no weigh request in flight, the platter's zero tracking and occupancy (R23, R35 to R37), and on the
bag channel, with no sale open, S (R24). That the tracking count is raised before the condition is judged, so that an
output that sets zero_ref leaves it at 0, is read from R23 (log 28). Nothing else moves. -/
def Obligations.SamplesFillTheRing : Prop :=
  ∀ (s : State) (ch : ChannelId) (x : Int), s.powered = true →
    let c := s.channel ch
    let n := filterLen s.store.live ch
    let m := stableLen s.store.live ch
    (c.converterOn = false → exec (.sampleArrival ch x) s = .next (endEvent s)) ∧
    (c.converterOn = true → 0 < c.settling →
      exec (.sampleArrival ch x) s = .next (endEvent (s.withChannel ch { c with settling := c.settling - 1 }))) ∧
    (c.converterOn = true → c.settling = 0 → c.filterRing.length + 1 < n →
      exec (.sampleArrival ch x) s = .next (endEvent (s.withChannel ch
        { c with filterRing := c.filterRing ++ [x], filterSum := c.filterSum + x }))) ∧
    (c.converterOn = true → c.settling = 0 → 0 < n → c.filterRing.length ≤ n → n ≤ c.filterRing.length + 1 →
      c.filterSum = sumOf c.filterRing → 0 < m → c.stabilityRing.length ≤ m →
      let ring := (c.filterRing ++ [x]).drop (c.filterRing.length + 1 - n)
      let filtered := roundAway (sumOf ring) n
      let fine : Option Int := if c.record.valid ch then c.zeroRef.bind fun z => c.record.span.map fun sp =>
        roundAway ((filtered - z) * sp.loadT) sp.counts else none
      let sat : Saturation := if (8388607 : Int) ∈ ring then .high else if (-8388608 : Int) ∈ ring then .low else .no
      let stab := (c.stabilityRing ++ [fine.getD filtered]).drop (c.stabilityRing.length + 1 - m)
      let band : Int := if c.record.valid ch = false then 64 else
        if ch = .platter then c.record.profileInForce.e1 else s.store.live.bagBand * 50
      let o : FilterOutput :=
        { filtered := filtered, fineGross := fine, saturated := sat
          stable := decide (stab.length = m ∧ (∀ a ∈ stab, ∀ b ∈ stab, a - b ≤ band) ∧ sat = .no) }
      let out : Channel :=
        { c with
          filterRing := ring, filterSum := sumOf ring, latest := some o, stabilityRing := stab
          trackingCount := if ch = .platter then min 32 (c.trackingCount + 1) else c.trackingCount }
      let rezeroed : Int → Channel := fun f =>
        { out with
          condition := .ready, zeroRef := some filtered, trackingCount := 0
          latest := some { o with fineGross := some 0 }, stabilityRing := stab.map fun v => v - f }
      let told : ChannelCondition → Link := fun k =>
        if k = c.condition then s.link else s.link.push (.channelState ch k c.condition)
      let seen : Occupancy → Link → Link := fun k l =>
        if k = s.scale.occupancy then l else l.push (.platterState k s.scale.occupancy)
      let becomes : State → Prop := fun t => exec (.sampleArrival ch x) s = .next (endEvent t)
      (c.condition = .uncalibrated ∨ c.condition = .noZero ∨ c.condition = .starting ∧ o.stable = false →
        (ch = .platter → s.scale.weigh = none) → becomes (s.withChannel ch out)) ∧
      ∀ (f : Int) (sp : Span), fine = some f → c.record.span = some sp → (ch = .platter → s.scale.weigh = none) →
        (ch = .bag → s.sale.current = .idle) →
        (∀ z, c.condition = .starting → o.stable = true → c.powerUpZero = none → c.record.calZero = some z →
          ((filtered - z).natAbs * sp.loadT ≤ channelMax ch c.record / 10 * sp.counts →
            becomes { s.withChannel ch { rezeroed f with powerUpZero := some filtered } with
              settledS := if ch = .bag then some 0 else s.settledS
              scale := if ch = .bag then s.scale else { s.scale with occupancy := .empty }
              link := if ch = .bag then told .ready else seen .empty (told .ready) }) ∧
          (channelMax ch c.record / 10 * sp.counts < (filtered - z).natAbs * sp.loadT →
            becomes { s.withChannel ch { out with condition := .noZero } with link := told .noZero })) ∧
        (c.condition ∈ [ChannelCondition.ready, .overload, .underload] ∨
            c.condition = .starting ∧ o.stable = true ∧ c.powerUpZero ≠ none →
          let cond : ChannelCondition :=
            if sat = .high ∨ channelMax ch c.record + 9 * channelELast ch c.record < f then .overload
            else if sat = .low ∨ f < -20 * channelE1 ch c.record then .underload else .ready
          (ch = .bag → becomes { s.withChannel ch { out with condition := cond } with
            settledS := if o.stable = true ∧ cond = .ready then some (roundAway f 50 * 5) else s.settledS
            link := told cond }) ∧
          (ch = .platter →
            let e1 := c.record.profileInForce.e1
            let corrects := cond = .ready ∧ o.stable = true ∧ s.scale.occupancy = .empty ∧ s.scale.tareT = 0 ∧ f ≠ 0 ∧
              2 * f.natAbs ≤ e1 ∧ 31 ≤ c.trackingCount ∧ ∃ u, c.powerUpZero = some u ∧
                (filtered - u).natAbs * sp.loadT ≤ c.record.profileInForce.max / 50 * sp.counts
            let occ : Occupancy := if o.stable = false then s.scale.occupancy else if f ≤ 10 * e1 then .empty
              else if s.scale.occupancy = .locked then .locked else .loaded
            (corrects → becomes { s with platter := rezeroed f, link := told .ready }) ∧
            (¬corrects → becomes { s with
              platter := { out with condition := cond }
              scale := { s.scale with occupancy := occ }
              link := seen occ (told cond) }))))

/-- A weigh request at a stable READY output of a platter held at one value (R28, R29, R35 to R37, R40 to R43, R48, R77).
Where the load has not yet been weighed, the sale is OPEN and the legal net lies between the minimum and Max, it ends: with
the entry of R43 appended at the price of R41, PENDING with its add-expectation listed or, where an unclaimed delta that
matches its net is held, BAGGED with the delta discarded; the platter LOCKED, the tare gone when it is taken per item, and
result OK; or, with nothing but the load judged, with PRICE_LIMIT or TOTAL_LIMIT (R42). Otherwise it stays in flight, and
the load alone is judged. That PLATTER_STATE comes before WEIGH_DONE where a limit ends the request is the model's reading
(log 25). Every block that is not named is unchanged. -/
def Obligations.WeighCompletes : Prop :=
  ∀ (s : State) (v fine : Int) (w : WeighRequest), s.powered = true → s.steady .platter v fine →
    s.scale.weigh = some w →
    ∀ (p : Profile) (net netG price : Int), p = s.platter.record.profileInForce →
      net = legalRound p (fine - s.scale.tareT) → netG = net / 10 → price = (netG * w.unitPrice + 500) / 1000 →
      let number := s.basket.length + 1
      let occ : Occupancy := if fine ≤ 10 * p.e1 then .empty
        else if s.scale.occupancy = .locked then .locked else .loaded
      let moved : Occupancy → Link → Link := fun k l =>
        if k = s.scale.occupancy then l else l.push (.platterState k s.scale.occupancy)
      let ends : WeighResult → Prop := fun why =>
        exec (.sampleArrival .platter v) s = .next (endEvent { s with
          platter := s.platter.steadied .platter v fine
          scale := { s.scale with occupancy := occ, weigh := none }
          link := (moved occ s.link).push (.weighDone why none (some netG) (some price)) })
      (occ = .locked ∨ net < 20 * p.e1 ∨ p.max < net ∨ s.sale.current.state ≠ .opened →
        exec (.sampleArrival .platter v) s = .next (endEvent { s with
          platter := s.platter.steadied .platter v fine
          scale := { s.scale with occupancy := occ }
          link := moved occ s.link })) ∧
      ∀ r, s.sale.current = .opened r → occ ≠ .locked → 20 * p.e1 ≤ net → net ≤ p.max →
        (9999999 < price → ends .priceLimit) ∧
        (price ≤ 9999999 → 120 ≤ r.basket.length ∨ r.total + price < -99999999 ∨ 99999999 < r.total + price →
          ends .totalLimit) ∧
        (price ≤ 9999999 → r.basket.length < 120 → -99999999 ≤ r.total + price → r.total + price ≤ 99999999 →
          (∀ e ∈ r.basket, e.number ≠ number) →
          let tol := max s.store.live.bagTolAbs (netG.toNat * s.store.live.bagTolPct / 100)
          let completes : BaggingStatus → Monitor → Prop := fun st m =>
            exec (.sampleArrival .platter v) s = .next (endEvent { s with
              platter := s.platter.steadied .platter v fine
              scale :=
                { tareT := if s.store.live.tarePerItem then 0 else s.scale.tareT
                  occupancy := .locked
                  weigh := none }
              sale := { s.sale with
                current := .opened { r with
                  basket := r.basket ++
                    [{ number := number
                       kind := .weighed
                       description := w.description
                       amount := price
                       voided := false
                       voids := none
                       weighing := some
                         { netG := netG
                           tareG := s.scale.tareT / 10
                           divisionG := p.divisionAt (fine - s.scale.tareT) / 10
                           unitPrice := w.unitPrice
                           profile := p }
                       expected := some netG.toNat
                       tolerance := none
                       status := st }]
                  total := r.total + price } }
              monitor := m
              link := (moved .locked (s.link.push (.entryBagging number st none .appended))).push
                (.weighDone .ok (some number) (some netG) (some price)) })
          (∀ u, s.monitor.unclaimed = some u → u.amount ≤ netG.toNat + tol → netG.toNat ≤ u.amount + tol →
            completes .bagged { s.monitor with unclaimed := none }) ∧
          ((∀ u, s.monitor.unclaimed = some u → netG.toNat + tol < u.amount ∨ u.amount + tol < netG.toNat) →
            completes .pending { s.monitor with
              expectations := insertExpectation
                { entry := number, direction := .add, weight := netG.toNat, tolerance := tol
                  createdAt := s.now, order := s.monitor.nextOrder
                  timer := some (s.store.live.bagTimeout * 1000) } s.monitor.expectations
              nextOrder := s.monitor.nextOrder + 1 }))

/-- A settled bag change (R24, R25, R75, R79 to R83, R86 to R88) at a stable READY output of a bag channel held at one
value. S becomes the new gross. A change within the threshold, one in IDLE and one while SUSPENDED moves S alone. A change
up is tried against ITEM_REMOVED and UNKNOWN_REMOVAL exceptions, then the ADD expectations, oldest first, and otherwise
joins the unclaimed delta with its one re-check, or with `bag_grace` 0 becomes UNEXPECTED_ITEM. A change down is tried
against the unclaimed delta, UNEXPECTED_ITEM exceptions, the REMOVE expectations and the BAGGED entries, newest first, and
is otherwise UNKNOWN_REMOVAL. The first match is taken, with its reports in order; nothing that is not named moves. -/
def Obligations.BagChangeMeetsExpectation : Prop :=
  ∀ (s : State) (v fine g old : Int), s.powered = true → s.steady .bag v fine → g = roundAway fine 50 * 5 →
    s.settledS = some old →
    let m := s.monitor
    let settled : State := { s with bag := s.bag.steadied .bag v fine, settledS := some g }
    (s.sale.current = .idle ∨ (g - old).natAbs ≤ s.store.live.bagThreshold ∨ m.suspended = true →
      exec (.sampleArrival .bag v) s = .next (endEvent settled)) ∧
    ∀ r : SaleRecord, s.sale.current = .opened r ∨ s.sale.current = .tender r → m.suspended = false →
      s.store.live.bagThreshold < (g - old).natAbs →
      let d := (g - old).natAbs
      let meets : Nat → Nat → Nat → Prop := fun d w t => d ≤ w + t ∧ w ≤ d + t
      let tol : Nat → Nat := fun w => max s.store.live.bagTolAbs (w * s.store.live.bagTolPct / 100)
      let meetsEntry : Entry → Prop := fun e => ∃ w, e.expected = some w ∧ meets d w (e.tolerance.getD (tol w))
      let meetsDelta : BagException → Prop := fun x => ∃ a, x.delta = some a ∧ meets d a.natAbs (tol a.natAbs)
      let marked : Nat → BaggingStatus → CurrentSale := fun n st => s.sale.current.mapRecord fun r =>
        { r with basket := r.basket.map fun e => if e.number = n then { e with status := st } else e }
      let told : Entry → BaggingStatus → Link := fun e st => s.link.push (.entryBagging e.number st (some e.status) .matched)
      let calm : CurrentSale → Monitor → Link → Prop := fun sale m' l =>
        exec (.sampleArrival .bag v) s = .next (endEvent
          { settled with sale := { s.sale with current := sale }, monitor := m', link := l })
      let alerted : CurrentSale → Monitor → Link → Prop := fun sale m' l =>
        ∃ t, exec (.sampleArrival .bag v) s = .next (endEvent
            { settled with sale := { s.sale with current := sale }, monitor := m', link := l, tone := t }) ∧
          t.bagAlertHeld = (!m'.exceptions.isEmpty || m'.suspended)
      let without : BagException → List BagException := fun x => m.exceptions.filter fun y => y.id != x.id
      let cleared : CurrentSale → Monitor → Link → BagException → Prop := fun sale m' l x =>
        alerted sale { m' with exceptions := without x } (l.push (.bagException .cleared (some x.id) (some x.kind)
          x.entry x.delta (some .matched) (without x).length false none))
      let raised : CurrentSale → Monitor → Link → ExceptionKind → Option Nat → Int → Prop := fun sale m' l k e a =>
        (m.exceptions.length < 8 → alerted sale
          { m' with
            exceptions := m.exceptions ++ [{ id := m.nextExceptionId, kind := k, entry := e, delta := some a }]
            nextExceptionId := nextFreeId (m.exceptions.map BagException.id ++ [m.nextExceptionId])
              (m.exceptions.length + 2) m.nextExceptionId }
          (l.push (.bagException .raised (some m.nextExceptionId) (some k) e (some a) none (m.exceptions.length + 1)
            false none))) ∧
        (8 ≤ m.exceptions.length → alerted sale { m' with suspended := true, unclaimed := none }
          (l.push (.bagException .suspended none (some k) e (some a) none m.exceptions.length true none)))
      let oldestOf : (BagException → Prop) → BagException → Prop := fun p x =>
        ∃ pre post, m.exceptions = pre ++ x :: post ∧ p x ∧ ∀ y ∈ pre, ¬p y
      let fits : Direction → Nat → Expectation → Prop := fun dir d y => y.direction = dir ∧ meets d y.weight y.tolerance
      let oldest : Direction → Nat → Expectation → Prop := fun dir d x =>
        x ∈ m.expectations ∧ fits dir d x ∧ ∀ y ∈ m.expectations, fits dir d y → y = x ∨ x.order < y.order
      let met : Expectation → Option Unclaimed → BaggingStatus → ExceptionKind → Prop := fun x u st k =>
        let m' := { m with expectations := m.expectations.filter fun y => y.entry != x.entry, unclaimed := u }
        ∀ e, findEntry x.entry r.basket = some e →
          ((∀ z ∈ m.exceptions, ¬(z.kind = k ∧ z.entry = some x.entry)) →
            calm (marked x.entry st) m' (told e st)) ∧
          (∀ z, oldestOf (fun z => z.kind = k ∧ z.entry = some x.entry) z →
            cleared (marked x.entry st) m' (told e st) z)
      let back : BagException → Prop := fun x =>
        x.kind = .itemRemoved ∧ ∃ n e, x.entry = some n ∧ findEntry n r.basket = some e ∧ meetsEntry e
      let restored : BagException → Prop := fun x => x.kind = .unknownRemoval ∧ meetsDelta x
      let lifted : BagException → Prop := fun x => x.kind = .unexpectedItem ∧ meetsDelta x
      (old < g →
        (∀ x n e, oldestOf back x → x.entry = some n → findEntry n r.basket = some e →
          cleared (marked n .bagged) m (told e .bagged) x) ∧
        ((∀ x ∈ m.exceptions, ¬back x) →
          (∀ x, oldestOf restored x → cleared s.sale.current m s.link x) ∧
          ((∀ x ∈ m.exceptions, ¬restored x) →
            (∀ x, oldest .add d x → met x m.unclaimed .bagged .itemNotBagged) ∧
            ((∀ x ∈ m.expectations, ¬fits .add d x) →
              let u := min 65535 (((m.unclaimed.map Unclaimed.amount).getD 0) + d)
              (s.store.live.bagGrace ≠ 0 →
                (∀ x, oldest .add u x → met x none .bagged .itemNotBagged) ∧
                ((∀ x ∈ m.expectations, ¬fits .add u x) →
                  calm s.sale.current
                    { m with unclaimed := some { amount := u, grace := s.store.live.bagGrace * 1000 } } s.link)) ∧
              (s.store.live.bagGrace = 0 → ∀ tried, tried = (if m.unclaimed = none then d else u) →
                (∀ x, oldest .add tried x → met x none .bagged .itemNotBagged) ∧
                ((∀ x ∈ m.expectations, ¬fits .add tried x) →
                  raised s.sale.current { m with unclaimed := none } s.link .unexpectedItem none (tried : Int))))))) ∧
      (g < old →
        (∀ u, m.unclaimed = some u → meets d u.amount (tol u.amount) →
          calm s.sale.current { m with unclaimed := none } s.link) ∧
        ((∀ u, m.unclaimed = some u → ¬meets d u.amount (tol u.amount)) →
          (∀ x, oldestOf lifted x → cleared s.sale.current m s.link x) ∧
          ((∀ x ∈ m.exceptions, ¬lifted x) →
            (∀ x, oldest .remove d x → met x m.unclaimed .cleared .voidNotRemoved) ∧
            ((∀ x ∈ m.expectations, ¬fits .remove d x) →
              (∀ e pre post, r.basket = pre ++ e :: post → e.status = .bagged → meetsEntry e →
                (∀ y ∈ post, ¬(y.status = .bagged ∧ meetsEntry y)) → findEntry e.number r.basket = some e →
                raised (marked e.number .removed) m (told e .removed) .itemRemoved (some e.number) (-(d : Int))) ∧
              ((∀ y ∈ r.basket, ¬(y.status = .bagged ∧ meetsEntry y)) →
                raised s.sale.current m s.link .unknownRemoval none (-(d : Int)))))))

/-- EXCITATION_LOST puts a channel in FAULT with its converter stopped and its rings emptied, and ends the platter's weigh
request with CHANNEL_FAULT (R13, R16, R47); EXCITATION_RETURN starts a FAULT channel anew (R14, R3). Each changes nothing
where it cannot arise (log 3). -/
def Obligations.ExcitationRules : Prop :=
  ∀ (s : State) (ch : ChannelId), s.powered = true →
    let c := s.channel ch
    let gone : Channel :=
      { c with
        condition := .fault, converterOn := false, filterRing := [], filterSum := 0, latest := none
        stabilityRing := [], trackingCount := 0 }
    let left := s.link.push (.channelState ch .fault c.condition)
    let begun : ChannelCondition := if c.record.valid ch then .starting else .uncalibrated
    (c.condition = .fault → exec (.excitationLost ch) s = .next (endEvent s)) ∧
    (c.condition ≠ .fault → ch = .bag ∨ s.scale.weigh = none →
      exec (.excitationLost ch) s = .next (endEvent { s.withChannel ch gone with link := left })) ∧
    (c.condition ≠ .fault → ch = .platter → s.scale.weigh ≠ none →
      exec (.excitationLost ch) s = .next (endEvent { s with
        platter := gone
        scale := { s.scale with weigh := none }
        link := left.push (.weighDone .channelFault none none none) })) ∧
    (c.condition = .fault →
      exec (.excitationReturn ch) s = .next (endEvent
        { s.withChannel ch
            { c with
              condition := begun, converterOn := true, settling := 2, filterRing := [], filterSum := 0
              latest := none, stabilityRing := [], trackingCount := 0 } with
          link := s.link.push (.channelState ch begun .fault) })) ∧
    (c.condition ≠ .fault → exec (.excitationReturn ch) s = .next (endEvent s))

/-! ### Sale (chapter 3) -/

/-- A sale opens, goes to payment and back, each with one SALE_STATE and each refused on the first check that fails (R53,
R60, R61), and the attendant switch moves the switch state alone (R52). -/
def Obligations.SaleOpensAndMoves : Prop :=
  ∀ (s : State) (tag : Byte) (n : Wide) (r : SaleRecord) (on : Bool), s.accepts →
    let goes : CurrentSale → Report → State := fun c x =>
      { s with sale := { s.sale with current := c }, link := s.link.push x }
    (s.sale.current = .idle → 1 ≤ n.toInt → n.toInt ≤ 9999999 →
      (s.store.live.drawerCloseRequired = false ∨ s.store.live.drawerSensePresent = false ∨ s.drawer.state = .closed →
        exec (.openSale tag n) s = .next
          ((goes (.opened { number := n.toInt, basket := [], total := 0, tenders := [] })
            (.saleState .opened .idle .opened n.toInt 0 none)).replies 0x0B tag .ok .empty)) ∧
      (s.store.live.drawerCloseRequired = true → s.store.live.drawerSensePresent = true → s.drawer.state ≠ .closed →
        exec (.openSale tag n) s = .next (s.replies 0x0B tag .drawerOpen .empty))) ∧
    (s.sale.current ≠ .idle → exec (.openSale tag n) s = .next (s.replies 0x0B tag .badState .empty)) ∧
    (s.sale.current = .idle → n.toInt < 1 ∨ 9999999 < n.toInt →
      exec (.openSale tag n) s = .next (s.replies 0x0B tag .badValue .empty)) ∧
    ((∀ x, s.sale.current ≠ .opened x) →
      exec (.beginTender tag) s = .next (s.replies 0x0E tag .badState .empty)) ∧
    ((∀ x, s.sale.current ≠ .tender x) →
      exec (.resumeSale tag) s = .next (s.replies 0x0F tag .badState .empty)) ∧
    (s.sale.current = .opened r →
      (s.monitor.outstanding = false → 0 ≤ r.total →
        exec (.beginTender tag) s = .next
          ((goes (.tender r) (.saleState .tender .opened .tenderBegun r.number r.total none)).replies
            0x0E tag .ok .empty)) ∧
      (s.monitor.outstanding = true →
        exec (.beginTender tag) s = .next (s.replies 0x0E tag .exceptionPending .empty)) ∧
      (s.monitor.outstanding = false → r.total < 0 →
        exec (.beginTender tag) s = .next (s.replies 0x0E tag .badValue .empty))) ∧
    (s.sale.current = .tender r →
      (r.tenders = [] →
        exec (.resumeSale tag) s = .next
          ((goes (.opened r) (.saleState .opened .tender .resumed r.number r.total none)).replies
            0x0F tag .ok .empty)) ∧
      (r.tenders ≠ [] → exec (.resumeSale tag) s = .next (s.replies 0x0F tag .badState .empty))) ∧
    exec (.attendantSwitch on) s = .next (endEvent { s with attendant := on })

/-- ADD_ITEM appends a SCANNED entry (R54 to R56, R75 to R77): one without an expected weight has status NONE; one with it
is BAGGED when the unclaimed delta matches it, which is then discarded, and otherwise PENDING with a listed expectation;
one report names the status. VOID_ENTRY marks an entry and appends the VOID entry that takes its amount back (R58), and the
monitor acts by the entry's status (R59, R89): a PENDING or OVERDUE entry is CLEARED with its expectation and a REMOVED one
alone, each with the exception that names it; a BAGGED one awaits its removal; any other stays. Each is refused on the
first check that fails (R56, R58). -/
def Obligations.ItemsAppendedAndVoided : Prop :=
  ∀ (s : State) (tag n : Byte) (d : List Byte) (a : Wide) (w x : Option Half) (r : SaleRecord), s.accepts →
    let m := s.monitor
    let number := r.basket.length + 1
    let tol : Nat → Nat := fun v => max s.store.live.bagTolAbs (v * s.store.live.bagTolPct / 100)
    let adds : Status → Prop := fun st => exec (.addItem tag d a w x) s = .next (s.replies 0x0C tag st .empty)
    let voids : Status → Prop := fun st => exec (.voidEntry tag n) s = .next (s.replies 0x0D tag st .empty)
    let holds : List Entry → Int → Monitor → Link → State := fun b total m' l =>
      { s with
        sale := { s.sale with current := .opened { r with basket := b, total := total } }
        monitor := m'
        link := l }
    let listed : Nat → Direction → Nat → Nat → Monitor := fun e dir v t =>
      { m with
        expectations := insertExpectation
          { entry := e, direction := dir, weight := v, tolerance := t, createdAt := s.now, order := m.nextOrder
            timer := some (s.store.live.bagTimeout * 1000) } m.expectations
        nextOrder := m.nextOrder + 1 }
    let inRange : Int → Prop := fun t => -99999999 ≤ t ∧ t ≤ 99999999
    ((∀ r, s.sale.current ≠ .opened r) → adds .badState ∧ voids .badState) ∧
    (s.sale.current = .opened r →
      let fits := d.length ≤ 24 ∧ -9999999 ≤ a.toInt ∧ a.toInt ≤ 9999999 ∧
        (∀ t ∈ x, w ≠ none ∧ 1 ≤ t.toNat ∧ t.toNat ≤ 2000) ∧ ∀ v ∈ w, 1 ≤ v.toNat ∧ v.toNat ≤ 30000
      let item : BaggingStatus → List Entry := fun st => r.basket ++
        [{ number := number
           kind := .scanned
           description := d.map fun b => if 0x20 ≤ b.toNat ∧ b.toNat ≤ 0x7E then b else 0x3F
           amount := a.toInt
           voided := false
           voids := none
           weighing := none
           expected := w.map BitVec.toNat
           tolerance := x.map BitVec.toNat
           status := st }]
      let total := r.total + a.toInt
      let added : State → Prop := fun t =>
        exec (.addItem tag d a w x) s = .next (t.replies 0x0C tag .ok (.entryTotal number total))
      (¬fits → adds .badValue) ∧
      (fits → 120 ≤ r.basket.length → adds .queueFull) ∧
      (fits → r.basket.length < 120 → ¬inRange total → adds .limit) ∧
      (fits → r.basket.length < 120 → inRange total →
        (w = none → added (holds (item .none) total m s.link)) ∧
        (∀ v t, w = some v → t = (x.map BitVec.toNat).getD (tol v.toNat) → (∀ e ∈ r.basket, e.number ≠ number) →
          (∀ u, m.unclaimed = some u → u.amount ≤ v.toNat + t → v.toNat ≤ u.amount + t →
            added (holds (item .bagged) total { m with unclaimed := none }
              (s.link.push (.entryBagging number .bagged none .appended)))) ∧
          ((∀ u, m.unclaimed = some u → v.toNat + t < u.amount ∨ u.amount + t < v.toNat) →
            added (holds (item .pending) total (listed number .add v.toNat t)
              (s.link.push (.entryBagging number .pending none .appended))))))) ∧
    (s.sale.current = .opened r → s.attendant = false → voids .notAttended) ∧
    (s.sale.current = .opened r → s.attendant = true →
      (findEntry n.toNat r.basket = none → voids .notFound) ∧
      ∀ e, findEntry n.toNat r.basket = some e →
        let total := r.total - e.amount
        (e.kind = .void ∨ e.voided = true → voids .badValue) ∧
        (e.kind ≠ .void → e.voided = false → 120 ≤ r.basket.length → voids .queueFull) ∧
        (e.kind ≠ .void → e.voided = false → r.basket.length < 120 → ¬inRange total → voids .limit) ∧
        (e.kind ≠ .void → e.voided = false → r.basket.length < 120 → inRange total → n.toNat ≤ r.basket.length →
          let basket : BaggingStatus → List Entry := fun st =>
            (r.basket.map fun y => if y.number = n.toNat then { y with voided := true, status := st } else y) ++
              [{ number := number, kind := .void, description := e.description, amount := -e.amount, voided := false
                 voids := some n.toNat, weighing := none, expected := none, tolerance := none, status := .none }]
          let voided : State → Prop := fun t =>
            exec (.voidEntry tag n) s = .next (t.replies 0x0D tag .ok (.entryTotal number total))
          let told : BaggingStatus → Link := fun st =>
            s.link.push (.entryBagging n.toNat st (some e.status) .voided)
          let clears : ExceptionKind → Monitor → Prop := fun k m' =>
            ((∀ z ∈ m.exceptions, ¬(z.kind = k ∧ z.entry = some n.toNat)) →
              voided (holds (basket .cleared) total m' (told .cleared))) ∧
            ∀ z pre post, m.exceptions = pre ++ z :: post → z.kind = k → z.entry = some n.toNat →
              (∀ y ∈ pre, ¬(y.kind = k ∧ y.entry = some n.toNat)) →
              ∀ left, left = m.exceptions.filter (fun y => y.id != z.id) →
                ∃ t : Tone, t.bagAlertHeld = (!left.isEmpty || m.suspended) ∧
                  voided { holds (basket .cleared) total { m' with exceptions := left }
                    ((told .cleared).push (.bagException .cleared (some z.id) (some k) (some n.toNat) z.delta
                      (some .voided) left.length m.suspended none)) with tone := t }
          ((∀ y ∈ r.basket, y.number = n.toNat → y = e) →
            e.status ∉ [BaggingStatus.pending, .overdue, .bagged, .removed] →
            voided (holds (basket e.status) total m s.link)) ∧
          (e.status = .pending ∨ e.status = .overdue → clears .itemNotBagged
            { m with expectations := m.expectations.filter fun y => y.entry != n.toNat }) ∧
          (e.status = .removed → clears .itemRemoved m) ∧
          (∀ v, e.status = .bagged → e.expected = some v →
            voided (holds (basket .awaitRemoval) total (listed n.toNat .remove v (e.tolerance.getD (tol v)))
              (told .awaitRemoval)))))

/-- Tenders are taken (R63 to R65, R115, R117): ADD_CASH appends an ACCEPTED tender; ADD_CARD_TENDER appends a PENDING
one with the masked account and attaches the HELD card; CARD_DECISION approves or removes the PENDING one and empties the
slot. Each is refused on the first check that fails. -/
def Obligations.TendersTaken : Prop :=
  ∀ (s : State) (tag d : Byte) (a : Wide) (r : SaleRecord), s.accepts →
    let with' : List Tender → CardSlot → State := fun ts x =>
      { s with
        sale := { s.sale with current := .tender { r with tenders := ts } }
        reader := { s.reader with slot := x } }
    let owed := r.total - sumOf (r.tenders.map Tender.amount)
    ((∀ x, s.sale.current ≠ .tender x) →
      exec (.addCash tag a) s = .next (s.replies 0x10 tag .badState .empty) ∧
      exec (.addCardTender tag a) s = .next (s.replies 0x11 tag .badState .empty) ∧
      exec (.cardDecision tag d) s = .next (s.replies 0x12 tag .badState .empty)) ∧
    (s.sale.current = .tender r →
      (1 ≤ a.toInt → a.toInt ≤ 99999999 → r.tenders.length < 8 →
        exec (.addCash tag a) s = .next
          ((with' (r.tenders ++ [{ kind := .cash, amount := a.toInt, state := .accepted, masked := none }])
            s.reader.slot).replies 0x10 tag .ok
              (.positionSum (r.tenders.length + 1) (sumOf (r.tenders.map Tender.amount) + a.toInt)))) ∧
      (a.toInt < 1 ∨ 99999999 < a.toInt → exec (.addCash tag a) s = .next (s.replies 0x10 tag .badValue .empty)) ∧
      (1 ≤ a.toInt → a.toInt ≤ 99999999 → 8 ≤ r.tenders.length →
        exec (.addCash tag a) s = .next (s.replies 0x10 tag .queueFull .empty)) ∧
      (∀ x m h, r.cardPending = false → s.reader.slot = .held x m h →
        (1 ≤ a.toInt → a.toInt ≤ owed → r.tenders.length < 8 →
          exec (.addCardTender tag a) s = .next
            ((with' (r.tenders ++ [{ kind := .card, amount := a.toInt, state := .pending, masked := some m }])
              (.attached x m)).replies 0x11 tag .ok (.positionMasked (r.tenders.length + 1) m))) ∧
        (a.toInt < 1 ∨ owed < a.toInt →
          exec (.addCardTender tag a) s = .next (s.replies 0x11 tag .badValue .empty)) ∧
        (1 ≤ a.toInt → a.toInt ≤ owed → 8 ≤ r.tenders.length →
          exec (.addCardTender tag a) s = .next (s.replies 0x11 tag .queueFull .empty))) ∧
      (r.cardPending = false → s.reader.slot.isHeld = false →
        exec (.addCardTender tag a) s = .next (s.replies 0x11 tag .noCard .empty)) ∧
      (r.cardPending = false → exec (.cardDecision tag d) s = .next (s.replies 0x12 tag .badState .empty)) ∧
      (r.cardPending = true →
        exec (.addCardTender tag a) s = .next (s.replies 0x11 tag .badState .empty) ∧
        (2 ≤ d.toNat → exec (.cardDecision tag d) s = .next (s.replies 0x12 tag .badValue .empty)) ∧
        (∀ ts, ts = (r.tenders.map fun t => if t.state = .pending then { t with state := .approved } else t) →
          exec (.cardDecision tag 0) s = .next
            ((with' ts .empty).replies 0x12 tag .ok (.tenderSum (sumOf (ts.map Tender.amount))))) ∧
        (∀ ts, ts = (r.tenders.filter fun t => t.state != .pending) →
          exec (.cardDecision tag 1) s = .next
            ((with' ts .empty).replies 0x12 tag .ok (.tenderSum (sumOf (ts.map Tender.amount)))))))

/-- A sale ends (R66 to R68, R93, R117): CLOSE_SALE moves the record to the closed slot with its change due and a new
ORIGINAL job at the tail of the Print Queue, and with a CASH tender kicks the drawer; ABANDON_SALE empties the monitor and
the card slot and keeps the closed slot. Both end a weigh request, end the decoding of a swipe, and leave the scale, the
stored settings and the attendant state as they are. The reports of a close come in the order of R67, those of an abandon
in that of R68. Each is refused on the first check that fails. -/
def Obligations.SaleEnds : Prop :=
  ∀ (s : State) (tag : Byte) (r : SaleRecord), s.accepts →
    let closes : Status → Prop := fun st => exec (.closeSale tag) s = .next (s.replies 0x13 tag st .empty)
    let abandons : Status → Prop := fun st => exec (.abandonSale tag) s = .next (s.replies 0x14 tag st .empty)
    let tendered := sumOf (r.tenders.map Tender.amount)
    let backlog := (∃ c, s.sale.closed = some c ∧ c.receipt = .pending) ∨ ∃ j ∈ s.queue.jobs, j.kind = .copy
    let weighEnds : Link → Link := fun l =>
      if s.scale.weigh.isSome then l.push (.weighDone .saleEnded none none none) else l
    let reader : CardSlot → Reader := fun x =>
      if s.reader.gap = .swipe ∧ s.reader.decoded = true then
        { s.reader with
          decoded := false
          alpha := { s.reader.alpha with bits := [] }
          numeric := { s.reader.numeric with bits := [] }
          slot := x }
      else { s.reader with slot := x }
    ((∀ x, s.sale.current ≠ .tender x) → closes .badState) ∧
    (s.sale.current = .tender r →
      (r.cardPending = true → closes .badState) ∧
      (r.cardPending = false → s.monitor.outstanding = true → closes .exceptionPending) ∧
      (r.cardPending = false → s.monitor.outstanding = false → tendered < r.total → closes .badValue) ∧
      (r.cardPending = false → s.monitor.outstanding = false → r.total ≤ tendered → backlog →
        closes .printerBacklog) ∧
      (r.cardPending = false → s.monitor.outstanding = false → r.total ≤ tendered → ¬backlog →
        ∃ t, exec (.closeSale tag) s = .next t ∧
          t.sale =
            { current := .idle
              closed := some { record := r, changeDue := tendered - r.total, receipt := .pending } } ∧
          t.queue.jobs.map Job.id = s.queue.jobs.map Job.id ++ [s.queue.nextJobId] ∧
          t.queue.jobs.map Job.kind = s.queue.jobs.map Job.kind ++ [.original] ∧
          t.scale = { s.scale with weigh := none } ∧ t.monitor = { s.monitor with unclaimed := none } ∧
          t.reader = reader (if s.reader.slot.isHeld then .empty else s.reader.slot) ∧
          t.link.reply = some
            { kind := 0x93, tag := tag, status := .ok, fields := .change (tendered - r.total) } ∧
          t = { s with
            scale := t.scale, sale := t.sale, monitor := t.monitor, reader := t.reader, drawer := t.drawer
            supply := t.supply, queue := t.queue, engine := t.engine, link := t.link } ∧
          ((s.queue.jobs = [] → s.engine.causes.held = false ∧
              s.supply.waiting = { drawer := none, cutter := none, motor := none, head := none }) →
            ∀ cash, cash = (r.tenders.any fun x => x.kind == .cash) →
            (cash = false → t.drawer = s.drawer) ∧
            (cash = true → s.drawer.state ≠ .closed → t.drawer = s.drawer) ∧
            (cash = true → s.drawer.state = .closed →
              (t.drawer.state = .pullIn ∧ t.drawer.attempts = 1 ∧
                t.drawer.phaseTimer = some s.store.live.drawerPullMs ∧
                t.supply.granted.drawer = s.supply.granted.drawer + 14) ∨
              (t.drawer.state = .waitSupply ∧ t.drawer.attempts = 0 ∧ t.supply.waiting.drawer = some 14 ∧
                t.supply.granted.drawer = s.supply.granted.drawer)) ∧
            ∃ j : Job, t.queue.jobs.getLast? = some j ∧
              j.state = (if s.queue.jobs = [] ∧ s.engine.condition ≠ .fault then .printing else .queued) ∧
              ∀ printed l, printed = (weighEnds (s.link.push
                  (.saleState .idle .tender .closed r.number r.total (some (tendered - r.total))))).push
                  (.printJob s.queue.nextJobId .original j.state none .accepted none (some r.number) 0 j.lineCount) →
                l = (if cash = false then printed
                  else if s.drawer.state = .closed then
                    printed.push (.drawerState t.drawer.state .closed .kick t.drawer.attempts (some .closeSale))
                  else printed.push (.drawerState s.drawer.state s.drawer.state .kickSkipped s.drawer.attempts
                    (some .closeSale))) →
                t.link = l.answered 0x13 tag .ok (.change (tendered - r.total))))) ∧
    (s.sale.current = .idle → abandons .badState) ∧
    (s.sale.current = .opened r ∨ s.sale.current = .tender r →
      (s.attendant = false → abandons .notAttended) ∧
      (s.attendant = true → r.tenders ≠ [] → abandons .badState) ∧
      (s.attendant = true → r.tenders = [] →
        ∃ tone : Tone, (s.monitor.alerting = false → s.tone.bagAlertHeld = false → tone = s.tone) ∧
          tone.bagAlertHeld = false ∧
          exec (.abandonSale tag) s = .next (({ s with
            scale := { s.scale with weigh := none }
            sale := { s.sale with current := .idle }
            monitor := { s.monitor with expectations := [], unclaimed := none, exceptions := [], suspended := false }
            reader := reader .empty
            tone := tone
            link :=
              let l := weighEnds (s.link.push
                (.saleState .idle s.sale.current.state .abandoned r.number r.total none))
              if s.monitor.outstanding = true ∨ s.monitor.unclaimed ≠ none then
                l.push (.bagException .allCleared none none none none (some .saleEnded) 0 false
                  (some (0, s.monitor.exceptions.length)))
              else l } : State).replies 0x14 tag .ok .empty)))

/-- REPRINT (R69, R70): of a DONE receipt one COPY job, of an ABORTED one an ORIGINAL job with the slot
RECEIPT_PENDING again; of an empty or PENDING slot BAD_STATE; with three TEXT and COPY jobs QUEUE_FULL. The job keeps the
receipt settings as they stand at its acceptance (R156), and the lines it prints, one at each place of its cursor, are the
receipt of R158 to R161 with its amounts and weights written by R156 and R157. The bounds are those the record keeps. -/
def Obligations.ReprintByReceiptState : Prop :=
  let lines : JobKind → ReceiptSettings → ClosedSale → List LineRecord := fun kind v c =>
    let chars : String → List Byte := fun x => x.toList.map fun y => BitVec.ofNat 8 y.toNat
    let digits : Nat → List Byte := fun n =>
      if n = 0 then [0x30] else (Nat.digits 10 n).reverse.map fun k => BitVec.ofNat 8 (0x30 + k)
    let padded : Nat → Nat → List Byte := fun w n =>
      List.replicate (w - (digits n).length) 0x30 ++ digits n
    let amount : Int → List Byte := fun a =>
      (if a < 0 then [0x2D] else []) ++ digits (a.natAbs / 10 ^ v.decimals) ++
        (if v.decimals = 0 then [] else 0x2E :: padded v.decimals (a.natAbs % 10 ^ v.decimals))
    let kilograms : Int → List Byte := fun g => digits (g.toNat / 1000) ++ 0x2E :: padded 3 (g.toNat % 1000)
    let plain : List Byte → LineRecord := fun x => .text x false false false .left
    let pair : List Byte → Int → List Byte := fun x a =>
      let cut := x.take (31 - (amount a).length)
      cut ++ List.replicate (32 - cut.length - (amount a).length) 0x20 ++ amount a
    let banner : List (List Byte) → List LineRecord := fun ts =>
      (ts.filter fun t => !t.isEmpty).map fun t => .text t false false false .centre
    let entry : Entry → List LineRecord := fun e =>
      match e.kind, e.weighing with
      | .void, _ => [plain (pair (chars "VOID " ++ e.description) e.amount)]
      | .weighed, some w =>
        [plain (pair e.description e.amount),
          plain (chars "  " ++ kilograms w.netG ++ chars " kg @ " ++ amount w.unitPrice ++ chars "/kg")] ++
          if w.tareG = 0 then [] else [plain (chars "  tare " ++ kilograms w.tareG ++ chars " kg")]
      | _, _ => [plain (pair e.description e.amount)]
    let tender : Tender → LineRecord := fun t =>
      match t.kind, t.masked with
      | .card, some m => plain (pair (chars "CARD ****" ++ m.last4.map fun k => BitVec.ofNat 8 (0x30 + k % 10)) t.amount)
      | .card, none => plain (pair (chars "CARD ****") t.amount)
      | .cash, _ => plain (pair (chars "CASH") t.amount)
    banner v.headers ++ [plain (chars "SALE " ++ padded 7 c.record.number.toNat)] ++
      (if kind = .copy then [.text (chars "COPY") true false false .centre] else []) ++
      c.record.basket.flatMap entry ++ [plain (List.replicate 32 0x2D)] ++
      [.text (pair (chars "TOTAL") c.record.total) false true false .left] ++ c.record.tenders.map tender ++
      (if 0 < c.changeDue then [plain (pair (chars "CHANGE") c.changeDue)] else []) ++ banner v.trailers ++
      [.feed 4, .cut]
  let small : Int → Prop := fun a => a.natAbs ≤ 799999992
  let lawful : ClosedSale → Prop := fun c =>
    small c.record.total ∧ small c.changeDue ∧ (∀ t ∈ c.record.tenders, small t.amount) ∧ c.record.number ≤ 9999999 ∧
      ∀ e ∈ c.record.basket, small e.amount ∧ ∀ w ∈ e.weighing, small w.netG ∧ small w.tareG ∧ small w.unitPrice
  (∀ (s : State) (j : Job) (c : ClosedSale) (v : ReceiptSettings) (i : Nat), s.sale.closed = some c → lawful c →
    j.settings = some v → jobLine s { j with cursor := i + 1 } = (lines j.kind v c)[i]?) ∧
  ∀ (s : State) (tag : Byte), s.accepts →
    (s.sale.closed = none → exec (.reprint tag) s = .next (s.replies 0x15 tag .badState .empty)) ∧
    (∀ c, s.sale.closed = some c →
      (c.receipt = .pending → exec (.reprint tag) s = .next (s.replies 0x15 tag .badState .empty)) ∧
      (c.receipt = .done → 3 ≤ s.queue.textAndCopy →
        exec (.reprint tag) s = .next (s.replies 0x15 tag .queueFull .empty)) ∧
      (∀ kind, (c.receipt = .done ∧ s.queue.textAndCopy < 3 ∧ kind = .copy) ∨
          (c.receipt = .aborted ∧ kind = .original) →
        ∃ t, exec (.reprint tag) s = .next t ∧
          t.sale = { s.sale with closed := some { c with
            receipt := if kind = .copy then .done else .pending } } ∧
          t.queue.jobs.map Job.id = s.queue.jobs.map Job.id ++ [s.queue.nextJobId] ∧
          t.queue.jobs.map Job.kind = s.queue.jobs.map Job.kind ++ [kind] ∧
          (∃ (j : Job) (v : ReceiptSettings), t.queue.jobs.getLast? = some j ∧ j.cursor = 1 ∧ j.settings = some v ∧
            j.saleNumber = some c.record.number ∧ v.decimals = s.store.live.amountDecimals ∧
            v.headers = [s.store.live.header1, s.store.live.header2, s.store.live.header3, s.store.live.header4] ∧
            v.trailers =
              [s.store.live.trailer1, s.store.live.trailer2, s.store.live.trailer3, s.store.live.trailer4] ∧
            (lawful c → j.lineCount = (lines kind v c).length)) ∧
          t.link.reply = some { kind := 0x95, tag := tag, status := .ok, fields := .jobId s.queue.nextJobId } ∧
          t = { s with
            sale := t.sale, drawer := t.drawer, supply := t.supply, queue := t.queue, engine := t.engine
            link := t.link }))

/-! ### Reads of the other blocks; bagging, card, drawer and tone (chapters 4 to 9) -/

/-- READ_BAGGING, READ_CARD, READ_DRAWER, READ_SUPPLY, READ_PRINT_QUEUE and READ_PRINTER return what the blocks hold and
change nothing (R96, R119, R132, R145, R163, R181): at most twelve expectations from the position asked for on. That the
row position is the count of the line's rows ended (log 14) and that the line held stays in FAULT (log 34) are the model's
readings. -/
def Obligations.ReadsOfBlocks : Prop :=
  ∀ (s : State) (tag n : Byte), s.accepts →
    let listed := s.monitor.expectations.length
    (1 ≤ n.toNat ∧ n.toNat ≤ listed ∨ n.toNat = 1 ∧ listed = 0 →
      exec (.readBagging tag n) s = .next (s.replies 0x1C tag .ok
        (.bagging s.monitor.suspended s.tone.bagAlertHeld listed
          (((s.monitor.expectations.drop (n.toNat - 1)).take 12).map fun x =>
            { entry := x.entry, direction := x.direction, weight := x.weight, tolerance := x.tolerance
              timer := x.timer })
          s.monitor.unclaimed s.monitor.exceptions s.monitor.nextExceptionId))) ∧
    (n.toNat = 0 ∨ listed < n.toNat ∧ 1 < n.toNat →
      exec (.readBagging tag n) s = .next (s.replies 0x1C tag .notFound .empty)) ∧
    (∀ fields, fields = (match s.reader.slot with
        | .empty => ReplyFields.cardSlot 0 none none none s.reader.gap s.store.live.cardReaderEnable
        | .held d m t => .cardSlot 1 (some m) (some d.source) (some t) s.reader.gap s.store.live.cardReaderEnable
        | .attached d m => .cardSlot 2 (some m) (some d.source) none s.reader.gap s.store.live.cardReaderEnable
        | .released x m => .cardSlot 3 (some m) (some x) none s.reader.gap s.store.live.cardReaderEnable) →
      exec (.readCard tag) s = .next (s.replies 0x1F tag .ok fields)) ∧
    exec (.readDrawer tag) s = .next (s.replies 0x22 tag .ok
      (.drawer s.drawer.state s.drawer.attempts s.drawer.senseOpen s.store.live.drawerSensePresent
        s.drawer.alarmTimer s.supply.granted.drawer)) ∧
    exec (.readSupply tag) s = .next (s.replies 0x24 tag .ok
      (.supply s.supply.low s.supply.budget
        (if s.store.live.supplyBudget ≠ s.supply.budget then some s.store.live.supplyBudget else none)
        (s.supply.budget - s.supply.granted.total) s.supply.granted s.supply.waiting)) ∧
    exec (.readPrintQueue tag) s = .next (s.replies 0x27 tag .ok
      (.printQueue
        (s.queue.jobs.map fun j =>
          { id := j.id, kind := j.kind, state := j.state
            reasons := if j.state = .paused then some j.reasons else none
            linesDone := j.cursor - 1, lineCount := j.lineCount, saleNumber := j.saleNumber
            recordsHeld := if j.kind = .text then some j.records.length else none })
        (decide (s.engine.condition = .fault) && s.queue.current.isSome)
        (96 - recordsHeld s.queue.jobs) s.queue.nextJobId)) ∧
    exec (.readPrinter tag) s = .next (s.replies 0x28 tag .ok
      (.printer s.engine.condition s.engine.causes s.engine.paperLow s.inputs.headTemp s.engine.band
        s.engine.speedIndex s.engine.pendingPeriod s.engine.cutter s.engine.cutTimer (s.queue.current.map Job.id)
        (s.engine.line.map fun l => (l.rowsDone, lineRows l.record l.spacing))
        s.supply.granted.head s.supply.granted.motor s.supply.granted.cutter))

/-- The attendant's requests of the Bagging Monitor (R86, R88, R90 to R92, R94, R95): CLEAR_EXCEPTION removes the exception
named, and with ITEM_NOT_BAGGED its entry is WAIVED and its expectation goes; WAIVE_BAGGING, in OPEN and TENDER, releases
one outstanding entry with its expectation and the exception that names it; BAG_RESYNC releases all and takes S anew. The
reports are queued in the rules' order, and the alert is held afterwards exactly while an exception or SUSPENDED remains.
Each is refused on the first check that fails. -/
def Obligations.BaggingRequests : Prop :=
  ∀ (s : State) (tag n : Byte) (r : SaleRecord), s.accepts →
    let m := s.monitor
    let outstanding := [BaggingStatus.pending, .overdue, .removed, .awaitRemoval, .removalOverdue]
    let waives : Status → Prop := fun st => exec (.waiveBagging tag n) s = .next (s.replies 0x1A tag st .empty)
    let released : Nat → BaggingStatus → BaggingCause → State := fun k st why =>
      { s with
        sale := { s.sale with current := s.sale.current.mapRecord fun q => { q with
          basket := q.basket.map fun y => if y.number = k then { y with status := .waived } else y } }
        monitor := { m with expectations := m.expectations.filter fun x => x.entry != k }
        link := s.link.push (.entryBagging k .waived (some st) why) }
    let clears : Instr → Byte → State → BagException → ExceptionCause → Prop := fun i k t x why =>
      ∀ left, left = m.exceptions.filter (fun y => y.id != x.id) →
        ∃ tone : Tone, tone.bagAlertHeld = (!left.isEmpty || m.suspended) ∧
          exec i s = .next (({ t with
            monitor := { t.monitor with exceptions := left }
            tone := tone
            link := t.link.push (.bagException .cleared (some x.id) (some x.kind) x.entry x.delta (some why)
              left.length m.suspended none) } : State).replies k tag .ok .empty)
    (s.attendant = false →
      exec (.clearException tag n) s = .next (s.replies 0x19 tag .notAttended .empty) ∧
      (s.sale.current ≠ .idle → waives .notAttended) ∧
      exec (.bagResync tag) s = .next (s.replies 0x1B tag .notAttended .empty)) ∧
    (s.sale.current = .idle → waives .badState) ∧
    (s.attendant = true →
      ((m.exceptions.find? fun y => y.id == n.toNat) = none →
        exec (.clearException tag n) s = .next (s.replies 0x19 tag .notFound .empty)) ∧
      (∀ x, (m.exceptions.find? fun y => y.id == n.toNat) = some x →
        (x.kind ≠ .itemNotBagged → clears (.clearException tag n) 0x19 s x .attendant) ∧
        (∀ k e, x.kind = .itemNotBagged → x.entry = some k → findEntry k s.basket = some e →
          clears (.clearException tag n) 0x19 (released k e.status .attendant) x .attendant)) ∧
      (s.sale.current = .opened r ∨ s.sale.current = .tender r →
        (findEntry n.toNat r.basket = none → waives .notFound) ∧
        ∀ e, findEntry n.toNat r.basket = some e →
          (e.status ∉ outstanding → waives .badState) ∧
          (e.status ∈ outstanding →
            ((m.exceptions.find? fun x => x.entry == some n.toNat) = none →
              exec (.waiveBagging tag n) s =
                .next ((released n.toNat e.status .waived).replies 0x1A tag .ok .empty)) ∧
            ∀ x, (m.exceptions.find? fun x => x.entry == some n.toNat) = some x →
              clears (.waiveBagging tag n) 0x1A (released n.toNat e.status .waived) x .waived)) ∧
      ∀ (settled : Option Int) (waived : Nat),
        (∀ o f, s.bag.condition = .ready → s.bag.latest = some o → o.stable = true → o.fineGross = some f →
          settled = some (roundAway f 50 * 5)) →
        (s.bag.condition ≠ .ready ∨ (∀ o, s.bag.latest = some o → o.stable = false ∨ o.fineGross = none) →
          settled = none) →
        waived = countWhere (fun y => decide (y.status ∈ outstanding)) s.basket →
        ∃ tone : Tone, tone.bagAlertHeld = false ∧
          exec (.bagResync tag) s = .next (({ s with
            settledS := settled
            sale := { s.sale with current := s.sale.current.mapRecord fun q => { q with
              basket := q.basket.map fun y => if y.status ∈ outstanding then { y with status := .waived } else y } }
            monitor := { m with expectations := [], unclaimed := none, exceptions := [], suspended := false }
            tone := tone
            link := if waived ≠ 0 ∨ m.expectations ≠ [] ∨ m.exceptions ≠ [] ∨ m.unclaimed ≠ none ∨ m.suspended = true
              then s.link.push (.bagException .allCleared none none none none (some .resync) 0 false
                (some (waived, m.exceptions.length)))
              else s.link } : State).replies
            0x1B tag .ok (.resync waived m.exceptions.length settled)))

/-- The monitor's timers (R78, R85 to R88): an expired bag timer makes a PENDING entry OVERDUE with ITEM_NOT_BAGGED and an
entry awaiting removal REMOVAL_OVERDUE with VOID_NOT_REMOVED; an expired grace timer turns the unclaimed delta into
UNEXPECTED_ITEM; with eight exceptions held the monitor becomes SUSPENDED instead. The alert is held. That an expiry of a
timer that does not run changes nothing is the model's choice (log 3). -/
def Obligations.BagTimers : Prop :=
  ∀ (s : State) (n : Nat) (r : SaleRecord), s.powered = true →
    ((s.monitor.expectations.all fun x => x.entry != n || x.timer.isNone) = true →
      exec (.bagTimerExpiry n) s = .next (endEvent s)) ∧
    (∀ x e late kind, x ∈ s.monitor.expectations → x.entry = n → x.timer.isSome = true →
      s.sale.current = .opened r → findEntry n r.basket = some e →
      (e.status = .pending ∧ late = .overdue ∧ kind = .itemNotBagged) ∨
        (e.status = .awaitRemoval ∧ late = .removalOverdue ∧ kind = .voidNotRemoved) →
      ∃ t, exec (.bagTimerExpiry n) s = .next t ∧
        t.sale = { s.sale with current := .opened { r with
          basket := r.basket.map fun y => if y.number = n then { y with status := late } else y } } ∧
        t.monitor.expectations =
          (s.monitor.expectations.map fun y => if y.entry = n then { y with timer := none } else y) ∧
        (s.monitor.exceptions.length < 8 → t.monitor.exceptions = s.monitor.exceptions ++
          [{ id := s.monitor.nextExceptionId, kind := kind, entry := some n, delta := none }]) ∧
        (8 ≤ s.monitor.exceptions.length →
          t.monitor.exceptions = s.monitor.exceptions ∧ t.monitor.suspended = true) ∧
        t.tone.bagAlertHeld = true ∧
        t = { s with sale := t.sale, monitor := t.monitor, tone := t.tone, link := t.link }) ∧
    (s.monitor.unclaimed = none → exec .graceTimerExpiry s = .next (endEvent s)) ∧
    (∀ u, s.monitor.unclaimed = some u →
      ∃ t, exec .graceTimerExpiry s = .next t ∧ t.monitor.unclaimed = none ∧
        t.monitor.expectations = s.monitor.expectations ∧
        (s.monitor.exceptions.length < 8 → t.monitor.exceptions = s.monitor.exceptions ++
          [{ id := s.monitor.nextExceptionId, kind := .unexpectedItem, entry := none
             delta := some (Int.ofNat u.amount) }]) ∧
        (8 ≤ s.monitor.exceptions.length →
          t.monitor.exceptions = s.monitor.exceptions ∧ t.monitor.suspended = true) ∧
        t.tone.bagAlertHeld = true ∧ t = { s with monitor := t.monitor, tone := t.tone, link := t.link })

/-- The card slot (R114, R116 to R118): RELEASE_CARD gives the data of an ATTACHED card once and erases it; DISCARD_CARD
empties an EMPTY or HELD slot and no other; an expired hold timer empties a HELD slot with CARD_EXPIRED. That an expiry in
ATTACHED, where no hold timer runs, changes nothing is the model's choice (log 3). -/
def Obligations.CardSlotRequests : Prop :=
  ∀ (s : State) (tag : Byte) (d : CardData) (m : MaskedAccount) (x : Source) (h : Nat), s.accepts →
    let slot : CardSlot → State := fun y => { s with reader := { s.reader with slot := y } }
    (s.reader.slot = .attached d m →
      exec (.releaseCard tag) s = .next ((slot (.released d.source m)).replies 0x1D tag .ok (.cardRelease d m)) ∧
      exec (.discardCard tag) s = .next (s.replies 0x1E tag .badState .empty) ∧
      exec .holdTimerExpiry s = .next (endEvent s)) ∧
    (s.reader.slot = .held d m h →
      exec (.releaseCard tag) s = .next (s.replies 0x1D tag .noCard .empty) ∧
      exec (.discardCard tag) s = .next ((slot .empty).replies 0x1E tag .ok .empty) ∧
      exec .holdTimerExpiry s = .next (endEvent { slot .empty with link := s.link.push (.cardExpired m) })) ∧
    (s.reader.slot = .released x m →
      exec (.releaseCard tag) s = .next (s.replies 0x1D tag .noCard .empty) ∧
      exec (.discardCard tag) s = .next (s.replies 0x1E tag .badState .empty)) ∧
    (s.reader.slot = .empty →
      exec (.releaseCard tag) s = .next (s.replies 0x1D tag .noCard .empty) ∧
      exec (.discardCard tag) s = .next (s.replies 0x1E tag .ok .empty))

/-- A swipe from its begin to its end, on either head (R97 to R113): the first transition of an ARMED reader begins it,
decoded while a sale is open and the reader is enabled; an interval of a decoded swipe goes on with an attempt of a SEEKING
decoder, or gives a LOCKED one a 0, a half, a 1, CLOCK_LOST or, with 1,024 bits held, TOO_LONG; the end arms the reader, and
a good card is HELD with its beep or, while a tender has the slot, IGNORED_BUSY. The first three clauses say what the end
takes from the bits: a track's status, characters and direction by the passes over them (R103 to R106), with the decoder's
own end where no pass is GOOD; the account by the characters before the separator, their digits, their count and the
mod-10 sum (R107, R108); and the masked account (R109). That the interval is the timer and the time since (log 16), that
SWIPE_BEGIN in SWIPE (log 27) and SWIPE_END in ARMED (log 3) change nothing and that either command may begin a swipe (log
27) are the model's choices. -/
def Obligations.SwipeRules : Prop :=
    (∀ (k : HeadId) (y : Track) (st : TrackStatus) (chars : List Nat),
      let kept : TrackStatus :=
        match y.decoder with
        | .clockLost _ => .clockLost
        | .tooLong _ => .tooLong
        | _ => st
      (y.seen = false → y.result k = { status := .absent, chars := [], direction := none }) ∧
      (y.seen = true → stripePasses k y.bits st chars →
        (st = .good → y.result k = { status := .good, chars := chars, direction := some .forward }) ∧
        (st ≠ .good → st ≠ .noStart → y.result k = { status := kept, chars := [], direction := none })) ∧
      (y.seen = true → stripePasses k y.bits .noStart [] → stripePasses k y.bits.reverse st chars →
        (st = .good → y.result k = { status := .good, chars := chars, direction := some .reverse }) ∧
        (st ≠ .good → y.result k = { status := kept, chars := [], direction := none }))) ∧
    (∀ n a : TrackData,
      let taken : Nat → List Nat → List Nat → Prop := fun sep chars used =>
        sep ∉ used ∧ (chars = used ∨ ∃ after, chars = used ++ sep :: after)
      (n.status ≠ .good → a.status ≠ .good → accountOf n a = .bad .noGoodTrack none) ∧
      ∀ (src : Source) (base : Nat) (used : List Nat),
        (src = .numeric ∧ base = 0 ∧ n.status = .good ∧ taken 13 n.chars used ∨
          src = .alpha ∧ base = 16 ∧ n.status ≠ .good ∧ a.status = .good ∧ taken 62 (a.chars.drop 1) used) →
        ((∃ v ∈ used, v < base ∨ base + 9 < v) → accountOf n a = .bad .accountCharacter (some src)) ∧
        ∀ digits : List Nat, (∀ d ∈ digits, d ≤ 9) → used = digits.map (· + base) →
          let fromRight : Nat → Nat := fun i =>
            let d := digits.reverse.getD i 0
            if i % 2 = 0 then d else if 9 < 2 * d then 2 * d - 9 else 2 * d
          let sum := ((List.range digits.length).map fromRight).sum
          (digits.length < 12 ∨ 19 < digits.length → accountOf n a = .bad .accountLength (some src)) ∧
          (12 ≤ digits.length → digits.length ≤ 19 → sum % 10 ≠ 0 → accountOf n a = .bad .accountCheck (some src)) ∧
          (12 ≤ digits.length → digits.length ≤ 19 → sum % 10 = 0 → accountOf n a = .good digits src)) ∧
    (∀ front w1 w2 w3 w4, maskedOf (front ++ [w1, w2, w3, w4]) =
      { length := front.length + 4, last4 := [w1, w2, w3, w4] }) ∧
  ∀ (s : State) (h : HeadId) (e : Nat), s.powered = true →
    let c := s.reader
    let x : Track := if h = .numeric then c.numeric else c.alpha
    let i := min 65535 (x.timer + e)
    let goes : Decoder → List Bool → Prop := fun d bits =>
      let y : Track := { timer := 0, seen := true, decoder := d, bits := bits }
      exec (.fluxTransition h e) s = .next (endEvent { s with reader := { c with
        gapTimer := 20
        alpha := if h = .numeric then c.alpha else y
        numeric := if h = .numeric then y else c.numeric } })
    let begun : HeadId → Track → Track := fun k t =>
      if h = k then { timer := 0, seen := true, decoder := .seeking [], bits := [] }
      else { timer := t.timer, seen := false, decoder := .seeking [], bits := [] }
    (c.gap = .armed → ∀ t : State, t = { s with reader :=
        { gap := .swipe
          decoded := decide (s.sale.current ≠ .idle) && s.store.live.cardReaderEnable
          gapTimer := 20
          alpha := begun .alpha c.alpha
          numeric := begun .numeric c.numeric
          slot := c.slot } } →
      exec (.swipeBegin h) s = .next (endEvent t) ∧ exec (.fluxTransition h e) s = .next (endEvent t)) ∧
    (c.gap = .swipe → exec (.swipeBegin h) s = .next (endEvent s)) ∧
    (c.gap = .swipe → x.seen = false ∨ c.decoded = false → goes x.decoder x.bits) ∧
    (c.gap = .swipe → x.seen = true → c.decoded = true →
      (∀ a, x.decoder = .seeking a → a.length < 5 → goes (.seeking (a ++ [i])) x.bits) ∧
      (∀ i1 i2 i3 i4 i5 p, x.decoder = .seeking [i1, i2, i3, i4, i5] → p = (i3 + i4 + i5 + i) / 4 →
        (40 ≤ p → p ≤ 2000 → i3 < 65535 → i4 < 65535 → i5 < 65535 → i < 65535 → goes (.locked p none) x.bits) ∧
        (p < 40 ∨ 2000 < p ∨ 65535 ≤ i3 ∨ 65535 ≤ i4 ∨ 65535 ≤ i5 ∨ 65535 ≤ i → goes (.seeking []) x.bits)) ∧
      (∀ p half, x.decoder = .locked p half →
        (65535 ≤ i → goes (.clockLost p) x.bits) ∧
        (i < 65535 → half = none →
          (4 * i < 3 * p → goes (.locked p (some i)) x.bits) ∧
          (3 * p ≤ 4 * i → x.bits.length < 1024 → goes (.locked ((3 * p + i) / 4) none) (x.bits ++ [false])) ∧
          (3 * p ≤ 4 * i → 1024 ≤ x.bits.length → goes (.tooLong p) x.bits)) ∧
        (∀ f, i < 65535 → half = some f →
          (3 * p ≤ 4 * i → goes (.clockLost p) x.bits) ∧
          (4 * i < 3 * p → x.bits.length < 1024 → goes (.locked ((3 * p + f + i) / 4) none) (x.bits ++ [true])) ∧
          (4 * i < 3 * p → 1024 ≤ x.bits.length → goes (.tooLong p) x.bits))) ∧
      (∀ p, x.decoder = .clockLost p ∨ x.decoder = .tooLong p → goes x.decoder x.bits)) ∧
    (c.gap = .armed → exec .swipeEnd s = .next (endEvent s)) ∧
    (∀ armed : Reader, c.gap = .swipe → armed = { c with
        gap := .armed
        decoded := false
        alpha := { c.alpha with decoder := .seeking [], bits := [] }
        numeric := { c.numeric with decoder := .seeking [], bits := [] } } →
      (c.decoded = false → exec .swipeEnd s = .next (endEvent { s with reader := armed })) ∧
      (∀ n a, c.decoded = true → n = c.numeric.result .numeric → a = c.alpha.result .alpha →
        (∀ digits src, accountOf n a = .good digits src →
          (c.slot.takesCard = true → exec .swipeEnd s = .next (endEvent { s with
            reader := { armed with
              slot := .held { numeric := n, alpha := a, digits := digits, source := src } (maskedOf digits)
                (s.store.live.cardHold * 1000) }
            tone := s.tone.placeOneShot .cardBeep none
            link := s.link.push (.cardRead .good n.status a.status n.direction a.direction none (some src)
              (some (maskedOf digits)) (some c.slot.isHeld)) })) ∧
          (c.slot.takesCard = false → exec .swipeEnd s = .next (endEvent { s with
            reader := armed
            tone := s.tone.placeOneShot .cardBeep none
            link := s.link.push (.cardRead .ignoredBusy n.status a.status n.direction a.direction none (some src)
              (some (maskedOf digits)) none) }))) ∧
        (∀ reason src, accountOf n a = .bad reason src →
          exec .swipeEnd s = .next (endEvent { s with
            reader := armed
            link := s.link.push (.cardRead .bad n.status a.status n.direction a.direction (some reason) src
              none none) }))))

/-- A kick of a CLOSED drawer, by NO_SALE (R122 to R124, R130, R138 to R140): with 14 units free it is granted at once
and pulls in; with fewer it waits. One report names the state reached. DRAWER_RESET closes a JAMMED drawer (R131). Each is refused on
the first check that fails. -/
def Obligations.DrawerIsKicked : Prop :=
  ∀ (s : State) (tag : Byte), s.accepts →
    (s.attendant = false →
      exec (.noSale tag) s = .next (s.replies 0x20 tag .notAttended .empty) ∧
      exec (.drawerReset tag) s = .next (s.replies 0x21 tag .notAttended .empty)) ∧
    (s.attendant = true → s.sale.current ≠ .idle →
      exec (.noSale tag) s = .next (s.replies 0x20 tag .badState .empty)) ∧
    (s.attendant = true → s.sale.current = .idle →
      (s.drawer.state = .opened ∨ s.drawer.state = .openAlarm →
        exec (.noSale tag) s = .next (s.replies 0x20 tag .drawerOpen .empty)) ∧
      (s.drawer.state ∈ [DrawerState.waitSupply, .pullIn, .hold, .cool] →
        exec (.noSale tag) s = .next (s.replies 0x20 tag .busy .empty)) ∧
      (s.drawer.state = .jammed → exec (.noSale tag) s = .next (s.replies 0x20 tag .badState .empty))) ∧
    (s.attendant = true → s.sale.current = .idle → s.quietSupply → s.drawer.state = .closed →
      (14 ≤ s.supply.budget - s.supply.granted.total →
        exec (.noSale tag) s = .next (({ s with
          drawer := { s.drawer with
            state := .pullIn
            attempts := 1
            phaseTimer := some s.store.live.drawerPullMs
            kickSource := some .noSale }
          supply := { s.supply with
            granted := { s.supply.granted with drawer := s.supply.granted.drawer + 14 } }
          link := s.link.push (.drawerState .pullIn .closed .kick 1 (some .noSale)) } : State).replies
          0x20 tag .ok .empty)) ∧
      (s.supply.budget - s.supply.granted.total < 14 →
        exec (.noSale tag) s = .next (({ s with
          drawer := { s.drawer with
            state := .waitSupply
            attempts := 0
            phaseTimer := none
            kickSource := some .noSale }
          supply := { s.supply with waiting := { s.supply.waiting with drawer := some 14 } }
          link := s.link.push (.drawerState .waitSupply .closed .kick 0 (some .noSale)) } : State).replies
          0x20 tag .ok .empty))) ∧
    (s.attendant = true → s.drawer.state = .jammed →
      exec (.drawerReset tag) s = .next (({ s with
        drawer := { s.drawer with state := .closed, phaseTimer := none, alarmTimer := none }
        link := s.link.push (.drawerState .closed .jammed .reset s.drawer.attempts none) } : State).replies
        0x21 tag .ok .empty)) ∧
    (s.attendant = true → s.drawer.state ≠ .jammed →
      exec (.drawerReset tag) s = .next (s.replies 0x21 tag .badState .empty))

/-- The phases of a drive (R124 to R129): the pull-in gives way to a hold with 9 units returned, or ends the drive with
`drawer_hold_ms` 0 or the sense open; the duty changes at a PWM period boundary during the hold; a drive's end returns every
unit and leaves the drawer CLOSED without a sense switch, OPEN with its alarm timer when the sense is open, and otherwise
COOL after the first attempt and JAMMED after the second. A cooled drawer is CLOSED without a sense switch and otherwise
asks for 14 units: it pulls in where they are free and waits in WAIT_SUPPLY where they are not. That the entry into HOLD is
no period boundary is the model's reading (log 21), and that an event outside its state changes nothing its choice
(log 3). -/
def Obligations.DriveRunsItsPhases : Prop :=
  ∀ s : State, s.powered = true → s.quietSupply →
    let d := s.drawer
    let present := s.store.live.drawerSensePresent
    let alarm := if s.store.live.drawerAlarmS = 0 then none else some (s.store.live.drawerAlarmS * 1000)
    let moved : Drawer → Nat → DrawerCause → State := fun x units cause =>
      { s with
        drawer := x
        supply := { s.supply with granted := { s.supply.granted with drawer := units } }
        link := s.link.push (.drawerState x.state d.state cause x.attempts none) }
    let driveEnds : Instr → DrawerCause → Prop := fun i cause =>
      (present = false → exec i s = .next (endEvent
        (moved { d with state := .closed, phaseTimer := none, alarmTimer := none } 0 cause))) ∧
      (present = true → d.senseOpen = true → exec i s = .next (endEvent
        (moved { d with state := .opened, phaseTimer := none, alarmTimer := alarm } 0 cause))) ∧
      (present = true → d.senseOpen = false →
        (d.attempts = 1 → exec i s = .next (endEvent
          (moved { d with state := .cool, phaseTimer := some 200 } 0 cause))) ∧
        (d.attempts ≠ 1 → exec i s = .next (endEvent
          (moved { d with state := .jammed, phaseTimer := none } 0 cause))))
    (d.state = .pullIn →
      (s.store.live.drawerHoldMs ≠ 0 → present = false ∨ d.senseOpen = false → s.supply.granted.drawer = 14 →
        exec .pullInEnd s = .next (endEvent
          (moved { d with state := .hold, phaseTimer := some s.store.live.drawerHoldMs } 5 .pullEnd))) ∧
      (s.store.live.drawerHoldMs = 0 ∨ present = true ∧ d.senseOpen = true → driveEnds .pullInEnd .pullEnd)) ∧
    (d.state = .hold →
      exec .pwmPeriodBoundary s = .next (endEvent { s with drawer := { d with dutyInForce := d.pendingDuty } }) ∧
      driveEnds .holdEnd .holdEnd) ∧
    (d.state = .cool →
      (present = false → exec .coolEnd s = .next (endEvent
        (moved { d with state := .closed, phaseTimer := none, alarmTimer := none } s.supply.granted.drawer .coolEnd))) ∧
      (present = true → s.supply.granted.drawer = 0 → 14 ≤ s.supply.budget - s.supply.granted.total →
        exec .coolEnd s = .next (endEvent
          (moved { d with state := .pullIn, attempts := d.attempts + 1, phaseTimer := some s.store.live.drawerPullMs } 14
            .coolEnd))) ∧
      (present = true → s.supply.budget - s.supply.granted.total < 14 →
        exec .coolEnd s = .next (endEvent { s with
          drawer := { d with state := .waitSupply, phaseTimer := none }
          supply := { s.supply with waiting := { s.supply.waiting with drawer := some 14 } }
          link := s.link.push (.drawerState .waitSupply .cool .coolEnd d.attempts none) }))) ∧
    (d.state ≠ .pullIn → exec .pullInEnd s = .next (endEvent s)) ∧
    (d.state ≠ .hold → exec .holdEnd s = .next (endEvent s) ∧ exec .pwmPeriodBoundary s = .next (endEvent s)) ∧
    (d.state ≠ .cool → exec .coolEnd s = .next (endEvent s))

/-- The sense and the alarm in every drawer state (R120, R123 to R129, R133 to R135): a CLOSED drawer forced open is OPEN
with its alarm timer, as is one that opens while it cools or is jammed, waits for supply, its request withdrawn with a walk,
or holds, its units returned; closing an OPEN or OPEN_ALARM drawer makes it CLOSED and withdraws the alarm, and the bagging
alert gains the output where it is held. In every other state, and while the sense is not present, the level alone is
recorded. The alarm timer's expiry gives OPEN_ALARM and the drawer alarm the tone output. That an expiry of a timer that
does not run and a level already held, which cannot arise, change nothing is the model's choice (log 3), as is the stopped
toggle counter at 0 (log 18). -/
def Obligations.SenseAndAlarm : Prop :=
  ∀ (s : State) (open' : Bool), s.powered = true →
    let d := s.drawer
    let x := s.tone
    let timer := if s.store.live.drawerAlarmS = 0 then none else some (s.store.live.drawerAlarmS * 1000)
    let noNeed : Needs := { drawer := none, cutter := none, motor := none, head := none }
    let recorded : Bool → Prop := fun level =>
      exec (.senseChange level) s = .next (endEvent { s with drawer := { d with senseOpen := level } })
    let opened : DrawerCause → State → State := fun cause t =>
      { t with
        drawer := { d with senseOpen := true, state := .opened, phaseTimer := none, alarmTimer := timer }
        link := s.link.push (.drawerState .opened d.state cause d.attempts none) }
    let closes : Tone → Prop := fun tone => exec (.senseChange false) s = .next (endEvent { s with
      drawer := { d with senseOpen := false, state := .closed, phaseTimer := none, alarmTimer := none }
      tone := tone
      link := s.link.push (.drawerState .closed d.state .senseClosed d.attempts none) })
    let alarmed : Tone → Prop := fun tone => exec .alarmTimerExpiry s = .next (endEvent { s with
      drawer := { d with state := .openAlarm, alarmTimer := none }
      tone := tone
      link := s.link.push (.drawerState .openAlarm .opened .alarm d.attempts none) })
    let begins : ToneOwner → Bool → Nat → Tone := fun owner held ms =>
      { x with owner := owner, drawerAlarmHeld := held, beep := none, position := some { step := 0, remaining := ms } }
    (d.senseOpen = open' → exec (.senseChange open') s = .next (endEvent s)) ∧
    (d.senseOpen ≠ open' → s.store.live.drawerSensePresent = false → recorded open') ∧
    (d.senseOpen = false → s.store.live.drawerSensePresent = true →
      (d.state = .closed → exec (.senseChange true) s = .next (endEvent (opened .forced s))) ∧
      (d.state = .cool ∨ d.state = .jammed → exec (.senseChange true) s = .next (endEvent (opened .senseOpen s))) ∧
      (d.state = .waitSupply →
        (s.supply.waiting = { noNeed with drawer := some 14 } →
          exec (.senseChange true) s = .next (endEvent (opened .senseOpen
            { s with supply := { s.supply with waiting := noNeed } }))) ∧
        (s.supply.waiting = { noNeed with drawer := some 14, motor := some 3 } → s.supply.low = false →
          3 ≤ s.supply.budget - s.supply.granted.total →
          exec (.senseChange true) s = .next (endEvent (opened .senseOpen { s with
            supply := { s.supply with
              waiting := noNeed, granted := { s.supply.granted with motor := s.supply.granted.motor + 3 } }
            engine := { s.engine with
              stepRunning := some s.engine.pendingPeriod, periodInForce := s.engine.pendingPeriod } })))) ∧
      (d.state = .hold → s.quietSupply →
        exec (.senseChange true) s = .next (endEvent (opened .senseOpen
          { s with supply := { s.supply with granted := { s.supply.granted with drawer := 0 } } }))) ∧
      (d.state ∈ [DrawerState.pullIn, .opened, .openAlarm] → recorded true)) ∧
    (d.senseOpen = true → s.store.live.drawerSensePresent = true →
      (d.state = .opened → closes x) ∧
      (d.state = .openAlarm →
        (x.owner ≠ .drawerAlarm → closes { x with drawerAlarmHeld := false }) ∧
        (x.owner = .drawerAlarm → x.bagAlertHeld = false → closes { x with
          owner := .none, drawerAlarmHeld := false, beep := none, position := none, sounding := false, level := false
          pendingHalf := none, toggleCounter := 0 }) ∧
        (x.owner = .drawerAlarm → x.bagAlertHeld = true →
          (x.sounding = true → closes { begins .bagAlert false 200 with pendingHalf := some 167 }) ∧
          (x.sounding = false → closes { begins .bagAlert false 200 with
            sounding := true, level := false, halfPeriod := 167, pendingHalf := none, toggleCounter := 167 }))) ∧
      (d.state ∉ [DrawerState.opened, .openAlarm] → recorded false)) ∧
    (d.state = .opened → d.alarmTimer ≠ none → x.owner ≠ .drawerAlarm →
      (x.sounding = false → alarmed { begins .drawerAlarm true 500 with
        sounding := true, level := false, halfPeriod := 250, pendingHalf := none, toggleCounter := 250 }) ∧
      (x.sounding = true → x.owner = .bagAlert ∨ x.owner = .cardBeep →
        alarmed { begins .drawerAlarm true 500 with pendingHalf := some 250 })) ∧
    (d.state ≠ .opened ∨ d.alarmTimer = none → exec .alarmTimerExpiry s = .next (endEvent s))

/-- The tone output (R133, R134, R136). BEEP out of range is BAD_VALUE, and BUSY while an alarm, the alert or a card beep has
the output; otherwise it takes the output, from silence or from another BEEP, at its first on part: at once at the half-period
of its frequency on a silent output, and as the pending half-period where a BEEP of another frequency sounds. The toggle
counter changes the level and reloads the half-period in force, or a pending one. The end of each step of a pattern gives the
next: the alarm's 500 ms on and 500 off, the alert's three 200 ms beeps with 200 off and then 4,000 off, BEEP's on parts with
gaps of 100 ms; a one-shot ends with its last on part, and leaves the output silent, low and without an owner. The steps of a
pattern are numbered from 0, on parts even. That an expiry in silence, where the counter is stopped, changes nothing (log 3)
and that the stopped counter reads 0 (log 18) are the model's choices. -/
def Obligations.ToneIsSounded : Prop :=
  ∀ (s : State) (tag n : Byte) (f o : Half), s.powered = true →
    let x := s.tone
    let tone : Tone → State := fun y => { s with tone := y }
    let held : Prop := x.drawerAlarmHeld = true ∨ x.bagAlertHeld = true
    let half : Nat → Nat := fun hz => (1000000 + hz) / (2 * hz)
    let sounds : Tone → Nat → Tone := fun y h =>
      { y with sounding := true, level := false, halfPeriod := h, pendingHalf := none, toggleCounter := h }
    let silent : Tone → Tone := fun y => { y with sounding := false, level := false, pendingHalf := none, toggleCounter := 0 }
    let fits : Prop :=
      500 ≤ f.toNat ∧ f.toNat ≤ 4000 ∧ 10 ≤ o.toNat ∧ o.toNat ≤ 2000 ∧ 1 ≤ n.toNat ∧ n.toNat ≤ 5
    let beeps : Tone := { x with
      owner := .beep
      beep := some { frequency := f.toNat, onTime := o.toNat, count := n.toNat }
      position := some { step := 0, remaining := o.toNat } }
    let takes : Tone → Prop := fun y => exec (.beep tag f o n) s = .next ((tone y).replies 0x23 tag .ok .empty)
    let refused : Status → Prop := fun st => exec (.beep tag f o n) s = .next (s.replies 0x23 tag st .empty)
    let toggles : Tone → Prop := fun y => exec .toggleCounterExpiry s = .next (endEvent (tone y))
    let ends : Tone → Prop := fun y => exec .patternStepEnd s = .next (endEvent (tone y))
    (s.accepts → ¬fits → refused .badValue) ∧
    (s.accepts → fits → held ∨ x.owner = .cardBeep → refused .busy) ∧
    (s.accepts → fits → ¬held →
      (x.owner = .none ∨ x.owner = .beep → x.sounding = false → takes (sounds beeps (half f.toNat))) ∧
      (∀ b, x.owner = .beep → x.beep = some b → x.sounding = true →
        (b.frequency = f.toNat → takes beeps) ∧
        (b.frequency ≠ f.toNat → takes { beeps with pendingHalf := some (half f.toNat) }))) ∧
    (x.sounding = true → x.pendingHalf = none → toggles { x with level := !x.level, toggleCounter := x.halfPeriod }) ∧
    (∀ h, x.sounding = true → x.pendingHalf = some h →
      toggles { x with level := !x.level, halfPeriod := h, pendingHalf := none, toggleCounter := h }) ∧
    (x.sounding = false → toggles x) ∧
    ∀ k ms, x.position = some { step := k, remaining := ms } →
      let falls : Nat → Prop := fun off => ends (silent { x with position := some { step := k + 1, remaining := off } })
      let rises : Nat → Nat → Nat → Prop := fun j on hz =>
        x.sounding = false → ends (sounds { x with position := some { step := j, remaining := on } } (half hz))
      let done : Prop := ¬held → ends (silent { x with owner := .none, position := none, beep := none })
      (x.owner = .drawerAlarm → (k = 0 → falls 500) ∧ (k = 1 → rises 0 500 2000)) ∧
      (x.owner = .bagAlert →
        (k = 0 ∨ k = 2 → falls 200) ∧ (k = 4 → falls 4000) ∧ (k = 1 ∨ k = 3 → rises (k + 1) 200 3000) ∧
        (k = 5 → rises 0 200 3000)) ∧
      (x.owner = .cardBeep → done) ∧
      ∀ b i, x.owner = .beep → x.beep = some b → i < b.count →
        (k = 2 * i → i + 1 < b.count → falls 100) ∧
        (k = 2 * i + 1 → i + 1 < b.count → rises (k + 1) b.onTime b.frequency) ∧
        (k = 2 * i → i + 1 = b.count → done)

/-! ### Supply, print queue and print engine (chapters 7 to 9) -/

/-- The 24 V supply and its budget (R139, R142 to R145, R154, R166, R167, R175). No step that ends in SUPPLY_LOW has raised
the units granted to any requester. SUPPLY_LOW is entered with its report and the pause cause: a printer that prints is
PAUSED with its job, its memory white, its speed index 0 and the row in progress marked; in PAUSED the job's reasons follow;
in IDLE and FAULT the cause alone joins. Recovery takes the cause away: a printer that no other cause holds goes on, and
the walk that follows grants what waits, the drawer's 14 units or the phase of a row that waited. A pending budget stays
pending at a release that leaves units granted; at the release that empties the grants it becomes the budget in force, with
one SUPPLY_STATE report BUDGET, and the walk that follows grants by it: the release of the head at a phase's end, of the motor
at a step's end, of the cutter at its cycle's end or jam, and of the drawer at its hold's end. The phase and two of the others
are those of an abandoned line, which the model marks (log 32), the step and the cut also those of a job. The model's choices:
the printer's report of a recovery comes before the walk's (log 23), and a drawer's grant is reported before a jam or a job's
end (log 25). That a second fall or recovery changes nothing is R143 and R144. -/
def Obligations.SupplyFallsAndRecovers : Prop :=
  (∀ s t : State, step s = .next t → t.supply.low = true →
    t.supply.granted.drawer ≤ s.supply.granted.drawer ∧ t.supply.granted.cutter ≤ s.supply.granted.cutter ∧
      t.supply.granted.motor ≤ s.supply.granted.motor ∧ t.supply.granted.head ≤ s.supply.granted.head) ∧
  ∀ (s : State) (j : Job) (rest : List Job), s.powered = true →
    let e := s.engine
    let g := s.supply.granted
    let noNeed : Needs := { drawer := none, cutter := none, motor := none, head := none }
    let held : Causes := { e.causes with supplyLow := true }
    let gone : Causes := { e.causes with supplyLow := false }
    let jobWith : JobState → Causes → PrintQueue := fun st c =>
      { s.queue with jobs := { j with state := st, reasons := c } :: rest }
    let falls : PrinterCondition → Engine → PrintQueue → State := fun k y q =>
      { s with
        supply := { s.supply with low := true }
        queue := q
        engine := { y with causes := held, condition := k }
        link := (s.link.push (.supplyState true false .low s.supply.budget g.total)).push
          (.printerState k e.condition held e.paperLow .causeRaised (some .supplyLow)) }
    let recovers : PrinterCondition → PrintQueue → State := fun k q =>
      { s with
        supply := { s.supply with low := false }
        queue := q
        engine := { e with causes := gone, condition := k }
        link := (s.link.push (.supplyState false true .recovered s.supply.budget g.total)).push
          (.printerState k e.condition gone e.paperLow .causeGone (some .supplyLow)) }
    (s.supply.low = true → exec .supplyLow s = .next (endEvent s)) ∧
    (s.supply.low = false → exec .supplyRecovery s = .next (endEvent s)) ∧
    (s.supply.low = false → e.causes.supplyLow = false →
      (e.condition = .idle ∨ e.condition = .fault →
        exec .supplyLow s = .next (endEvent (falls e.condition e s.queue))) ∧
      (s.queue.jobs = j :: rest → e.condition = .printing → ∀ t, t = falls .paused
          { e with
            memory := 0, row := e.row.map fun r => { r with pauseMark := true }, speedIndex := 0
            pendingPeriod := 2500 } (jobWith .paused held) →
        exec .supplyLow s = .next (endEvent { t with
          link := t.link.push (.printJob j.id j.kind .paused (some j.state) .paused (some held) j.saleNumber
            (j.cursor - 1) j.lineCount) })) ∧
      (s.queue.jobs = j :: rest → e.condition = .paused → j.state = .paused →
        (∀ l, e.line = some l → e.row = none → 1 ≤ l.rowsDone → l.rowsDone < glyphRows l.record →
          l.interrupted = true ∨ e.causes.paperOut = false ∧ e.causes.coverOpen = false) →
        exec .supplyLow s = .next (endEvent (falls .paused e (jobWith .paused held))))) ∧
    (s.supply.low = true → e.causes.supplyLow = true →
      (e.condition = .idle ∨ e.condition = .fault →
        (s.supply.waiting = noNeed → s.drawer.state ≠ .waitSupply →
          exec .supplyRecovery s = .next (endEvent (recovers e.condition s.queue))) ∧
        (s.supply.waiting = { noNeed with drawer := some 14 } → s.drawer.state = .waitSupply →
          14 ≤ s.supply.budget - g.total → ∀ t, t = recovers e.condition s.queue →
          exec .supplyRecovery s = .next (endEvent { t with
            supply := { t.supply with granted := { g with drawer := g.drawer + 14 }, waiting := noNeed }
            drawer := { s.drawer with
              state := .pullIn
              attempts := s.drawer.attempts + 1
              phaseTimer := some s.store.live.drawerPullMs }
            link := t.link.push (.drawerState .pullIn .waitSupply .granted (s.drawer.attempts + 1) none) }))) ∧
      (s.queue.jobs = j :: rest → e.condition = .paused → j.state = .paused → s.drawer.state ≠ .waitSupply →
        (gone.held = true → s.supply.waiting = noNeed →
          exec .supplyRecovery s = .next (endEvent (recovers .paused (jobWith .paused gone)))) ∧
        (∀ r k, gone.held = false → e.row = some r → r.newLeft ≠ 0 → s.supply.waiting = { noNeed with head := some k } →
          1 ≤ s.supply.budget - g.total → ∀ (t : State) (u : Nat) (d : Dots),
            t = recovers .printing (jobWith .printing Causes.none) → u = min k (s.supply.budget - g.total) →
            d = leftmostDots r.newLeft (32 * u) →
            exec .supplyRecovery s = .next (endEvent { t with
              supply := { t.supply with granted := { g with head := g.head + u }, waiting := noNeed }
              engine := { t.engine with
                row := some { r with newLeft := r.newLeft &&& ~~~d }
                phase := some { dots := d, duration := r.newTime } }
              link := t.link.push (.printJob j.id j.kind .printing (some j.state) .resumed none j.saleNumber
                (j.cursor - 1) j.lineCount) })))) ∧
    (∀ b, s.store.live.supplyBudget = b → b ≠ s.supply.budget →
      let releases : Instr → Grants → (Supply → Link → State) → Prop := fun c h t =>
        let sum := h.drawer + h.cutter + h.motor + h.head
        let inForce : Link := s.link.push (.supplyState s.supply.low s.supply.low .budget b 0)
        (s.supply.waiting = noNeed → s.drawer.state ≠ .waitSupply →
          (sum ≠ 0 → exec c s = .next (endEvent (t { s.supply with granted := h } s.link))) ∧
          (sum = 0 → exec c s = .next (endEvent (t { s.supply with budget := b, granted := h } inForce)))) ∧
        (s.supply.waiting = { noNeed with drawer := some 14 } → s.drawer.state = .waitSupply → s.supply.low = false →
          sum = 0 → 14 ≤ b → ∀ u, u = t
            { budget := b, low := false, waiting := noNeed
              granted := { drawer := 14, cutter := 0, motor := 0, head := 0 } }
            (inForce.push (.drawerState .pullIn .waitSupply .granted (s.drawer.attempts + 1) none)) →
          exec c s = .next (endEvent { u with drawer := { s.drawer with
            state := .pullIn
            attempts := s.drawer.attempts + 1
            phaseTimer := some s.store.live.drawerPullMs } }))
      let becomes : Engine → Supply → Link → State := fun y v k => { s with engine := y, supply := v, link := k }
      let home : State → State := fun t => { t with inputs := { s.inputs with cutterHome := true } }
      let cutOver : Engine :=
        { e with cutter := .rest, cutTimer := none, seenAway := false, speedIndex := 0, pendingPeriod := 2500 }
      (∀ p, e.phase = some p → e.abandoned = true → e.line = none →
        releases .phaseEnd { g with head := 0 } (becomes { e with phase := none, abandoned := false })) ∧
      (∀ p, e.stepRunning = some p → g.motor = 3 → e.abandoned = true → e.line = none →
        releases .stepEnd { g with motor := 0 } (becomes { e with stepRunning := none, abandoned := false })) ∧
      (∀ p r l, e.stepRunning = some p → g.motor = 3 → e.abandoned = false → e.condition = .paused → e.row = some r →
        r.stepsDone = 1 → r.pauseMark = true → e.line = some l → l.rowsDone + 1 < lineRows l.record l.spacing →
        e.causes.paperOut = false → e.causes.coverOpen = false →
        releases .stepEnd { g with motor := 0 } (becomes { e with
          stepRunning := none, row := none, line := some { l with rowsDone := l.rowsDone + 1 }, memory := 0 })) ∧
      (e.cutter = .cutting → e.seenAway = true → e.condition ≠ .fault →
        (e.abandoned = true → e.line = none → releases .homeSensorReturn { g with cutter := 0 }
          fun v k => home (becomes { cutOver with abandoned := false } v k)) ∧
        (e.abandoned = false → e.condition = .printing → s.queue.jobs = [j] → j.kind ≠ .original → j.cursor = j.lineCount →
          releases .homeSensorReturn { g with cutter := 0 } fun v k =>
            { home (becomes { cutOver with line := none, condition := .idle } v (k.push (.printJob j.id j.kind .done
                (some j.state) .done none j.saleNumber j.lineCount j.lineCount))) with
              queue := { s.queue with jobs := [] } })) ∧
      (e.cutter = .cutting → releases .cutTimerExpiry { g with cutter := 0 } fun v k => becomes { e with
        cutter := .jammed, cutTimer := none, clearTaken := false, abandoned := false, condition := .fault } v
        (k.push (.printerState .fault e.condition e.causes e.paperLow .jammed none))) ∧
      (s.drawer.state = .hold → ∀ d, d = (if s.store.live.drawerSensePresent = false then
            { s.drawer with state := .closed, phaseTimer := none, alarmTimer := none }
          else if s.drawer.senseOpen = true then { s.drawer with
            state := .opened
            phaseTimer := none
            alarmTimer := if s.store.live.drawerAlarmS = 0 then none else some (s.store.live.drawerAlarmS * 1000) }
          else if s.drawer.attempts = 1 then { s.drawer with state := .cool, phaseTimer := some 200 }
          else { s.drawer with state := .jammed, phaseTimer := none }) →
        releases .holdEnd { g with drawer := 0 } fun v k =>
          { becomes e v (k.push (.drawerState d.state .hold .holdEnd s.drawer.attempts none)) with drawer := d }))

/-- PRINT_TEXT and PRINTER_CLEAR (R69, R147 to R155, R179 to R181). PRINT_TEXT is refused on the first check of R151 that
fails; otherwise its records are stored with a final CUT added where none stands, and the job is given the next job number
and joins the tail of the list, or starts at once where the list was empty: PRINTING with its first row begun, or with its
first row waiting for the work of an abandoned line, or PAUSED while a cause is held. PRINTER_CLEAR is OK in every
condition: each job is reported ABORTED in list order, an ORIGINAL's slot is RECEIPT_ABORTED, requests that wait are
withdrawn, and the engine's own report follows. That the row in progress goes at the clear, though its phase or step runs on,
is the model's choice (log 41), and so are the mark of that work (log 32), the line removed by a clear in FAULT (log 34) and
that clear taken is no once FAULT is left (log 42). -/
def Obligations.PrintTextAndClear : Prop :=
  ∀ (s : State) (tag : Byte), s.accepts →
    let e := s.engine
    let jobs := s.queue.jobs
    let id := s.queue.nextJobId
    let noNeed : Needs := { drawer := none, cutter := none, motor := none, head := none }
    let stores : LineArg → LineRecord → Prop := fun x r =>
      match x with
      | .text chars w h b a =>
        chars.length ≤ 32 ∧ w.toNat ≤ 1 ∧ h.toNat ≤ 1 ∧ b.toNat ≤ 1 ∧ a.toNat ≤ 2 ∧ r = .text
          ((chars.take (if w = 1 then 16 else 32)).map fun c => if 0x20 ≤ c.toNat ∧ c.toNat ≤ 0x7E then c else 0x3F)
          (w == 1) (h == 1) (b == 1) (if a = 0 then .left else if a = 1 then .centre else .right)
      | .feed n => 1 ≤ n.toNat ∧ r = .feed n.toNat
      | .cut => r = .cut
      | .unknown _ => False
    (∀ lines : List LineArg,
      let refused : Status → Prop := fun st => exec (.printText tag lines) s = .next (s.replies 0x25 tag st .empty)
      (lines = [] ∨ 48 < lines.length ∨ (∃ x ∈ lines, ∀ r, ¬ stores x r) → refused .badValue) ∧
      ∀ given records : List LineRecord, 1 ≤ lines.length → lines.length ≤ 48 → List.Forall₂ stores lines given →
        records = (if given.getLast? = some .cut then given else given ++ [.cut]) →
        let used := (jobs.map fun j => j.records.length).sum
        let others := (jobs.filter fun j => j.kind != .original).length
        let fields : ReplyFields := .printText id records.length (96 - used - records.length)
        let job : JobState → Causes → Job := fun st c =>
          { id := id, kind := .text, state := st, reasons := c, lineCount := records.length, cursor := 1
            records := records, saleNumber := none, settings := none }
        let accepted : JobState → Option Causes → Report := fun st c =>
          .printJob id .text st none .accepted c none 0 records.length
        let first : Option LineProgress := records[0]?.map fun r =>
          { record := r, rowsDone := 0, spacing := s.store.live.lineSpacing, interrupted := false }
        let alone : Job → PrintQueue := fun j => { jobs := [j], nextJobId := if id < 255 then id + 1 else 1 }
        let answers : State → Prop := fun u => exec (.printText tag lines) s = .next (u.replies 0x25 tag .ok fields)
        (e.condition = .fault → refused .badState) ∧
        (e.condition ≠ .fault → 3 ≤ others ∨ 96 < used + records.length → refused .queueFull) ∧
        (e.condition ≠ .fault → others < 3 → used + records.length ≤ 96 → jobs ≠ [] →
          ∀ (k next : Nat), let after : Nat → Nat := fun n => if n < 255 then n + 1 else 1
            let ids := jobs.map Job.id ++ [id]
            next = after^[k + 1] id → next ∉ ids → (∀ i, i < k → after^[i + 1] id ∈ ids) → k ≤ ids.length →
            answers { s with
              queue := { jobs := jobs ++ [job .queued Causes.none], nextJobId := next }
              link := s.link.push (accepted .queued none) }) ∧
        (jobs = [] → e.condition = .idle →
          (e.causes.held = true → answers { s with
            queue := alone (job .paused e.causes)
            engine := { e with condition := .paused, memory := 0, line := first, speedIndex := 0, pendingPeriod := 2500 }
            link := (s.link.push (accepted .paused (some e.causes))).push
              (.printerState .paused .idle e.causes e.paperLow .jobStarted none) }) ∧
          (e.causes.held = false →
            (∃ t, exec (.printText tag lines) s = .next t ∧ t.queue = alone (job .printing Causes.none) ∧
              t.engine.condition = .printing ∧
              t.link.reply = some { kind := 0xA5, tag := tag, status := .ok, fields := fields } ∧
              t = { s with
                drawer := t.drawer, supply := t.supply, queue := t.queue, engine := t.engine, link := t.link }) ∧
            (e.abandoned = true → answers { s with
              queue := alone (job .printing Causes.none)
              engine := { e with condition := .printing, memory := 0, line := first }
              link := s.link.push (accepted .printing none) }) ∧
            (∀ l r, e.abandoned = false → e.row = none → e.cutter = .rest → s.quietSupply →
              s.drawer.state ≠ .waitSupply → records[0]? = some r → first = some l → 0 < lineRows r l.spacing →
              ∃ u : State, answers { s with
                  queue := alone (job .printing Causes.none)
                  engine := u.engine
                  supply := u.supply
                  link := s.link.push (accepted .printing none) } ∧
                u.engine.row.map RowProgress.dots = some (rowDots r 0) ∧
                u.engine = { e with
                  condition := .printing, memory := 0, line := some l, band := bandOf s.inputs.headTemp
                  row := u.engine.row, phase := u.engine.phase, stepRunning := u.engine.stepRunning
                  periodInForce := u.engine.periodInForce, speedIndex := u.engine.speedIndex
                  pendingPeriod := u.engine.pendingPeriod })))) ∧
    (∃ t, exec (.printerClear tag) s = .next t ∧ t.queue = { s.queue with jobs := [] } ∧
      t.sale.current = s.sale.current ∧
      t.sale.closed = (s.sale.closed.map fun c =>
        if (jobs.any fun j => j.kind == .original) then { c with receipt := .aborted } else c) ∧
      (e.condition ≠ .fault → t.engine.condition = .idle ∧ t.engine.line = none ∧ t.engine.row = none) ∧
      (e.condition = .fault → s.inputs.cutterHome = false →
        t.engine.condition = .fault ∧ t.engine.clearTaken = true ∧ t.engine.cutter = e.cutter) ∧
      (e.condition = .fault → s.inputs.cutterHome = true →
        t.engine.condition = .idle ∧ t.engine.cutter = .rest ∧ t.engine.clearTaken = false) ∧
      t.link.reply = some { kind := 0xA6, tag := tag, status := .ok, fields := .empty } ∧
      t = { s with
        sale := t.sale, drawer := t.drawer, supply := t.supply, queue := t.queue, engine := t.engine, link := t.link }) ∧
    let began := (jobs.head?.map Job.state).any fun st => st != .queued
    let aborted := jobs.foldl (fun l j => l.push (.printJob j.id j.kind .aborted (some j.state) .cleared none
      j.saleNumber (j.cursor - 1) j.lineCount)) s.link
    let stopped : Engine := { e with
      line := none
      row := none
      speedIndex := if began then 0 else e.speedIndex
      pendingPeriod := if began then 2500 else e.pendingPeriod }
    let clears : State → Prop := fun u => exec (.printerClear tag) s = .next (State.replies 0x26 tag .ok .empty { u with
      queue := { s.queue with jobs := [] }
      sale := { s.sale with closed := s.sale.closed.map fun c =>
        if (jobs.any fun j => j.kind == .original) then { c with receipt := .aborted } else c } })
    (e.condition = .fault → s.inputs.cutterHome = false →
      clears { s with engine := { stopped with clearTaken := true }, link := aborted }) ∧
    (e.condition = .fault → s.inputs.cutterHome = true → clears { s with
      engine := { stopped with
        condition := .idle, cutter := .rest, clearTaken := false, speedIndex := 0, pendingPeriod := 2500 }
      link := aborted.push (.printerState .idle .fault e.causes e.paperLow .faultLeft none) }) ∧
    ∀ c m h, e.condition ≠ .fault →
      (s.supply.waiting = { noNeed with cutter := c } ∨ s.supply.waiting = { noNeed with motor := m } ∨
        s.supply.waiting = { noNeed with head := h }) ∧ s.drawer.state ≠ .waitSupply ∨
      s.supply.waiting = { drawer := some 14, cutter := c, motor := m, head := h } ∧
        (s.supply.low = true ∨ s.supply.budget - s.supply.granted.total < 14) →
      clears { s with
        supply := { s.supply with waiting := { noNeed with drawer := s.supply.waiting.drawer } }
        engine := { stopped with
          condition := .idle
          cutter := if e.cutter = .waiting then .rest else e.cutter
          abandoned := e.phase.isSome || e.stepRunning.isSome || e.cutter == .cutting }
        link := if e.condition = .paused then
          aborted.push (.printerState .idle .paused e.causes e.paperLow .jobEnded none) else aborted }

/-- The printer's sensors (R153, R154, R166, R167, R174 to R177, R181). Paper out, an open cover or a head at 65 degrees
raised while printing pauses the printer and its job, with the speed index at 0, the memory white and the row in progress
given the pause mark, which keeps its end from filling the memory. In PAUSED a cause raised or gone while others are held
changes the reasons alone, but for a line stopped within a TEXT line's glyph rows, which PAPER_OUT or COVER_OPEN raised
now, or held beside the cause raised, marks interrupted. When the last cause goes the condition is PRINTING again, with one
PRINTER_STATE before the job's PRINT_JOB RESUMED, and the engine goes on where it stopped: in the row in progress, at the
next row, from an interrupted line's first row, or with the cutter's request. In IDLE and in FAULT a cause only joins or
leaves the set, with one report; the paper-low warning and a head reading between the limits pause nothing. That a sensor
command with the level already held changes nothing is the model's choice (log 3), and so is that a line none of whose rows
has begun reads `line_spacing` again as its first row begins (log 22). -/
def Obligations.PrinterSensors : Prop :=
  ∀ (s : State) (j : Job) (rest : List Job) (k : PauseCause), s.powered = true →
    let reads : Bool → Instr → State → Prop := fun raised c t =>
      k = .paperOut ∧ c = .paperSensor raised ∧ t = s ∨ k = .coverOpen ∧ c = .coverSensor raised ∧ t = s ∨
        k = .headHot ∧ ∃ x, c = .headTemperature x ∧ (if raised then 65 ≤ x else x ≤ 55) ∧
          t = { s with inputs := { s.inputs with headTemp := x } }
    let e := s.engine
    let jobWith : JobState → Causes → PrintQueue := fun st c =>
      { s.queue with jobs := { j with state := st, reasons := c } :: rest }
    let setReport : PrinterCondition → Causes → PrinterEvent → Link := fun cond c ev =>
      s.link.push (.printerState cond cond c e.paperLow ev (some k))
    (∀ i t, reads true i t → ∀ c, c = e.causes.put k true →
      (e.causes.has k = true → exec i s = .next (endEvent t)) ∧
      (e.causes.has k = false → e.condition = .printing → s.queue.jobs = j :: rest → exec i s = .next (endEvent { t with
        queue := jobWith .paused c
        engine := { e with
          causes := c
          condition := .paused
          memory := 0
          row := e.row.map fun r => { r with pauseMark := true }
          speedIndex := 0
          pendingPeriod := 2500 }
        link := (s.link.push (.printerState .paused .printing c e.paperLow .causeRaised (some k))).push
          (.printJob j.id j.kind .paused (some j.state) .paused (some c) j.saleNumber (j.cursor - 1)
            j.lineCount) })) ∧
      (e.causes.has k = false → e.condition = .idle ∨ e.condition = .fault → exec i s = .next (endEvent { t with
        engine := { e with causes := c }, link := setReport e.condition c .causeRaised })) ∧
      (e.causes.has k = false → e.condition = .paused → s.queue.jobs = j :: rest → j.state = .paused →
        (e.row ≠ none ∨ e.line = none → exec i s = .next (endEvent { t with
          queue := jobWith .paused c, engine := { e with causes := c }, link := setReport .paused c .causeRaised })) ∧
        (∀ l, e.row = none → e.line = some l → exec i s = .next (endEvent { t with
          queue := jobWith .paused c
          engine := { e with
            causes := c
            line := some { l with interrupted := l.interrupted || decide (1 ≤ l.rowsDone ∧
              l.rowsDone < glyphRows l.record ∧ (k ≠ .headHot ∨ e.causes.paperOut ∨ e.causes.coverOpen)) } }
          link := setReport .paused c .causeRaised })))) ∧
    (∀ i t, reads false i t → ∀ c, c = e.causes.put k false →
      (e.causes.has k = false → exec i s = .next (endEvent t)) ∧
      (e.causes.has k = true → e.condition = .idle ∨ e.condition = .fault → exec i s = .next (endEvent { t with
        engine := { e with causes := c }, link := setReport e.condition c .causeGone })) ∧
      (e.causes.has k = true → e.condition = .paused → s.queue.jobs = j :: rest → j.state = .paused →
        (c.held = true → exec i s = .next (endEvent { t with
          queue := jobWith .paused c, engine := { e with causes := c }, link := setReport .paused c .causeGone })) ∧
        ∀ going : State, c = Causes.none → going = { t with
            queue := jobWith .printing Causes.none
            engine := { e with causes := Causes.none, condition := .printing }
            link := (s.link.push (.printerState .printing .paused Causes.none e.paperLow .causeGone (some k))).push
              (.printJob j.id j.kind .printing (some j.state) .resumed none j.saleNumber (j.cursor - 1) j.lineCount) } →
          (e.row ≠ none ∨ e.line = none ∨ e.cutter ≠ .rest →
            (∀ l, e.line = some l → e.row = none → l.interrupted = false) →
            exec i s = .next (endEvent going)) ∧
          (∀ l r, e.row = none → e.cutter = .rest → e.abandoned = false → s.quietSupply →
            s.drawer.state ≠ .waitSupply → e.line = some l →
            s.supply.granted.head = 0 → s.supply.granted.motor = 0 → s.supply.granted.cutter = 0 →
            (l.interrupted = true → jobLine s { j with state := .printing, reasons := Causes.none } = some r →
              0 < lineRows r s.store.live.lineSpacing →
              ∃ u, exec i s = .next (endEvent u) ∧
                u.engine.line = some
                  { record := r, rowsDone := 0, spacing := s.store.live.lineSpacing, interrupted := false } ∧
                u.engine.row.map RowProgress.dots = some (rowDots r 0) ∧
                u = { going with engine := u.engine, supply := u.supply }) ∧
            (l.interrupted = false → 1 ≤ l.rowsDone → l.rowsDone < lineRows l.record l.spacing →
              ∃ u, exec i s = .next (endEvent u) ∧ u.engine.line = some l ∧
                u.engine.row.map RowProgress.dots = some (rowDots l.record l.rowsDone) ∧
                u = { going with engine := u.engine, supply := u.supply }) ∧
            (l.interrupted = false → l.rowsDone = 0 → 0 < lineRows l.record s.store.live.lineSpacing →
              ∃ u, exec i s = .next (endEvent u) ∧
                u.engine.line = some { l with spacing := s.store.live.lineSpacing } ∧
                u.engine.row.map RowProgress.dots = some (rowDots l.record 0) ∧
                u = { going with engine := u.engine, supply := u.supply }) ∧
            (l.interrupted = false → l.record = .cut → l.rowsDone = 64 →
              (8 ≤ s.supply.budget - s.supply.granted.drawer → exec i s = .next (endEvent { going with
                engine := { going.engine with
                  cutter := .cutting, cutTimer := some 1000, seenAway := !s.inputs.cutterHome }
                supply := { s.supply with granted := { s.supply.granted with cutter := 8 } } })) ∧
              (s.supply.budget - s.supply.granted.drawer < 8 → exec i s = .next (endEvent { going with
                engine := { going.engine with cutter := .waiting }
                supply := { s.supply with waiting := { s.supply.waiting with cutter := some 8 } } })))))) ∧
    (∀ x, 55 < x → x < 65 →
      exec (.headTemperature x) s = .next (endEvent { s with inputs := { s.inputs with headTemp := x } })) ∧
    ∀ lvl,
      (e.paperLow ≠ lvl → exec (.paperLowSensor lvl) s = .next (endEvent { s with
        engine := { e with paperLow := lvl }
        link := s.link.push (.printerState e.condition e.condition e.causes lvl .paperLow none) })) ∧
      (e.paperLow = lvl → exec (.paperLowSensor lvl) s = .next (endEvent s))

/-- A row from its begin to its end (R140, R153, R169 to R177). A row that begins takes the band and the strobe times from
the tables and classes its black dots against the previous-row memory. Its first request, and the one at a phase's end, is for
the dots of the new class still to be strobed, then for those of the history class: one unit for each 32 dots or part of 32,
at most 12, granted as far as units are free, so that 32 dots for each unit follow from the left; with none free it waits
whole. With no dots left the first paper step begins at the pending period, or waits for its 3 units with the speed index at
0; its end begins the second; the second's end ends the row. The memory takes the row's dots and the speed index rises by one,
or, under the pause mark, the memory is white and the index stays, also where PRINTING has returned. While PRINTING the next
row of the line begins, or after row 64 of a CUT the cutter asks for its 8 units, or the cursor moves past a TEXT or FEED line
and the first row of the next line begins. While PAUSED the engine stops there, and a TEXT line stopped within its glyph rows
with PAPER_OUT or COVER_OPEN held is interrupted. That an end of a phase or step that is not in progress changes nothing is
the model's choice (log 3), and so is that a line given while PAUSED shows `line_spacing` as it is then (log 22). -/
def Obligations.RowRunsToItsEnd : Prop :=
  (∀ (d k : Dots) (n : Nat), k = leftmostDots d n →
    let black : Dots → Nat := fun x => ((List.range 384).filter fun i => x.getLsbD i).length
    k &&& ~~~d = 0 ∧ black k = min n (black d) ∧
      ∀ i j, k.getLsbD i = true → (d &&& ~~~k).getLsbD j = true → i < j) ∧
  ∀ (s : State) (r : RowProgress) (l : LineProgress), s.powered = true → s.quietSupply →
    s.drawer.state ≠ .waitSupply → s.engine.abandoned = false → s.engine.row = some r → s.engine.line = some l →
    let e := s.engine
    let g := s.supply.granted
    let desired : Dots → Nat := fun d => min 12 ((((List.range 384).filter fun i => d.getLsbD i).length + 31) / 32)
    let period : Nat → Nat := fun i => [2500, 1800, 1400, 1200, 1050, 950, 880].getD i 830
    let heat : Band × Nat :=
      let x := s.inputs.headTemp
      if x < 10 then (.a, 760) else if x < 20 then (.b, 700) else if x < 30 then (.c, 640) else if x < 40 then (.d, 580)
      else if x < 50 then (.e, 520) else if x < 60 then (.f, 460) else (.g, 400)
    let glyphs : LineRecord → Nat := fun x =>
      match x with
      | .text _ _ doubleHeight _ _ => if doubleHeight then 48 else 24
      | _ => 0
    let rows : LineProgress → Nat := fun x =>
      match x.record with
      | .feed n => n
      | .cut => 64
      | _ => glyphs x.record + x.spacing
    let requests : Instr → State → RowProgress → Prop := fun c t w =>
      let h := t.supply.granted
      let free := t.supply.budget - (h.drawer + h.cutter + h.motor + h.head)
      let strobes : RowProgress → Dots → Nat → Nat → Prop := fun left d time units => exec c s = .next (endEvent { t with
        engine := { t.engine with row := some left, phase := some { dots := d, duration := time } }
        supply := { t.supply with granted := { h with head := units } } })
      let waits : Engine → Needs → Prop := fun x need => exec c s = .next (endEvent { t with
        engine := { x with row := some w }, supply := { t.supply with waiting := need } })
      (∀ d k, w.newLeft ≠ 0 → k = min (desired w.newLeft) free → d = leftmostDots w.newLeft (32 * k) →
        (1 ≤ free → strobes { w with newLeft := w.newLeft &&& ~~~d } d w.newTime k) ∧
        (free = 0 → waits t.engine { t.supply.waiting with head := some (desired w.newLeft) })) ∧
      (∀ d k, w.newLeft = 0 → w.histLeft ≠ 0 → k = min (desired w.histLeft) free →
        d = leftmostDots w.histLeft (32 * k) →
        (1 ≤ free → strobes { w with histLeft := w.histLeft &&& ~~~d } d w.histTime k) ∧
        (free = 0 → waits t.engine { t.supply.waiting with head := some (desired w.histLeft) })) ∧
      (w.newLeft = 0 → w.histLeft = 0 →
        (3 ≤ free → exec c s = .next (endEvent { t with
          engine := { t.engine with
            row := some w, stepRunning := some t.engine.pendingPeriod, periodInForce := t.engine.pendingPeriod }
          supply := { t.supply with granted := { h with motor := 3 } } })) ∧
        (free < 3 → waits { t.engine with speedIndex := 0, pendingPeriod := 2500 }
          { t.supply.waiting with motor := some 3 }))
    let begins : State → LineProgress → Prop := fun t x =>
      let dots := rowDots x.record x.rowsDone
      let time := heat.2 * s.store.live.printDensity / 100
      x.rowsDone < rows x → requests .stepEnd { t with engine := { t.engine with band := heat.1, line := some x } }
        { dots := dots, newLeft := dots &&& ~~~t.engine.memory, histLeft := dots &&& t.engine.memory, newTime := time
          histTime := time * 3 / 4, pauseMark := false, stepsDone := 0 }
    (∀ p, e.phase = some p → g.motor = 0 → requests .phaseEnd { s with
      engine := { e with phase := none }, supply := { s.supply with granted := { g with head := 0 } } } r) ∧
    (∀ q, e.stepRunning = some q → g.motor = 3 → r.stepsDone = 0 →
      let free := s.supply.budget - (g.drawer + g.cutter + g.head)
      (3 ≤ free → exec .stepEnd s = .next (endEvent { s with engine :=
        { e with
          row := some { r with stepsDone := 1 }
          stepRunning := some e.pendingPeriod
          periodInForce := e.pendingPeriod } })) ∧
      (free < 3 → exec .stepEnd s = .next (endEvent { s with
        engine := { e with row := some { r with stepsDone := 1 }, stepRunning := none, speedIndex := 0, pendingPeriod := 2500 }
        supply := { s.supply with
          granted := { g with motor := 0 }, waiting := { s.supply.waiting with motor := some 3 } } }))) ∧
    (∀ q, e.stepRunning = some q → g.motor = 3 → g.head = 0 → r.stepsDone = 1 →
      let index := min 7 (e.speedIndex + 1)
      let ended : Engine := { e with
        row := none
        stepRunning := none
        memory := if r.pauseMark then 0 else r.dots
        speedIndex := if r.pauseMark then e.speedIndex else index
        pendingPeriod := if r.pauseMark then e.pendingPeriod else period index }
      let t : State := { s with engine := ended, supply := { s.supply with granted := { g with motor := 0 } } }
      let free := s.supply.budget - (g.drawer + g.cutter)
      let x : LineProgress := { l with rowsDone := l.rowsDone + 1 }
      let answers : Engine → Supply → PrintQueue → Prop := fun y v q =>
        exec .stepEnd s = .next (endEvent { t with engine := y, supply := v, queue := q })
      (x.rowsDone < rows l ∨ x.rowsDone = rows l ∧ l.record = .cut → e.condition = .paused →
        answers { ended with
          line := some { x with
            interrupted := l.interrupted ||
              (decide (x.rowsDone < glyphs l.record) && (e.causes.paperOut || e.causes.coverOpen)) } } t.supply s.queue) ∧
      (x.rowsDone < rows l → e.condition = .printing → e.cutter = .rest → begins t x) ∧
      (x.rowsDone = rows l → l.record = .cut → e.condition = .printing → e.cutter = .rest →
        (8 ≤ free → answers
          { ended with line := some x, cutter := .cutting, cutTimer := some 1000, seenAway := !s.inputs.cutterHome }
          { t.supply with granted := { g with motor := 0, cutter := g.cutter + 8 } } s.queue) ∧
        (free < 8 → answers { ended with line := some x, cutter := .waiting }
          { t.supply with waiting := { t.supply.waiting with cutter := some 8 } } s.queue)) ∧
      ∀ (j j' : Job) (rest : List Job) (y : LineRecord) (z : LineProgress) (q : PrintQueue), x.rowsDone = rows l →
        l.record ≠ .cut → s.queue.jobs = j :: rest → j.state ≠ .queued → j.cursor < j.lineCount →
        j' = { j with cursor := j.cursor + 1 } → jobLine s j' = some y →
        z = { record := y, rowsDone := 0, spacing := s.store.live.lineSpacing, interrupted := false } →
        q = { s.queue with jobs := j' :: rest } →
        (e.condition = .paused → answers { ended with line := some z } t.supply q) ∧
        (e.condition = .printing → e.cutter = .rest → begins { t with queue := q } z)) ∧
    (e.phase = none → exec .phaseEnd s = .next (endEvent s)) ∧
    (e.stepRunning = none → exec .stepEnd s = .next (endEvent s))

/-- The cut cycle (R69, R152, R153, R177 to R179): the sensor's departure is remembered while CUTTING; its return then ends
the cycle. A CUT that is not its job's last line moves the cursor and the next line is given, whose first row begins while
PRINTING. The job's last line ends it DONE: the closed slot of an ORIGINAL becomes RECEIPT_DONE, and a COPY and a TEXT job
leave it; with no job behind it the printer is IDLE, with PRINTER_STATE only from PAUSED, and otherwise the next job starts
with cause STARTED, PRINTING with its first row begun, or PAUSED with the causes held. An expired cut timer jams the cutter
and puts the printer in FAULT; a return after PRINTER_CLEAR leaves FAULT, and a QUEUED job then first in the list starts at
once, PAUSED while a cause is held and otherwise PRINTING with its first row begun, the reports in R181's order. That a timer
that does not run expires into nothing is the model's choice (log 3), and so are the line kept through FAULT (log 34), that
clear taken is no once FAULT is left (log 42) and that leaving FAULT and starting into PAUSED are two changes with a report
each (log 20). -/
def Obligations.CutCycleEnds : Prop :=
  ∀ (s : State) (j : Job), s.powered = true → s.quietSupply → s.drawer.state ≠ .waitSupply →
    let e := s.engine
    let home : Inputs := { s.inputs with cutterHome := true }
    let freed : Supply := { s.supply with granted := { s.supply.granted with cutter := 0 } }
    let idle : Engine := { e with
      condition := .idle, cutter := .rest, clearTaken := false, line := none, speedIndex := 0, pendingPeriod := 2500 }
    let left : Link := s.link.push (.printerState .idle .fault e.causes e.paperLow .faultLeft none)
    let returns : State → Prop := fun t => exec .homeSensorReturn s = .next (endEvent t)
    let given : LineRecord → LineProgress := fun r =>
      { record := r, rowsDone := 0, spacing := s.store.live.lineSpacing, interrupted := false }
    let beginsLine : State → Job → Prop := fun t k =>
      ∀ r, jobLine t k = some r → e.row = none → 0 < lineRows r s.store.live.lineSpacing →
        ∃ u : State, returns { t with engine := u.engine, supply := u.supply } ∧
          u.engine.row.map RowProgress.dots = some (rowDots r 0) ∧
          u.engine = { t.engine with
            line := some (given r), band := bandOf s.inputs.headTemp, row := u.engine.row, phase := u.engine.phase
            stepRunning := u.engine.stepRunning, periodInForce := u.engine.periodInForce
            speedIndex := u.engine.speedIndex, pendingPeriod := u.engine.pendingPeriod }
    exec .homeSensorAway s = .next (endEvent { s with
      inputs := { s.inputs with cutterHome := false }
      engine := { e with seenAway := e.seenAway || decide (e.cutter = .cutting) } }) ∧
    (e.cutter ≠ .cutting ∨ e.seenAway = false → e.condition ≠ .fault ∨ e.clearTaken = false →
      returns { s with inputs := home }) ∧
    (∀ (rest : List Job) (j' : Job), e.cutter = .cutting → e.seenAway = true →
      e.condition = .printing ∨ e.condition = .paused → e.abandoned = false → s.queue.jobs = j :: rest →
      j.state ≠ .queued → j.cursor < j.lineCount → j' = { j with cursor := j.cursor + 1 } →
      let t : State := { s with
        inputs := home
        supply := freed
        queue := { s.queue with jobs := j' :: rest }
        engine := { e with cutter := .rest, cutTimer := none, seenAway := false, speedIndex := 0, pendingPeriod := 2500 } }
      (e.condition = .printing → beginsLine t j') ∧
      (e.condition = .paused → returns { t with engine := { t.engine with line := (jobLine s j').map given } })) ∧
    (∀ rest : List Job, e.cutter = .cutting → e.seenAway = true →
      e.condition = .printing ∧ e.causes.held = false ∨ e.condition = .paused ∧ e.causes.held = true →
      e.abandoned = false → s.queue.jobs = j :: rest → j.cursor = j.lineCount →
      let t : State := { s with
        inputs := home
        supply := freed
        sale := { s.sale with closed :=
          if j.kind = .original then s.sale.closed.map fun c => { c with receipt := .done } else s.sale.closed }
        queue := { s.queue with jobs := rest }
        engine := { e with
          cutter := .rest, cutTimer := none, seenAway := false, speedIndex := 0, pendingPeriod := 2500, line := none }
        link := s.link.push (.printJob j.id j.kind .done (some j.state) .done none j.saleNumber j.lineCount j.lineCount) }
      (rest = [] → returns { t with
        engine := { t.engine with condition := .idle }
        link := if e.condition = .paused then
            t.link.push (.printerState .idle .paused e.causes e.paperLow .jobEnded none)
          else t.link }) ∧
      ∀ (k k' : Job) (more : List Job), rest = k :: more → k.state = .queued →
        (e.condition = .printing → k' = { k with state := .printing, reasons := Causes.none } →
          beginsLine { t with
            queue := { s.queue with jobs := k' :: more }
            engine := { t.engine with memory := 0 }
            link := t.link.push (.printJob k.id k.kind .printing (some .queued) .started none k.saleNumber (k.cursor - 1)
              k.lineCount) } k') ∧
        (e.condition = .paused → k' = { k with state := .paused, reasons := e.causes } →
          returns { t with
            queue := { s.queue with jobs := k' :: more }
            engine := { t.engine with memory := 0, line := (jobLine t k').map given }
            link := t.link.push (.printJob k.id k.kind .paused (some .queued) .started (some e.causes) k.saleNumber
              (k.cursor - 1) k.lineCount) })) ∧
    (e.condition = .fault → e.clearTaken = true →
      (s.queue.jobs = [] → returns { s with inputs := home, engine := idle, link := left }) ∧
      ∀ (rest : List Job) (j' : Job), s.queue.jobs = j :: rest → j.state = .queued →
        (e.causes.held = true → j' = { j with state := .paused, reasons := e.causes } → returns { s with
          inputs := home
          queue := { s.queue with jobs := j' :: rest }
          engine := { idle with condition := .paused, memory := 0, line := (jobLine s j').map given }
          link := (left.push (.printJob j.id j.kind .paused (some .queued) .started (some e.causes) j.saleNumber
              (j.cursor - 1) j.lineCount)).push
            (.printerState .paused .idle e.causes e.paperLow .jobStarted none) }) ∧
        (e.causes.held = false → j' = { j with state := .printing, reasons := Causes.none } → e.abandoned = false →
          beginsLine { s with
            inputs := home
            queue := { s.queue with jobs := j' :: rest }
            engine := { idle with condition := .printing, memory := 0 }
            link := left.push (.printJob j.id j.kind .printing (some .queued) .started none j.saleNumber (j.cursor - 1)
              j.lineCount) } j')) ∧
    (e.cutter = .cutting →
      exec .cutTimerExpiry s = .next (endEvent { s with
        supply := freed
        engine := { e with
          cutter := .jammed, cutTimer := none, clearTaken := false, abandoned := false, condition := .fault }
        link := s.link.push (.printerState .fault e.condition e.causes e.paperLow .jammed none) })) ∧
    (e.cutter ≠ .cutting → exec .cutTimerExpiry s = .next (endEvent s))
end

