-- ==== Sys2Proof/Decode.lean ====
section
/-! DEFINITION. The command that a word spells by the bits of spec/opcode_table.json. -/

namespace Sys2Proof

/-- The table gives no row any bits: commands are frames of the link and events of the lane, not words (log 37). -/
def decodeTableWord (_nbits _w : Nat) : Option Instr := none

end Sys2Proof
end

