-- ==== Sys2Proof/Laws/State.lean ====
section
/-! SUPPORT. What the updates of one block leave unchanged: one lemma for each update and each block it does not
touch. -/

namespace Sys2Proof.Machine

@[simp] theorem report_pending (r : Report) (s : State) : (report r s).pending = s.pending := rfl
@[simp] theorem report_powered (r : Report) (s : State) : (report r s).powered = s.powered := rfl
@[simp] theorem report_now (r : Report) (s : State) : (report r s).now = s.now := rfl
@[simp] theorem report_inputs (r : Report) (s : State) : (report r s).inputs = s.inputs := rfl
@[simp] theorem report_attendant (r : Report) (s : State) : (report r s).attendant = s.attendant := rfl
@[simp] theorem report_platter (r : Report) (s : State) : (report r s).platter = s.platter := rfl
@[simp] theorem report_bag (r : Report) (s : State) : (report r s).bag = s.bag := rfl
@[simp] theorem report_scale (r : Report) (s : State) : (report r s).scale = s.scale := rfl
@[simp] theorem report_settledS (r : Report) (s : State) : (report r s).settledS = s.settledS := rfl
@[simp] theorem report_sale (r : Report) (s : State) : (report r s).sale = s.sale := rfl
@[simp] theorem report_monitor (r : Report) (s : State) : (report r s).monitor = s.monitor := rfl
@[simp] theorem report_reader (r : Report) (s : State) : (report r s).reader = s.reader := rfl
@[simp] theorem report_drawer (r : Report) (s : State) : (report r s).drawer = s.drawer := rfl
@[simp] theorem report_tone (r : Report) (s : State) : (report r s).tone = s.tone := rfl
@[simp] theorem report_supply (r : Report) (s : State) : (report r s).supply = s.supply := rfl
@[simp] theorem report_queue (r : Report) (s : State) : (report r s).queue = s.queue := rfl
@[simp] theorem report_engine (r : Report) (s : State) : (report r s).engine = s.engine := rfl
@[simp] theorem report_store (r : Report) (s : State) : (report r s).store = s.store := rfl

@[simp] theorem formReply_pending (kind tag : Byte) (st : Status) (fields : ReplyFields) (s : State) : (formReply kind tag st fields s).pending = s.pending := rfl
@[simp] theorem formReply_powered (kind tag : Byte) (st : Status) (fields : ReplyFields) (s : State) : (formReply kind tag st fields s).powered = s.powered := rfl
@[simp] theorem formReply_now (kind tag : Byte) (st : Status) (fields : ReplyFields) (s : State) : (formReply kind tag st fields s).now = s.now := rfl
@[simp] theorem formReply_inputs (kind tag : Byte) (st : Status) (fields : ReplyFields) (s : State) : (formReply kind tag st fields s).inputs = s.inputs := rfl
@[simp] theorem formReply_attendant (kind tag : Byte) (st : Status) (fields : ReplyFields) (s : State) : (formReply kind tag st fields s).attendant = s.attendant := rfl
@[simp] theorem formReply_platter (kind tag : Byte) (st : Status) (fields : ReplyFields) (s : State) : (formReply kind tag st fields s).platter = s.platter := rfl
@[simp] theorem formReply_bag (kind tag : Byte) (st : Status) (fields : ReplyFields) (s : State) : (formReply kind tag st fields s).bag = s.bag := rfl
@[simp] theorem formReply_scale (kind tag : Byte) (st : Status) (fields : ReplyFields) (s : State) : (formReply kind tag st fields s).scale = s.scale := rfl
@[simp] theorem formReply_settledS (kind tag : Byte) (st : Status) (fields : ReplyFields) (s : State) : (formReply kind tag st fields s).settledS = s.settledS := rfl
@[simp] theorem formReply_sale (kind tag : Byte) (st : Status) (fields : ReplyFields) (s : State) : (formReply kind tag st fields s).sale = s.sale := rfl
@[simp] theorem formReply_monitor (kind tag : Byte) (st : Status) (fields : ReplyFields) (s : State) : (formReply kind tag st fields s).monitor = s.monitor := rfl
@[simp] theorem formReply_reader (kind tag : Byte) (st : Status) (fields : ReplyFields) (s : State) : (formReply kind tag st fields s).reader = s.reader := rfl
@[simp] theorem formReply_drawer (kind tag : Byte) (st : Status) (fields : ReplyFields) (s : State) : (formReply kind tag st fields s).drawer = s.drawer := rfl
@[simp] theorem formReply_tone (kind tag : Byte) (st : Status) (fields : ReplyFields) (s : State) : (formReply kind tag st fields s).tone = s.tone := rfl
@[simp] theorem formReply_supply (kind tag : Byte) (st : Status) (fields : ReplyFields) (s : State) : (formReply kind tag st fields s).supply = s.supply := rfl
@[simp] theorem formReply_queue (kind tag : Byte) (st : Status) (fields : ReplyFields) (s : State) : (formReply kind tag st fields s).queue = s.queue := rfl
@[simp] theorem formReply_engine (kind tag : Byte) (st : Status) (fields : ReplyFields) (s : State) : (formReply kind tag st fields s).engine = s.engine := rfl
@[simp] theorem formReply_store (kind tag : Byte) (st : Status) (fields : ReplyFields) (s : State) : (formReply kind tag st fields s).store = s.store := rfl

@[simp] theorem endEvent_pending (s : State) : (endEvent s).pending = s.pending := rfl
@[simp] theorem endEvent_powered (s : State) : (endEvent s).powered = s.powered := rfl
@[simp] theorem endEvent_now (s : State) : (endEvent s).now = s.now := rfl
@[simp] theorem endEvent_inputs (s : State) : (endEvent s).inputs = s.inputs := rfl
@[simp] theorem endEvent_attendant (s : State) : (endEvent s).attendant = s.attendant := rfl
@[simp] theorem endEvent_platter (s : State) : (endEvent s).platter = s.platter := rfl
@[simp] theorem endEvent_bag (s : State) : (endEvent s).bag = s.bag := rfl
@[simp] theorem endEvent_scale (s : State) : (endEvent s).scale = s.scale := rfl
@[simp] theorem endEvent_settledS (s : State) : (endEvent s).settledS = s.settledS := rfl
@[simp] theorem endEvent_sale (s : State) : (endEvent s).sale = s.sale := rfl
@[simp] theorem endEvent_monitor (s : State) : (endEvent s).monitor = s.monitor := rfl
@[simp] theorem endEvent_reader (s : State) : (endEvent s).reader = s.reader := rfl
@[simp] theorem endEvent_drawer (s : State) : (endEvent s).drawer = s.drawer := rfl
@[simp] theorem endEvent_tone (s : State) : (endEvent s).tone = s.tone := rfl
@[simp] theorem endEvent_supply (s : State) : (endEvent s).supply = s.supply := rfl
@[simp] theorem endEvent_queue (s : State) : (endEvent s).queue = s.queue := rfl
@[simp] theorem endEvent_engine (s : State) : (endEvent s).engine = s.engine := rfl
@[simp] theorem endEvent_store (s : State) : (endEvent s).store = s.store := rfl

@[simp] theorem setSlots_pending (fs : List Frame) (s : State) : (setSlots fs s).pending = s.pending := rfl
@[simp] theorem setSlots_powered (fs : List Frame) (s : State) : (setSlots fs s).powered = s.powered := rfl
@[simp] theorem setSlots_now (fs : List Frame) (s : State) : (setSlots fs s).now = s.now := rfl
@[simp] theorem setSlots_inputs (fs : List Frame) (s : State) : (setSlots fs s).inputs = s.inputs := rfl
@[simp] theorem setSlots_attendant (fs : List Frame) (s : State) : (setSlots fs s).attendant = s.attendant := rfl
@[simp] theorem setSlots_platter (fs : List Frame) (s : State) : (setSlots fs s).platter = s.platter := rfl
@[simp] theorem setSlots_bag (fs : List Frame) (s : State) : (setSlots fs s).bag = s.bag := rfl
@[simp] theorem setSlots_scale (fs : List Frame) (s : State) : (setSlots fs s).scale = s.scale := rfl
@[simp] theorem setSlots_settledS (fs : List Frame) (s : State) : (setSlots fs s).settledS = s.settledS := rfl
@[simp] theorem setSlots_sale (fs : List Frame) (s : State) : (setSlots fs s).sale = s.sale := rfl
@[simp] theorem setSlots_monitor (fs : List Frame) (s : State) : (setSlots fs s).monitor = s.monitor := rfl
@[simp] theorem setSlots_reader (fs : List Frame) (s : State) : (setSlots fs s).reader = s.reader := rfl
@[simp] theorem setSlots_drawer (fs : List Frame) (s : State) : (setSlots fs s).drawer = s.drawer := rfl
@[simp] theorem setSlots_tone (fs : List Frame) (s : State) : (setSlots fs s).tone = s.tone := rfl
@[simp] theorem setSlots_supply (fs : List Frame) (s : State) : (setSlots fs s).supply = s.supply := rfl
@[simp] theorem setSlots_queue (fs : List Frame) (s : State) : (setSlots fs s).queue = s.queue := rfl
@[simp] theorem setSlots_engine (fs : List Frame) (s : State) : (setSlots fs s).engine = s.engine := rfl
@[simp] theorem setSlots_store (fs : List Frame) (s : State) : (setSlots fs s).store = s.store := rfl

@[simp] theorem keepReceiving_pending (x : Receiver) (s : State) : (keepReceiving x s).pending = s.pending := rfl
@[simp] theorem keepReceiving_powered (x : Receiver) (s : State) : (keepReceiving x s).powered = s.powered := rfl
@[simp] theorem keepReceiving_now (x : Receiver) (s : State) : (keepReceiving x s).now = s.now := rfl
@[simp] theorem keepReceiving_inputs (x : Receiver) (s : State) : (keepReceiving x s).inputs = s.inputs := rfl
@[simp] theorem keepReceiving_attendant (x : Receiver) (s : State) : (keepReceiving x s).attendant = s.attendant := rfl
@[simp] theorem keepReceiving_platter (x : Receiver) (s : State) : (keepReceiving x s).platter = s.platter := rfl
@[simp] theorem keepReceiving_bag (x : Receiver) (s : State) : (keepReceiving x s).bag = s.bag := rfl
@[simp] theorem keepReceiving_scale (x : Receiver) (s : State) : (keepReceiving x s).scale = s.scale := rfl
@[simp] theorem keepReceiving_settledS (x : Receiver) (s : State) : (keepReceiving x s).settledS = s.settledS := rfl
@[simp] theorem keepReceiving_sale (x : Receiver) (s : State) : (keepReceiving x s).sale = s.sale := rfl
@[simp] theorem keepReceiving_monitor (x : Receiver) (s : State) : (keepReceiving x s).monitor = s.monitor := rfl
@[simp] theorem keepReceiving_reader (x : Receiver) (s : State) : (keepReceiving x s).reader = s.reader := rfl
@[simp] theorem keepReceiving_drawer (x : Receiver) (s : State) : (keepReceiving x s).drawer = s.drawer := rfl
@[simp] theorem keepReceiving_tone (x : Receiver) (s : State) : (keepReceiving x s).tone = s.tone := rfl
@[simp] theorem keepReceiving_supply (x : Receiver) (s : State) : (keepReceiving x s).supply = s.supply := rfl
@[simp] theorem keepReceiving_queue (x : Receiver) (s : State) : (keepReceiving x s).queue = s.queue := rfl
@[simp] theorem keepReceiving_engine (x : Receiver) (s : State) : (keepReceiving x s).engine = s.engine := rfl
@[simp] theorem keepReceiving_store (x : Receiver) (s : State) : (keepReceiving x s).store = s.store := rfl

@[simp] theorem huntAgain_pending (s : State) : (huntAgain s).pending = s.pending := rfl
@[simp] theorem huntAgain_powered (s : State) : (huntAgain s).powered = s.powered := rfl
@[simp] theorem huntAgain_now (s : State) : (huntAgain s).now = s.now := rfl
@[simp] theorem huntAgain_inputs (s : State) : (huntAgain s).inputs = s.inputs := rfl
@[simp] theorem huntAgain_attendant (s : State) : (huntAgain s).attendant = s.attendant := rfl
@[simp] theorem huntAgain_platter (s : State) : (huntAgain s).platter = s.platter := rfl
@[simp] theorem huntAgain_bag (s : State) : (huntAgain s).bag = s.bag := rfl
@[simp] theorem huntAgain_scale (s : State) : (huntAgain s).scale = s.scale := rfl
@[simp] theorem huntAgain_settledS (s : State) : (huntAgain s).settledS = s.settledS := rfl
@[simp] theorem huntAgain_sale (s : State) : (huntAgain s).sale = s.sale := rfl
@[simp] theorem huntAgain_monitor (s : State) : (huntAgain s).monitor = s.monitor := rfl
@[simp] theorem huntAgain_reader (s : State) : (huntAgain s).reader = s.reader := rfl
@[simp] theorem huntAgain_drawer (s : State) : (huntAgain s).drawer = s.drawer := rfl
@[simp] theorem huntAgain_tone (s : State) : (huntAgain s).tone = s.tone := rfl
@[simp] theorem huntAgain_supply (s : State) : (huntAgain s).supply = s.supply := rfl
@[simp] theorem huntAgain_queue (s : State) : (huntAgain s).queue = s.queue := rfl
@[simp] theorem huntAgain_engine (s : State) : (huntAgain s).engine = s.engine := rfl
@[simp] theorem huntAgain_store (s : State) : (huntAgain s).store = s.store := rfl

@[simp] theorem endFrame_pending (r : LinkErrorReason) (s : State) : (endFrame r s).pending = s.pending := rfl
@[simp] theorem endFrame_powered (r : LinkErrorReason) (s : State) : (endFrame r s).powered = s.powered := rfl
@[simp] theorem endFrame_now (r : LinkErrorReason) (s : State) : (endFrame r s).now = s.now := rfl
@[simp] theorem endFrame_inputs (r : LinkErrorReason) (s : State) : (endFrame r s).inputs = s.inputs := rfl
@[simp] theorem endFrame_attendant (r : LinkErrorReason) (s : State) : (endFrame r s).attendant = s.attendant := rfl
@[simp] theorem endFrame_platter (r : LinkErrorReason) (s : State) : (endFrame r s).platter = s.platter := rfl
@[simp] theorem endFrame_bag (r : LinkErrorReason) (s : State) : (endFrame r s).bag = s.bag := rfl
@[simp] theorem endFrame_scale (r : LinkErrorReason) (s : State) : (endFrame r s).scale = s.scale := rfl
@[simp] theorem endFrame_settledS (r : LinkErrorReason) (s : State) : (endFrame r s).settledS = s.settledS := rfl
@[simp] theorem endFrame_sale (r : LinkErrorReason) (s : State) : (endFrame r s).sale = s.sale := rfl
@[simp] theorem endFrame_monitor (r : LinkErrorReason) (s : State) : (endFrame r s).monitor = s.monitor := rfl
@[simp] theorem endFrame_reader (r : LinkErrorReason) (s : State) : (endFrame r s).reader = s.reader := rfl
@[simp] theorem endFrame_drawer (r : LinkErrorReason) (s : State) : (endFrame r s).drawer = s.drawer := rfl
@[simp] theorem endFrame_tone (r : LinkErrorReason) (s : State) : (endFrame r s).tone = s.tone := rfl
@[simp] theorem endFrame_supply (r : LinkErrorReason) (s : State) : (endFrame r s).supply = s.supply := rfl
@[simp] theorem endFrame_queue (r : LinkErrorReason) (s : State) : (endFrame r s).queue = s.queue := rfl
@[simp] theorem endFrame_engine (r : LinkErrorReason) (s : State) : (endFrame r s).engine = s.engine := rfl
@[simp] theorem endFrame_store (r : LinkErrorReason) (s : State) : (endFrame r s).store = s.store := rfl

@[simp] theorem mapSale_pending (f : SaleRecord → SaleRecord) (s : State) : (mapSale f s).pending = s.pending := rfl
@[simp] theorem mapSale_powered (f : SaleRecord → SaleRecord) (s : State) : (mapSale f s).powered = s.powered := rfl
@[simp] theorem mapSale_now (f : SaleRecord → SaleRecord) (s : State) : (mapSale f s).now = s.now := rfl
@[simp] theorem mapSale_inputs (f : SaleRecord → SaleRecord) (s : State) : (mapSale f s).inputs = s.inputs := rfl
@[simp] theorem mapSale_attendant (f : SaleRecord → SaleRecord) (s : State) : (mapSale f s).attendant = s.attendant := rfl
@[simp] theorem mapSale_platter (f : SaleRecord → SaleRecord) (s : State) : (mapSale f s).platter = s.platter := rfl
@[simp] theorem mapSale_bag (f : SaleRecord → SaleRecord) (s : State) : (mapSale f s).bag = s.bag := rfl
@[simp] theorem mapSale_scale (f : SaleRecord → SaleRecord) (s : State) : (mapSale f s).scale = s.scale := rfl
@[simp] theorem mapSale_settledS (f : SaleRecord → SaleRecord) (s : State) : (mapSale f s).settledS = s.settledS := rfl
@[simp] theorem mapSale_monitor (f : SaleRecord → SaleRecord) (s : State) : (mapSale f s).monitor = s.monitor := rfl
@[simp] theorem mapSale_reader (f : SaleRecord → SaleRecord) (s : State) : (mapSale f s).reader = s.reader := rfl
@[simp] theorem mapSale_drawer (f : SaleRecord → SaleRecord) (s : State) : (mapSale f s).drawer = s.drawer := rfl
@[simp] theorem mapSale_tone (f : SaleRecord → SaleRecord) (s : State) : (mapSale f s).tone = s.tone := rfl
@[simp] theorem mapSale_supply (f : SaleRecord → SaleRecord) (s : State) : (mapSale f s).supply = s.supply := rfl
@[simp] theorem mapSale_queue (f : SaleRecord → SaleRecord) (s : State) : (mapSale f s).queue = s.queue := rfl
@[simp] theorem mapSale_engine (f : SaleRecord → SaleRecord) (s : State) : (mapSale f s).engine = s.engine := rfl
@[simp] theorem mapSale_link (f : SaleRecord → SaleRecord) (s : State) : (mapSale f s).link = s.link := rfl
@[simp] theorem mapSale_store (f : SaleRecord → SaleRecord) (s : State) : (mapSale f s).store = s.store := rfl

@[simp] theorem setSale_pending (c : CurrentSale) (s : State) : (setSale c s).pending = s.pending := rfl
@[simp] theorem setSale_powered (c : CurrentSale) (s : State) : (setSale c s).powered = s.powered := rfl
@[simp] theorem setSale_now (c : CurrentSale) (s : State) : (setSale c s).now = s.now := rfl
@[simp] theorem setSale_inputs (c : CurrentSale) (s : State) : (setSale c s).inputs = s.inputs := rfl
@[simp] theorem setSale_attendant (c : CurrentSale) (s : State) : (setSale c s).attendant = s.attendant := rfl
@[simp] theorem setSale_platter (c : CurrentSale) (s : State) : (setSale c s).platter = s.platter := rfl
@[simp] theorem setSale_bag (c : CurrentSale) (s : State) : (setSale c s).bag = s.bag := rfl
@[simp] theorem setSale_scale (c : CurrentSale) (s : State) : (setSale c s).scale = s.scale := rfl
@[simp] theorem setSale_settledS (c : CurrentSale) (s : State) : (setSale c s).settledS = s.settledS := rfl
@[simp] theorem setSale_monitor (c : CurrentSale) (s : State) : (setSale c s).monitor = s.monitor := rfl
@[simp] theorem setSale_reader (c : CurrentSale) (s : State) : (setSale c s).reader = s.reader := rfl
@[simp] theorem setSale_drawer (c : CurrentSale) (s : State) : (setSale c s).drawer = s.drawer := rfl
@[simp] theorem setSale_tone (c : CurrentSale) (s : State) : (setSale c s).tone = s.tone := rfl
@[simp] theorem setSale_supply (c : CurrentSale) (s : State) : (setSale c s).supply = s.supply := rfl
@[simp] theorem setSale_queue (c : CurrentSale) (s : State) : (setSale c s).queue = s.queue := rfl
@[simp] theorem setSale_engine (c : CurrentSale) (s : State) : (setSale c s).engine = s.engine := rfl
@[simp] theorem setSale_link (c : CurrentSale) (s : State) : (setSale c s).link = s.link := rfl
@[simp] theorem setSale_store (c : CurrentSale) (s : State) : (setSale c s).store = s.store := rfl

@[simp] theorem setReceipt_pending (r : ReceiptState) (s : State) : (setReceipt r s).pending = s.pending := rfl
@[simp] theorem setReceipt_powered (r : ReceiptState) (s : State) : (setReceipt r s).powered = s.powered := rfl
@[simp] theorem setReceipt_now (r : ReceiptState) (s : State) : (setReceipt r s).now = s.now := rfl
@[simp] theorem setReceipt_inputs (r : ReceiptState) (s : State) : (setReceipt r s).inputs = s.inputs := rfl
@[simp] theorem setReceipt_attendant (r : ReceiptState) (s : State) : (setReceipt r s).attendant = s.attendant := rfl
@[simp] theorem setReceipt_platter (r : ReceiptState) (s : State) : (setReceipt r s).platter = s.platter := rfl
@[simp] theorem setReceipt_bag (r : ReceiptState) (s : State) : (setReceipt r s).bag = s.bag := rfl
@[simp] theorem setReceipt_scale (r : ReceiptState) (s : State) : (setReceipt r s).scale = s.scale := rfl
@[simp] theorem setReceipt_settledS (r : ReceiptState) (s : State) : (setReceipt r s).settledS = s.settledS := rfl
@[simp] theorem setReceipt_monitor (r : ReceiptState) (s : State) : (setReceipt r s).monitor = s.monitor := rfl
@[simp] theorem setReceipt_reader (r : ReceiptState) (s : State) : (setReceipt r s).reader = s.reader := rfl
@[simp] theorem setReceipt_drawer (r : ReceiptState) (s : State) : (setReceipt r s).drawer = s.drawer := rfl
@[simp] theorem setReceipt_tone (r : ReceiptState) (s : State) : (setReceipt r s).tone = s.tone := rfl
@[simp] theorem setReceipt_supply (r : ReceiptState) (s : State) : (setReceipt r s).supply = s.supply := rfl
@[simp] theorem setReceipt_queue (r : ReceiptState) (s : State) : (setReceipt r s).queue = s.queue := rfl
@[simp] theorem setReceipt_engine (r : ReceiptState) (s : State) : (setReceipt r s).engine = s.engine := rfl
@[simp] theorem setReceipt_link (r : ReceiptState) (s : State) : (setReceipt r s).link = s.link := rfl
@[simp] theorem setReceipt_store (r : ReceiptState) (s : State) : (setReceipt r s).store = s.store := rfl

@[simp] theorem saleReport_pending (left : SaleState) (cause : SaleCause) (r : SaleRecord) (change : Option Int) (s : State) : (saleReport left cause r change s).pending = s.pending := rfl
@[simp] theorem saleReport_powered (left : SaleState) (cause : SaleCause) (r : SaleRecord) (change : Option Int) (s : State) : (saleReport left cause r change s).powered = s.powered := rfl
@[simp] theorem saleReport_now (left : SaleState) (cause : SaleCause) (r : SaleRecord) (change : Option Int) (s : State) : (saleReport left cause r change s).now = s.now := rfl
@[simp] theorem saleReport_inputs (left : SaleState) (cause : SaleCause) (r : SaleRecord) (change : Option Int) (s : State) : (saleReport left cause r change s).inputs = s.inputs := rfl
@[simp] theorem saleReport_attendant (left : SaleState) (cause : SaleCause) (r : SaleRecord) (change : Option Int) (s : State) : (saleReport left cause r change s).attendant = s.attendant := rfl
@[simp] theorem saleReport_platter (left : SaleState) (cause : SaleCause) (r : SaleRecord) (change : Option Int) (s : State) : (saleReport left cause r change s).platter = s.platter := rfl
@[simp] theorem saleReport_bag (left : SaleState) (cause : SaleCause) (r : SaleRecord) (change : Option Int) (s : State) : (saleReport left cause r change s).bag = s.bag := rfl
@[simp] theorem saleReport_scale (left : SaleState) (cause : SaleCause) (r : SaleRecord) (change : Option Int) (s : State) : (saleReport left cause r change s).scale = s.scale := rfl
@[simp] theorem saleReport_settledS (left : SaleState) (cause : SaleCause) (r : SaleRecord) (change : Option Int) (s : State) : (saleReport left cause r change s).settledS = s.settledS := rfl
@[simp] theorem saleReport_sale (left : SaleState) (cause : SaleCause) (r : SaleRecord) (change : Option Int) (s : State) : (saleReport left cause r change s).sale = s.sale := rfl
@[simp] theorem saleReport_monitor (left : SaleState) (cause : SaleCause) (r : SaleRecord) (change : Option Int) (s : State) : (saleReport left cause r change s).monitor = s.monitor := rfl
@[simp] theorem saleReport_reader (left : SaleState) (cause : SaleCause) (r : SaleRecord) (change : Option Int) (s : State) : (saleReport left cause r change s).reader = s.reader := rfl
@[simp] theorem saleReport_drawer (left : SaleState) (cause : SaleCause) (r : SaleRecord) (change : Option Int) (s : State) : (saleReport left cause r change s).drawer = s.drawer := rfl
@[simp] theorem saleReport_tone (left : SaleState) (cause : SaleCause) (r : SaleRecord) (change : Option Int) (s : State) : (saleReport left cause r change s).tone = s.tone := rfl
@[simp] theorem saleReport_supply (left : SaleState) (cause : SaleCause) (r : SaleRecord) (change : Option Int) (s : State) : (saleReport left cause r change s).supply = s.supply := rfl
@[simp] theorem saleReport_queue (left : SaleState) (cause : SaleCause) (r : SaleRecord) (change : Option Int) (s : State) : (saleReport left cause r change s).queue = s.queue := rfl
@[simp] theorem saleReport_engine (left : SaleState) (cause : SaleCause) (r : SaleRecord) (change : Option Int) (s : State) : (saleReport left cause r change s).engine = s.engine := rfl
@[simp] theorem saleReport_store (left : SaleState) (cause : SaleCause) (r : SaleRecord) (change : Option Int) (s : State) : (saleReport left cause r change s).store = s.store := rfl

@[simp] theorem mapMonitor_pending (f : Monitor → Monitor) (s : State) : (mapMonitor f s).pending = s.pending := rfl
@[simp] theorem mapMonitor_powered (f : Monitor → Monitor) (s : State) : (mapMonitor f s).powered = s.powered := rfl
@[simp] theorem mapMonitor_now (f : Monitor → Monitor) (s : State) : (mapMonitor f s).now = s.now := rfl
@[simp] theorem mapMonitor_inputs (f : Monitor → Monitor) (s : State) : (mapMonitor f s).inputs = s.inputs := rfl
@[simp] theorem mapMonitor_attendant (f : Monitor → Monitor) (s : State) : (mapMonitor f s).attendant = s.attendant := rfl
@[simp] theorem mapMonitor_platter (f : Monitor → Monitor) (s : State) : (mapMonitor f s).platter = s.platter := rfl
@[simp] theorem mapMonitor_bag (f : Monitor → Monitor) (s : State) : (mapMonitor f s).bag = s.bag := rfl
@[simp] theorem mapMonitor_scale (f : Monitor → Monitor) (s : State) : (mapMonitor f s).scale = s.scale := rfl
@[simp] theorem mapMonitor_settledS (f : Monitor → Monitor) (s : State) : (mapMonitor f s).settledS = s.settledS := rfl
@[simp] theorem mapMonitor_sale (f : Monitor → Monitor) (s : State) : (mapMonitor f s).sale = s.sale := rfl
@[simp] theorem mapMonitor_reader (f : Monitor → Monitor) (s : State) : (mapMonitor f s).reader = s.reader := rfl
@[simp] theorem mapMonitor_drawer (f : Monitor → Monitor) (s : State) : (mapMonitor f s).drawer = s.drawer := rfl
@[simp] theorem mapMonitor_tone (f : Monitor → Monitor) (s : State) : (mapMonitor f s).tone = s.tone := rfl
@[simp] theorem mapMonitor_supply (f : Monitor → Monitor) (s : State) : (mapMonitor f s).supply = s.supply := rfl
@[simp] theorem mapMonitor_queue (f : Monitor → Monitor) (s : State) : (mapMonitor f s).queue = s.queue := rfl
@[simp] theorem mapMonitor_engine (f : Monitor → Monitor) (s : State) : (mapMonitor f s).engine = s.engine := rfl
@[simp] theorem mapMonitor_link (f : Monitor → Monitor) (s : State) : (mapMonitor f s).link = s.link := rfl
@[simp] theorem mapMonitor_store (f : Monitor → Monitor) (s : State) : (mapMonitor f s).store = s.store := rfl

@[simp] theorem removeExpectation_pending (n : Nat) (s : State) : (removeExpectation n s).pending = s.pending := rfl
@[simp] theorem removeExpectation_powered (n : Nat) (s : State) : (removeExpectation n s).powered = s.powered := rfl
@[simp] theorem removeExpectation_now (n : Nat) (s : State) : (removeExpectation n s).now = s.now := rfl
@[simp] theorem removeExpectation_inputs (n : Nat) (s : State) : (removeExpectation n s).inputs = s.inputs := rfl
@[simp] theorem removeExpectation_attendant (n : Nat) (s : State) : (removeExpectation n s).attendant = s.attendant := rfl
@[simp] theorem removeExpectation_platter (n : Nat) (s : State) : (removeExpectation n s).platter = s.platter := rfl
@[simp] theorem removeExpectation_bag (n : Nat) (s : State) : (removeExpectation n s).bag = s.bag := rfl
@[simp] theorem removeExpectation_scale (n : Nat) (s : State) : (removeExpectation n s).scale = s.scale := rfl
@[simp] theorem removeExpectation_settledS (n : Nat) (s : State) : (removeExpectation n s).settledS = s.settledS := rfl
@[simp] theorem removeExpectation_sale (n : Nat) (s : State) : (removeExpectation n s).sale = s.sale := rfl
@[simp] theorem removeExpectation_reader (n : Nat) (s : State) : (removeExpectation n s).reader = s.reader := rfl
@[simp] theorem removeExpectation_drawer (n : Nat) (s : State) : (removeExpectation n s).drawer = s.drawer := rfl
@[simp] theorem removeExpectation_tone (n : Nat) (s : State) : (removeExpectation n s).tone = s.tone := rfl
@[simp] theorem removeExpectation_supply (n : Nat) (s : State) : (removeExpectation n s).supply = s.supply := rfl
@[simp] theorem removeExpectation_queue (n : Nat) (s : State) : (removeExpectation n s).queue = s.queue := rfl
@[simp] theorem removeExpectation_engine (n : Nat) (s : State) : (removeExpectation n s).engine = s.engine := rfl
@[simp] theorem removeExpectation_link (n : Nat) (s : State) : (removeExpectation n s).link = s.link := rfl
@[simp] theorem removeExpectation_store (n : Nat) (s : State) : (removeExpectation n s).store = s.store := rfl

@[simp] theorem discardUnclaimed_pending (s : State) : (discardUnclaimed s).pending = s.pending := rfl
@[simp] theorem discardUnclaimed_powered (s : State) : (discardUnclaimed s).powered = s.powered := rfl
@[simp] theorem discardUnclaimed_now (s : State) : (discardUnclaimed s).now = s.now := rfl
@[simp] theorem discardUnclaimed_inputs (s : State) : (discardUnclaimed s).inputs = s.inputs := rfl
@[simp] theorem discardUnclaimed_attendant (s : State) : (discardUnclaimed s).attendant = s.attendant := rfl
@[simp] theorem discardUnclaimed_platter (s : State) : (discardUnclaimed s).platter = s.platter := rfl
@[simp] theorem discardUnclaimed_bag (s : State) : (discardUnclaimed s).bag = s.bag := rfl
@[simp] theorem discardUnclaimed_scale (s : State) : (discardUnclaimed s).scale = s.scale := rfl
@[simp] theorem discardUnclaimed_settledS (s : State) : (discardUnclaimed s).settledS = s.settledS := rfl
@[simp] theorem discardUnclaimed_sale (s : State) : (discardUnclaimed s).sale = s.sale := rfl
@[simp] theorem discardUnclaimed_reader (s : State) : (discardUnclaimed s).reader = s.reader := rfl
@[simp] theorem discardUnclaimed_drawer (s : State) : (discardUnclaimed s).drawer = s.drawer := rfl
@[simp] theorem discardUnclaimed_tone (s : State) : (discardUnclaimed s).tone = s.tone := rfl
@[simp] theorem discardUnclaimed_supply (s : State) : (discardUnclaimed s).supply = s.supply := rfl
@[simp] theorem discardUnclaimed_queue (s : State) : (discardUnclaimed s).queue = s.queue := rfl
@[simp] theorem discardUnclaimed_engine (s : State) : (discardUnclaimed s).engine = s.engine := rfl
@[simp] theorem discardUnclaimed_link (s : State) : (discardUnclaimed s).link = s.link := rfl
@[simp] theorem discardUnclaimed_store (s : State) : (discardUnclaimed s).store = s.store := rfl

@[simp] theorem listExpectation_pending (n : Nat) (d : Direction) (w t : Nat) (s : State) : (listExpectation n d w t s).pending = s.pending := rfl
@[simp] theorem listExpectation_powered (n : Nat) (d : Direction) (w t : Nat) (s : State) : (listExpectation n d w t s).powered = s.powered := rfl
@[simp] theorem listExpectation_now (n : Nat) (d : Direction) (w t : Nat) (s : State) : (listExpectation n d w t s).now = s.now := rfl
@[simp] theorem listExpectation_inputs (n : Nat) (d : Direction) (w t : Nat) (s : State) : (listExpectation n d w t s).inputs = s.inputs := rfl
@[simp] theorem listExpectation_attendant (n : Nat) (d : Direction) (w t : Nat) (s : State) : (listExpectation n d w t s).attendant = s.attendant := rfl
@[simp] theorem listExpectation_platter (n : Nat) (d : Direction) (w t : Nat) (s : State) : (listExpectation n d w t s).platter = s.platter := rfl
@[simp] theorem listExpectation_bag (n : Nat) (d : Direction) (w t : Nat) (s : State) : (listExpectation n d w t s).bag = s.bag := rfl
@[simp] theorem listExpectation_scale (n : Nat) (d : Direction) (w t : Nat) (s : State) : (listExpectation n d w t s).scale = s.scale := rfl
@[simp] theorem listExpectation_settledS (n : Nat) (d : Direction) (w t : Nat) (s : State) : (listExpectation n d w t s).settledS = s.settledS := rfl
@[simp] theorem listExpectation_sale (n : Nat) (d : Direction) (w t : Nat) (s : State) : (listExpectation n d w t s).sale = s.sale := rfl
@[simp] theorem listExpectation_reader (n : Nat) (d : Direction) (w t : Nat) (s : State) : (listExpectation n d w t s).reader = s.reader := rfl
@[simp] theorem listExpectation_drawer (n : Nat) (d : Direction) (w t : Nat) (s : State) : (listExpectation n d w t s).drawer = s.drawer := rfl
@[simp] theorem listExpectation_tone (n : Nat) (d : Direction) (w t : Nat) (s : State) : (listExpectation n d w t s).tone = s.tone := rfl
@[simp] theorem listExpectation_supply (n : Nat) (d : Direction) (w t : Nat) (s : State) : (listExpectation n d w t s).supply = s.supply := rfl
@[simp] theorem listExpectation_queue (n : Nat) (d : Direction) (w t : Nat) (s : State) : (listExpectation n d w t s).queue = s.queue := rfl
@[simp] theorem listExpectation_engine (n : Nat) (d : Direction) (w t : Nat) (s : State) : (listExpectation n d w t s).engine = s.engine := rfl
@[simp] theorem listExpectation_link (n : Nat) (d : Direction) (w t : Nat) (s : State) : (listExpectation n d w t s).link = s.link := rfl
@[simp] theorem listExpectation_store (n : Nat) (d : Direction) (w t : Nat) (s : State) : (listExpectation n d w t s).store = s.store := rfl

@[simp] theorem placeHeld_pending (o : ToneOwner) (s : State) : (placeHeld o s).pending = s.pending := rfl
@[simp] theorem placeHeld_powered (o : ToneOwner) (s : State) : (placeHeld o s).powered = s.powered := rfl
@[simp] theorem placeHeld_now (o : ToneOwner) (s : State) : (placeHeld o s).now = s.now := rfl
@[simp] theorem placeHeld_inputs (o : ToneOwner) (s : State) : (placeHeld o s).inputs = s.inputs := rfl
@[simp] theorem placeHeld_attendant (o : ToneOwner) (s : State) : (placeHeld o s).attendant = s.attendant := rfl
@[simp] theorem placeHeld_platter (o : ToneOwner) (s : State) : (placeHeld o s).platter = s.platter := rfl
@[simp] theorem placeHeld_bag (o : ToneOwner) (s : State) : (placeHeld o s).bag = s.bag := rfl
@[simp] theorem placeHeld_scale (o : ToneOwner) (s : State) : (placeHeld o s).scale = s.scale := rfl
@[simp] theorem placeHeld_settledS (o : ToneOwner) (s : State) : (placeHeld o s).settledS = s.settledS := rfl
@[simp] theorem placeHeld_sale (o : ToneOwner) (s : State) : (placeHeld o s).sale = s.sale := rfl
@[simp] theorem placeHeld_monitor (o : ToneOwner) (s : State) : (placeHeld o s).monitor = s.monitor := rfl
@[simp] theorem placeHeld_reader (o : ToneOwner) (s : State) : (placeHeld o s).reader = s.reader := rfl
@[simp] theorem placeHeld_drawer (o : ToneOwner) (s : State) : (placeHeld o s).drawer = s.drawer := rfl
@[simp] theorem placeHeld_supply (o : ToneOwner) (s : State) : (placeHeld o s).supply = s.supply := rfl
@[simp] theorem placeHeld_queue (o : ToneOwner) (s : State) : (placeHeld o s).queue = s.queue := rfl
@[simp] theorem placeHeld_engine (o : ToneOwner) (s : State) : (placeHeld o s).engine = s.engine := rfl
@[simp] theorem placeHeld_link (o : ToneOwner) (s : State) : (placeHeld o s).link = s.link := rfl
@[simp] theorem placeHeld_store (o : ToneOwner) (s : State) : (placeHeld o s).store = s.store := rfl

@[simp] theorem withdrawHeld_pending (o : ToneOwner) (s : State) : (withdrawHeld o s).pending = s.pending := rfl
@[simp] theorem withdrawHeld_powered (o : ToneOwner) (s : State) : (withdrawHeld o s).powered = s.powered := rfl
@[simp] theorem withdrawHeld_now (o : ToneOwner) (s : State) : (withdrawHeld o s).now = s.now := rfl
@[simp] theorem withdrawHeld_inputs (o : ToneOwner) (s : State) : (withdrawHeld o s).inputs = s.inputs := rfl
@[simp] theorem withdrawHeld_attendant (o : ToneOwner) (s : State) : (withdrawHeld o s).attendant = s.attendant := rfl
@[simp] theorem withdrawHeld_platter (o : ToneOwner) (s : State) : (withdrawHeld o s).platter = s.platter := rfl
@[simp] theorem withdrawHeld_bag (o : ToneOwner) (s : State) : (withdrawHeld o s).bag = s.bag := rfl
@[simp] theorem withdrawHeld_scale (o : ToneOwner) (s : State) : (withdrawHeld o s).scale = s.scale := rfl
@[simp] theorem withdrawHeld_settledS (o : ToneOwner) (s : State) : (withdrawHeld o s).settledS = s.settledS := rfl
@[simp] theorem withdrawHeld_sale (o : ToneOwner) (s : State) : (withdrawHeld o s).sale = s.sale := rfl
@[simp] theorem withdrawHeld_monitor (o : ToneOwner) (s : State) : (withdrawHeld o s).monitor = s.monitor := rfl
@[simp] theorem withdrawHeld_reader (o : ToneOwner) (s : State) : (withdrawHeld o s).reader = s.reader := rfl
@[simp] theorem withdrawHeld_drawer (o : ToneOwner) (s : State) : (withdrawHeld o s).drawer = s.drawer := rfl
@[simp] theorem withdrawHeld_supply (o : ToneOwner) (s : State) : (withdrawHeld o s).supply = s.supply := rfl
@[simp] theorem withdrawHeld_queue (o : ToneOwner) (s : State) : (withdrawHeld o s).queue = s.queue := rfl
@[simp] theorem withdrawHeld_engine (o : ToneOwner) (s : State) : (withdrawHeld o s).engine = s.engine := rfl
@[simp] theorem withdrawHeld_link (o : ToneOwner) (s : State) : (withdrawHeld o s).link = s.link := rfl
@[simp] theorem withdrawHeld_store (o : ToneOwner) (s : State) : (withdrawHeld o s).store = s.store := rfl

@[simp] theorem placeOneShot_pending (o : ToneOwner) (b : Option BeepParams) (s : State) : (placeOneShot o b s).pending = s.pending := rfl
@[simp] theorem placeOneShot_powered (o : ToneOwner) (b : Option BeepParams) (s : State) : (placeOneShot o b s).powered = s.powered := rfl
@[simp] theorem placeOneShot_now (o : ToneOwner) (b : Option BeepParams) (s : State) : (placeOneShot o b s).now = s.now := rfl
@[simp] theorem placeOneShot_inputs (o : ToneOwner) (b : Option BeepParams) (s : State) : (placeOneShot o b s).inputs = s.inputs := rfl
@[simp] theorem placeOneShot_attendant (o : ToneOwner) (b : Option BeepParams) (s : State) : (placeOneShot o b s).attendant = s.attendant := rfl
@[simp] theorem placeOneShot_platter (o : ToneOwner) (b : Option BeepParams) (s : State) : (placeOneShot o b s).platter = s.platter := rfl
@[simp] theorem placeOneShot_bag (o : ToneOwner) (b : Option BeepParams) (s : State) : (placeOneShot o b s).bag = s.bag := rfl
@[simp] theorem placeOneShot_scale (o : ToneOwner) (b : Option BeepParams) (s : State) : (placeOneShot o b s).scale = s.scale := rfl
@[simp] theorem placeOneShot_settledS (o : ToneOwner) (b : Option BeepParams) (s : State) : (placeOneShot o b s).settledS = s.settledS := rfl
@[simp] theorem placeOneShot_sale (o : ToneOwner) (b : Option BeepParams) (s : State) : (placeOneShot o b s).sale = s.sale := rfl
@[simp] theorem placeOneShot_monitor (o : ToneOwner) (b : Option BeepParams) (s : State) : (placeOneShot o b s).monitor = s.monitor := rfl
@[simp] theorem placeOneShot_reader (o : ToneOwner) (b : Option BeepParams) (s : State) : (placeOneShot o b s).reader = s.reader := rfl
@[simp] theorem placeOneShot_drawer (o : ToneOwner) (b : Option BeepParams) (s : State) : (placeOneShot o b s).drawer = s.drawer := rfl
@[simp] theorem placeOneShot_supply (o : ToneOwner) (b : Option BeepParams) (s : State) : (placeOneShot o b s).supply = s.supply := rfl
@[simp] theorem placeOneShot_queue (o : ToneOwner) (b : Option BeepParams) (s : State) : (placeOneShot o b s).queue = s.queue := rfl
@[simp] theorem placeOneShot_engine (o : ToneOwner) (b : Option BeepParams) (s : State) : (placeOneShot o b s).engine = s.engine := rfl
@[simp] theorem placeOneShot_link (o : ToneOwner) (b : Option BeepParams) (s : State) : (placeOneShot o b s).link = s.link := rfl
@[simp] theorem placeOneShot_store (o : ToneOwner) (b : Option BeepParams) (s : State) : (placeOneShot o b s).store = s.store := rfl

@[simp] theorem placeCardBeep_pending (s : State) : (placeCardBeep s).pending = s.pending := rfl
@[simp] theorem placeCardBeep_powered (s : State) : (placeCardBeep s).powered = s.powered := rfl
@[simp] theorem placeCardBeep_now (s : State) : (placeCardBeep s).now = s.now := rfl
@[simp] theorem placeCardBeep_inputs (s : State) : (placeCardBeep s).inputs = s.inputs := rfl
@[simp] theorem placeCardBeep_attendant (s : State) : (placeCardBeep s).attendant = s.attendant := rfl
@[simp] theorem placeCardBeep_platter (s : State) : (placeCardBeep s).platter = s.platter := rfl
@[simp] theorem placeCardBeep_bag (s : State) : (placeCardBeep s).bag = s.bag := rfl
@[simp] theorem placeCardBeep_scale (s : State) : (placeCardBeep s).scale = s.scale := rfl
@[simp] theorem placeCardBeep_settledS (s : State) : (placeCardBeep s).settledS = s.settledS := rfl
@[simp] theorem placeCardBeep_sale (s : State) : (placeCardBeep s).sale = s.sale := rfl
@[simp] theorem placeCardBeep_monitor (s : State) : (placeCardBeep s).monitor = s.monitor := rfl
@[simp] theorem placeCardBeep_reader (s : State) : (placeCardBeep s).reader = s.reader := rfl
@[simp] theorem placeCardBeep_drawer (s : State) : (placeCardBeep s).drawer = s.drawer := rfl
@[simp] theorem placeCardBeep_supply (s : State) : (placeCardBeep s).supply = s.supply := rfl
@[simp] theorem placeCardBeep_queue (s : State) : (placeCardBeep s).queue = s.queue := rfl
@[simp] theorem placeCardBeep_engine (s : State) : (placeCardBeep s).engine = s.engine := rfl
@[simp] theorem placeCardBeep_link (s : State) : (placeCardBeep s).link = s.link := rfl
@[simp] theorem placeCardBeep_store (s : State) : (placeCardBeep s).store = s.store := rfl

@[simp] theorem placeNeed_pending (r : Requester) (n : Nat) (s : State) : (placeNeed r n s).pending = s.pending := rfl
@[simp] theorem placeNeed_powered (r : Requester) (n : Nat) (s : State) : (placeNeed r n s).powered = s.powered := rfl
@[simp] theorem placeNeed_now (r : Requester) (n : Nat) (s : State) : (placeNeed r n s).now = s.now := rfl
@[simp] theorem placeNeed_inputs (r : Requester) (n : Nat) (s : State) : (placeNeed r n s).inputs = s.inputs := rfl
@[simp] theorem placeNeed_attendant (r : Requester) (n : Nat) (s : State) : (placeNeed r n s).attendant = s.attendant := rfl
@[simp] theorem placeNeed_platter (r : Requester) (n : Nat) (s : State) : (placeNeed r n s).platter = s.platter := rfl
@[simp] theorem placeNeed_bag (r : Requester) (n : Nat) (s : State) : (placeNeed r n s).bag = s.bag := rfl
@[simp] theorem placeNeed_scale (r : Requester) (n : Nat) (s : State) : (placeNeed r n s).scale = s.scale := rfl
@[simp] theorem placeNeed_settledS (r : Requester) (n : Nat) (s : State) : (placeNeed r n s).settledS = s.settledS := rfl
@[simp] theorem placeNeed_sale (r : Requester) (n : Nat) (s : State) : (placeNeed r n s).sale = s.sale := rfl
@[simp] theorem placeNeed_monitor (r : Requester) (n : Nat) (s : State) : (placeNeed r n s).monitor = s.monitor := rfl
@[simp] theorem placeNeed_reader (r : Requester) (n : Nat) (s : State) : (placeNeed r n s).reader = s.reader := rfl
@[simp] theorem placeNeed_drawer (r : Requester) (n : Nat) (s : State) : (placeNeed r n s).drawer = s.drawer := rfl
@[simp] theorem placeNeed_tone (r : Requester) (n : Nat) (s : State) : (placeNeed r n s).tone = s.tone := rfl
@[simp] theorem placeNeed_queue (r : Requester) (n : Nat) (s : State) : (placeNeed r n s).queue = s.queue := rfl
@[simp] theorem placeNeed_engine (r : Requester) (n : Nat) (s : State) : (placeNeed r n s).engine = s.engine := rfl
@[simp] theorem placeNeed_link (r : Requester) (n : Nat) (s : State) : (placeNeed r n s).link = s.link := rfl
@[simp] theorem placeNeed_store (r : Requester) (n : Nat) (s : State) : (placeNeed r n s).store = s.store := rfl

@[simp] theorem drawerReport_pending (left : DrawerState) (cause : DrawerCause) (s : State) : (drawerReport left cause s).pending = s.pending := rfl
@[simp] theorem drawerReport_powered (left : DrawerState) (cause : DrawerCause) (s : State) : (drawerReport left cause s).powered = s.powered := rfl
@[simp] theorem drawerReport_now (left : DrawerState) (cause : DrawerCause) (s : State) : (drawerReport left cause s).now = s.now := rfl
@[simp] theorem drawerReport_inputs (left : DrawerState) (cause : DrawerCause) (s : State) : (drawerReport left cause s).inputs = s.inputs := rfl
@[simp] theorem drawerReport_attendant (left : DrawerState) (cause : DrawerCause) (s : State) : (drawerReport left cause s).attendant = s.attendant := rfl
@[simp] theorem drawerReport_platter (left : DrawerState) (cause : DrawerCause) (s : State) : (drawerReport left cause s).platter = s.platter := rfl
@[simp] theorem drawerReport_bag (left : DrawerState) (cause : DrawerCause) (s : State) : (drawerReport left cause s).bag = s.bag := rfl
@[simp] theorem drawerReport_scale (left : DrawerState) (cause : DrawerCause) (s : State) : (drawerReport left cause s).scale = s.scale := rfl
@[simp] theorem drawerReport_settledS (left : DrawerState) (cause : DrawerCause) (s : State) : (drawerReport left cause s).settledS = s.settledS := rfl
@[simp] theorem drawerReport_sale (left : DrawerState) (cause : DrawerCause) (s : State) : (drawerReport left cause s).sale = s.sale := rfl
@[simp] theorem drawerReport_monitor (left : DrawerState) (cause : DrawerCause) (s : State) : (drawerReport left cause s).monitor = s.monitor := rfl
@[simp] theorem drawerReport_reader (left : DrawerState) (cause : DrawerCause) (s : State) : (drawerReport left cause s).reader = s.reader := rfl
@[simp] theorem drawerReport_drawer (left : DrawerState) (cause : DrawerCause) (s : State) : (drawerReport left cause s).drawer = s.drawer := rfl
@[simp] theorem drawerReport_tone (left : DrawerState) (cause : DrawerCause) (s : State) : (drawerReport left cause s).tone = s.tone := rfl
@[simp] theorem drawerReport_supply (left : DrawerState) (cause : DrawerCause) (s : State) : (drawerReport left cause s).supply = s.supply := rfl
@[simp] theorem drawerReport_queue (left : DrawerState) (cause : DrawerCause) (s : State) : (drawerReport left cause s).queue = s.queue := rfl
@[simp] theorem drawerReport_engine (left : DrawerState) (cause : DrawerCause) (s : State) : (drawerReport left cause s).engine = s.engine := rfl
@[simp] theorem drawerReport_store (left : DrawerState) (cause : DrawerCause) (s : State) : (drawerReport left cause s).store = s.store := rfl

@[simp] theorem enterOpen_pending (s : State) : (enterOpen s).pending = s.pending := rfl
@[simp] theorem enterOpen_powered (s : State) : (enterOpen s).powered = s.powered := rfl
@[simp] theorem enterOpen_now (s : State) : (enterOpen s).now = s.now := rfl
@[simp] theorem enterOpen_inputs (s : State) : (enterOpen s).inputs = s.inputs := rfl
@[simp] theorem enterOpen_attendant (s : State) : (enterOpen s).attendant = s.attendant := rfl
@[simp] theorem enterOpen_platter (s : State) : (enterOpen s).platter = s.platter := rfl
@[simp] theorem enterOpen_bag (s : State) : (enterOpen s).bag = s.bag := rfl
@[simp] theorem enterOpen_scale (s : State) : (enterOpen s).scale = s.scale := rfl
@[simp] theorem enterOpen_settledS (s : State) : (enterOpen s).settledS = s.settledS := rfl
@[simp] theorem enterOpen_sale (s : State) : (enterOpen s).sale = s.sale := rfl
@[simp] theorem enterOpen_monitor (s : State) : (enterOpen s).monitor = s.monitor := rfl
@[simp] theorem enterOpen_reader (s : State) : (enterOpen s).reader = s.reader := rfl
@[simp] theorem enterOpen_tone (s : State) : (enterOpen s).tone = s.tone := rfl
@[simp] theorem enterOpen_supply (s : State) : (enterOpen s).supply = s.supply := rfl
@[simp] theorem enterOpen_queue (s : State) : (enterOpen s).queue = s.queue := rfl
@[simp] theorem enterOpen_engine (s : State) : (enterOpen s).engine = s.engine := rfl
@[simp] theorem enterOpen_link (s : State) : (enterOpen s).link = s.link := rfl
@[simp] theorem enterOpen_store (s : State) : (enterOpen s).store = s.store := rfl

@[simp] theorem enterClosed_pending (s : State) : (enterClosed s).pending = s.pending := rfl
@[simp] theorem enterClosed_powered (s : State) : (enterClosed s).powered = s.powered := rfl
@[simp] theorem enterClosed_now (s : State) : (enterClosed s).now = s.now := rfl
@[simp] theorem enterClosed_inputs (s : State) : (enterClosed s).inputs = s.inputs := rfl
@[simp] theorem enterClosed_attendant (s : State) : (enterClosed s).attendant = s.attendant := rfl
@[simp] theorem enterClosed_platter (s : State) : (enterClosed s).platter = s.platter := rfl
@[simp] theorem enterClosed_bag (s : State) : (enterClosed s).bag = s.bag := rfl
@[simp] theorem enterClosed_scale (s : State) : (enterClosed s).scale = s.scale := rfl
@[simp] theorem enterClosed_settledS (s : State) : (enterClosed s).settledS = s.settledS := rfl
@[simp] theorem enterClosed_sale (s : State) : (enterClosed s).sale = s.sale := rfl
@[simp] theorem enterClosed_monitor (s : State) : (enterClosed s).monitor = s.monitor := rfl
@[simp] theorem enterClosed_reader (s : State) : (enterClosed s).reader = s.reader := rfl
@[simp] theorem enterClosed_tone (s : State) : (enterClosed s).tone = s.tone := rfl
@[simp] theorem enterClosed_supply (s : State) : (enterClosed s).supply = s.supply := rfl
@[simp] theorem enterClosed_queue (s : State) : (enterClosed s).queue = s.queue := rfl
@[simp] theorem enterClosed_engine (s : State) : (enterClosed s).engine = s.engine := rfl
@[simp] theorem enterClosed_link (s : State) : (enterClosed s).link = s.link := rfl
@[simp] theorem enterClosed_store (s : State) : (enterClosed s).store = s.store := rfl

@[simp] theorem enterCool_pending (s : State) : (enterCool s).pending = s.pending := rfl
@[simp] theorem enterCool_powered (s : State) : (enterCool s).powered = s.powered := rfl
@[simp] theorem enterCool_now (s : State) : (enterCool s).now = s.now := rfl
@[simp] theorem enterCool_inputs (s : State) : (enterCool s).inputs = s.inputs := rfl
@[simp] theorem enterCool_attendant (s : State) : (enterCool s).attendant = s.attendant := rfl
@[simp] theorem enterCool_platter (s : State) : (enterCool s).platter = s.platter := rfl
@[simp] theorem enterCool_bag (s : State) : (enterCool s).bag = s.bag := rfl
@[simp] theorem enterCool_scale (s : State) : (enterCool s).scale = s.scale := rfl
@[simp] theorem enterCool_settledS (s : State) : (enterCool s).settledS = s.settledS := rfl
@[simp] theorem enterCool_sale (s : State) : (enterCool s).sale = s.sale := rfl
@[simp] theorem enterCool_monitor (s : State) : (enterCool s).monitor = s.monitor := rfl
@[simp] theorem enterCool_reader (s : State) : (enterCool s).reader = s.reader := rfl
@[simp] theorem enterCool_tone (s : State) : (enterCool s).tone = s.tone := rfl
@[simp] theorem enterCool_supply (s : State) : (enterCool s).supply = s.supply := rfl
@[simp] theorem enterCool_queue (s : State) : (enterCool s).queue = s.queue := rfl
@[simp] theorem enterCool_engine (s : State) : (enterCool s).engine = s.engine := rfl
@[simp] theorem enterCool_link (s : State) : (enterCool s).link = s.link := rfl
@[simp] theorem enterCool_store (s : State) : (enterCool s).store = s.store := rfl

@[simp] theorem enterJammed_pending (s : State) : (enterJammed s).pending = s.pending := rfl
@[simp] theorem enterJammed_powered (s : State) : (enterJammed s).powered = s.powered := rfl
@[simp] theorem enterJammed_now (s : State) : (enterJammed s).now = s.now := rfl
@[simp] theorem enterJammed_inputs (s : State) : (enterJammed s).inputs = s.inputs := rfl
@[simp] theorem enterJammed_attendant (s : State) : (enterJammed s).attendant = s.attendant := rfl
@[simp] theorem enterJammed_platter (s : State) : (enterJammed s).platter = s.platter := rfl
@[simp] theorem enterJammed_bag (s : State) : (enterJammed s).bag = s.bag := rfl
@[simp] theorem enterJammed_scale (s : State) : (enterJammed s).scale = s.scale := rfl
@[simp] theorem enterJammed_settledS (s : State) : (enterJammed s).settledS = s.settledS := rfl
@[simp] theorem enterJammed_sale (s : State) : (enterJammed s).sale = s.sale := rfl
@[simp] theorem enterJammed_monitor (s : State) : (enterJammed s).monitor = s.monitor := rfl
@[simp] theorem enterJammed_reader (s : State) : (enterJammed s).reader = s.reader := rfl
@[simp] theorem enterJammed_tone (s : State) : (enterJammed s).tone = s.tone := rfl
@[simp] theorem enterJammed_supply (s : State) : (enterJammed s).supply = s.supply := rfl
@[simp] theorem enterJammed_queue (s : State) : (enterJammed s).queue = s.queue := rfl
@[simp] theorem enterJammed_engine (s : State) : (enterJammed s).engine = s.engine := rfl
@[simp] theorem enterJammed_link (s : State) : (enterJammed s).link = s.link := rfl
@[simp] theorem enterJammed_store (s : State) : (enterJammed s).store = s.store := rfl

@[simp] theorem setSpeed_pending (i : Nat) (s : State) : (setSpeed i s).pending = s.pending := rfl
@[simp] theorem setSpeed_powered (i : Nat) (s : State) : (setSpeed i s).powered = s.powered := rfl
@[simp] theorem setSpeed_now (i : Nat) (s : State) : (setSpeed i s).now = s.now := rfl
@[simp] theorem setSpeed_inputs (i : Nat) (s : State) : (setSpeed i s).inputs = s.inputs := rfl
@[simp] theorem setSpeed_attendant (i : Nat) (s : State) : (setSpeed i s).attendant = s.attendant := rfl
@[simp] theorem setSpeed_platter (i : Nat) (s : State) : (setSpeed i s).platter = s.platter := rfl
@[simp] theorem setSpeed_bag (i : Nat) (s : State) : (setSpeed i s).bag = s.bag := rfl
@[simp] theorem setSpeed_scale (i : Nat) (s : State) : (setSpeed i s).scale = s.scale := rfl
@[simp] theorem setSpeed_settledS (i : Nat) (s : State) : (setSpeed i s).settledS = s.settledS := rfl
@[simp] theorem setSpeed_sale (i : Nat) (s : State) : (setSpeed i s).sale = s.sale := rfl
@[simp] theorem setSpeed_monitor (i : Nat) (s : State) : (setSpeed i s).monitor = s.monitor := rfl
@[simp] theorem setSpeed_reader (i : Nat) (s : State) : (setSpeed i s).reader = s.reader := rfl
@[simp] theorem setSpeed_drawer (i : Nat) (s : State) : (setSpeed i s).drawer = s.drawer := rfl
@[simp] theorem setSpeed_tone (i : Nat) (s : State) : (setSpeed i s).tone = s.tone := rfl
@[simp] theorem setSpeed_supply (i : Nat) (s : State) : (setSpeed i s).supply = s.supply := rfl
@[simp] theorem setSpeed_queue (i : Nat) (s : State) : (setSpeed i s).queue = s.queue := rfl
@[simp] theorem setSpeed_link (i : Nat) (s : State) : (setSpeed i s).link = s.link := rfl
@[simp] theorem setSpeed_store (i : Nat) (s : State) : (setSpeed i s).store = s.store := rfl

@[simp] theorem printerReport_pending (left : PrinterCondition) (e : PrinterEvent) (c : Option PauseCause) (s : State) : (printerReport left e c s).pending = s.pending := rfl
@[simp] theorem printerReport_powered (left : PrinterCondition) (e : PrinterEvent) (c : Option PauseCause) (s : State) : (printerReport left e c s).powered = s.powered := rfl
@[simp] theorem printerReport_now (left : PrinterCondition) (e : PrinterEvent) (c : Option PauseCause) (s : State) : (printerReport left e c s).now = s.now := rfl
@[simp] theorem printerReport_inputs (left : PrinterCondition) (e : PrinterEvent) (c : Option PauseCause) (s : State) : (printerReport left e c s).inputs = s.inputs := rfl
@[simp] theorem printerReport_attendant (left : PrinterCondition) (e : PrinterEvent) (c : Option PauseCause) (s : State) : (printerReport left e c s).attendant = s.attendant := rfl
@[simp] theorem printerReport_platter (left : PrinterCondition) (e : PrinterEvent) (c : Option PauseCause) (s : State) : (printerReport left e c s).platter = s.platter := rfl
@[simp] theorem printerReport_bag (left : PrinterCondition) (e : PrinterEvent) (c : Option PauseCause) (s : State) : (printerReport left e c s).bag = s.bag := rfl
@[simp] theorem printerReport_scale (left : PrinterCondition) (e : PrinterEvent) (c : Option PauseCause) (s : State) : (printerReport left e c s).scale = s.scale := rfl
@[simp] theorem printerReport_settledS (left : PrinterCondition) (e : PrinterEvent) (c : Option PauseCause) (s : State) : (printerReport left e c s).settledS = s.settledS := rfl
@[simp] theorem printerReport_sale (left : PrinterCondition) (e : PrinterEvent) (c : Option PauseCause) (s : State) : (printerReport left e c s).sale = s.sale := rfl
@[simp] theorem printerReport_monitor (left : PrinterCondition) (e : PrinterEvent) (c : Option PauseCause) (s : State) : (printerReport left e c s).monitor = s.monitor := rfl
@[simp] theorem printerReport_reader (left : PrinterCondition) (e : PrinterEvent) (c : Option PauseCause) (s : State) : (printerReport left e c s).reader = s.reader := rfl
@[simp] theorem printerReport_drawer (left : PrinterCondition) (e : PrinterEvent) (c : Option PauseCause) (s : State) : (printerReport left e c s).drawer = s.drawer := rfl
@[simp] theorem printerReport_tone (left : PrinterCondition) (e : PrinterEvent) (c : Option PauseCause) (s : State) : (printerReport left e c s).tone = s.tone := rfl
@[simp] theorem printerReport_supply (left : PrinterCondition) (e : PrinterEvent) (c : Option PauseCause) (s : State) : (printerReport left e c s).supply = s.supply := rfl
@[simp] theorem printerReport_queue (left : PrinterCondition) (e : PrinterEvent) (c : Option PauseCause) (s : State) : (printerReport left e c s).queue = s.queue := rfl
@[simp] theorem printerReport_engine (left : PrinterCondition) (e : PrinterEvent) (c : Option PauseCause) (s : State) : (printerReport left e c s).engine = s.engine := rfl
@[simp] theorem printerReport_store (left : PrinterCondition) (e : PrinterEvent) (c : Option PauseCause) (s : State) : (printerReport left e c s).store = s.store := rfl

@[simp] theorem jobReport_pending (j : Job) (left : Option JobState) (c : JobCause) (n : Nat) (s : State) : (jobReport j left c n s).pending = s.pending := rfl
@[simp] theorem jobReport_powered (j : Job) (left : Option JobState) (c : JobCause) (n : Nat) (s : State) : (jobReport j left c n s).powered = s.powered := rfl
@[simp] theorem jobReport_now (j : Job) (left : Option JobState) (c : JobCause) (n : Nat) (s : State) : (jobReport j left c n s).now = s.now := rfl
@[simp] theorem jobReport_inputs (j : Job) (left : Option JobState) (c : JobCause) (n : Nat) (s : State) : (jobReport j left c n s).inputs = s.inputs := rfl
@[simp] theorem jobReport_attendant (j : Job) (left : Option JobState) (c : JobCause) (n : Nat) (s : State) : (jobReport j left c n s).attendant = s.attendant := rfl
@[simp] theorem jobReport_platter (j : Job) (left : Option JobState) (c : JobCause) (n : Nat) (s : State) : (jobReport j left c n s).platter = s.platter := rfl
@[simp] theorem jobReport_bag (j : Job) (left : Option JobState) (c : JobCause) (n : Nat) (s : State) : (jobReport j left c n s).bag = s.bag := rfl
@[simp] theorem jobReport_scale (j : Job) (left : Option JobState) (c : JobCause) (n : Nat) (s : State) : (jobReport j left c n s).scale = s.scale := rfl
@[simp] theorem jobReport_settledS (j : Job) (left : Option JobState) (c : JobCause) (n : Nat) (s : State) : (jobReport j left c n s).settledS = s.settledS := rfl
@[simp] theorem jobReport_sale (j : Job) (left : Option JobState) (c : JobCause) (n : Nat) (s : State) : (jobReport j left c n s).sale = s.sale := rfl
@[simp] theorem jobReport_monitor (j : Job) (left : Option JobState) (c : JobCause) (n : Nat) (s : State) : (jobReport j left c n s).monitor = s.monitor := rfl
@[simp] theorem jobReport_reader (j : Job) (left : Option JobState) (c : JobCause) (n : Nat) (s : State) : (jobReport j left c n s).reader = s.reader := rfl
@[simp] theorem jobReport_drawer (j : Job) (left : Option JobState) (c : JobCause) (n : Nat) (s : State) : (jobReport j left c n s).drawer = s.drawer := rfl
@[simp] theorem jobReport_tone (j : Job) (left : Option JobState) (c : JobCause) (n : Nat) (s : State) : (jobReport j left c n s).tone = s.tone := rfl
@[simp] theorem jobReport_supply (j : Job) (left : Option JobState) (c : JobCause) (n : Nat) (s : State) : (jobReport j left c n s).supply = s.supply := rfl
@[simp] theorem jobReport_queue (j : Job) (left : Option JobState) (c : JobCause) (n : Nat) (s : State) : (jobReport j left c n s).queue = s.queue := rfl
@[simp] theorem jobReport_engine (j : Job) (left : Option JobState) (c : JobCause) (n : Nat) (s : State) : (jobReport j left c n s).engine = s.engine := rfl
@[simp] theorem jobReport_store (j : Job) (left : Option JobState) (c : JobCause) (n : Nat) (s : State) : (jobReport j left c n s).store = s.store := rfl

@[simp] theorem setSlot_pending (x : CardSlot) (s : State) : (setSlot x s).pending = s.pending := rfl
@[simp] theorem setSlot_powered (x : CardSlot) (s : State) : (setSlot x s).powered = s.powered := rfl
@[simp] theorem setSlot_now (x : CardSlot) (s : State) : (setSlot x s).now = s.now := rfl
@[simp] theorem setSlot_inputs (x : CardSlot) (s : State) : (setSlot x s).inputs = s.inputs := rfl
@[simp] theorem setSlot_attendant (x : CardSlot) (s : State) : (setSlot x s).attendant = s.attendant := rfl
@[simp] theorem setSlot_platter (x : CardSlot) (s : State) : (setSlot x s).platter = s.platter := rfl
@[simp] theorem setSlot_bag (x : CardSlot) (s : State) : (setSlot x s).bag = s.bag := rfl
@[simp] theorem setSlot_scale (x : CardSlot) (s : State) : (setSlot x s).scale = s.scale := rfl
@[simp] theorem setSlot_settledS (x : CardSlot) (s : State) : (setSlot x s).settledS = s.settledS := rfl
@[simp] theorem setSlot_sale (x : CardSlot) (s : State) : (setSlot x s).sale = s.sale := rfl
@[simp] theorem setSlot_monitor (x : CardSlot) (s : State) : (setSlot x s).monitor = s.monitor := rfl
@[simp] theorem setSlot_drawer (x : CardSlot) (s : State) : (setSlot x s).drawer = s.drawer := rfl
@[simp] theorem setSlot_tone (x : CardSlot) (s : State) : (setSlot x s).tone = s.tone := rfl
@[simp] theorem setSlot_supply (x : CardSlot) (s : State) : (setSlot x s).supply = s.supply := rfl
@[simp] theorem setSlot_queue (x : CardSlot) (s : State) : (setSlot x s).queue = s.queue := rfl
@[simp] theorem setSlot_engine (x : CardSlot) (s : State) : (setSlot x s).engine = s.engine := rfl
@[simp] theorem setSlot_link (x : CardSlot) (s : State) : (setSlot x s).link = s.link := rfl
@[simp] theorem setSlot_store (x : CardSlot) (s : State) : (setSlot x s).store = s.store := rfl

@[simp] theorem emptySlot_pending (s : State) : (emptySlot s).pending = s.pending := rfl
@[simp] theorem emptySlot_powered (s : State) : (emptySlot s).powered = s.powered := rfl
@[simp] theorem emptySlot_now (s : State) : (emptySlot s).now = s.now := rfl
@[simp] theorem emptySlot_inputs (s : State) : (emptySlot s).inputs = s.inputs := rfl
@[simp] theorem emptySlot_attendant (s : State) : (emptySlot s).attendant = s.attendant := rfl
@[simp] theorem emptySlot_platter (s : State) : (emptySlot s).platter = s.platter := rfl
@[simp] theorem emptySlot_bag (s : State) : (emptySlot s).bag = s.bag := rfl
@[simp] theorem emptySlot_scale (s : State) : (emptySlot s).scale = s.scale := rfl
@[simp] theorem emptySlot_settledS (s : State) : (emptySlot s).settledS = s.settledS := rfl
@[simp] theorem emptySlot_sale (s : State) : (emptySlot s).sale = s.sale := rfl
@[simp] theorem emptySlot_monitor (s : State) : (emptySlot s).monitor = s.monitor := rfl
@[simp] theorem emptySlot_drawer (s : State) : (emptySlot s).drawer = s.drawer := rfl
@[simp] theorem emptySlot_tone (s : State) : (emptySlot s).tone = s.tone := rfl
@[simp] theorem emptySlot_supply (s : State) : (emptySlot s).supply = s.supply := rfl
@[simp] theorem emptySlot_queue (s : State) : (emptySlot s).queue = s.queue := rfl
@[simp] theorem emptySlot_engine (s : State) : (emptySlot s).engine = s.engine := rfl
@[simp] theorem emptySlot_link (s : State) : (emptySlot s).link = s.link := rfl
@[simp] theorem emptySlot_store (s : State) : (emptySlot s).store = s.store := rfl

@[simp] theorem armReader_pending (s : State) : (armReader s).pending = s.pending := rfl
@[simp] theorem armReader_powered (s : State) : (armReader s).powered = s.powered := rfl
@[simp] theorem armReader_now (s : State) : (armReader s).now = s.now := rfl
@[simp] theorem armReader_inputs (s : State) : (armReader s).inputs = s.inputs := rfl
@[simp] theorem armReader_attendant (s : State) : (armReader s).attendant = s.attendant := rfl
@[simp] theorem armReader_platter (s : State) : (armReader s).platter = s.platter := rfl
@[simp] theorem armReader_bag (s : State) : (armReader s).bag = s.bag := rfl
@[simp] theorem armReader_scale (s : State) : (armReader s).scale = s.scale := rfl
@[simp] theorem armReader_settledS (s : State) : (armReader s).settledS = s.settledS := rfl
@[simp] theorem armReader_sale (s : State) : (armReader s).sale = s.sale := rfl
@[simp] theorem armReader_monitor (s : State) : (armReader s).monitor = s.monitor := rfl
@[simp] theorem armReader_drawer (s : State) : (armReader s).drawer = s.drawer := rfl
@[simp] theorem armReader_tone (s : State) : (armReader s).tone = s.tone := rfl
@[simp] theorem armReader_supply (s : State) : (armReader s).supply = s.supply := rfl
@[simp] theorem armReader_queue (s : State) : (armReader s).queue = s.queue := rfl
@[simp] theorem armReader_engine (s : State) : (armReader s).engine = s.engine := rfl
@[simp] theorem armReader_link (s : State) : (armReader s).link = s.link := rfl
@[simp] theorem armReader_store (s : State) : (armReader s).store = s.store := rfl

@[simp] theorem beginSwipe_pending (h : HeadId) (s : State) : (beginSwipe h s).pending = s.pending := rfl
@[simp] theorem beginSwipe_powered (h : HeadId) (s : State) : (beginSwipe h s).powered = s.powered := rfl
@[simp] theorem beginSwipe_now (h : HeadId) (s : State) : (beginSwipe h s).now = s.now := rfl
@[simp] theorem beginSwipe_inputs (h : HeadId) (s : State) : (beginSwipe h s).inputs = s.inputs := rfl
@[simp] theorem beginSwipe_attendant (h : HeadId) (s : State) : (beginSwipe h s).attendant = s.attendant := rfl
@[simp] theorem beginSwipe_platter (h : HeadId) (s : State) : (beginSwipe h s).platter = s.platter := rfl
@[simp] theorem beginSwipe_bag (h : HeadId) (s : State) : (beginSwipe h s).bag = s.bag := rfl
@[simp] theorem beginSwipe_scale (h : HeadId) (s : State) : (beginSwipe h s).scale = s.scale := rfl
@[simp] theorem beginSwipe_settledS (h : HeadId) (s : State) : (beginSwipe h s).settledS = s.settledS := rfl
@[simp] theorem beginSwipe_sale (h : HeadId) (s : State) : (beginSwipe h s).sale = s.sale := rfl
@[simp] theorem beginSwipe_monitor (h : HeadId) (s : State) : (beginSwipe h s).monitor = s.monitor := rfl
@[simp] theorem beginSwipe_drawer (h : HeadId) (s : State) : (beginSwipe h s).drawer = s.drawer := rfl
@[simp] theorem beginSwipe_tone (h : HeadId) (s : State) : (beginSwipe h s).tone = s.tone := rfl
@[simp] theorem beginSwipe_supply (h : HeadId) (s : State) : (beginSwipe h s).supply = s.supply := rfl
@[simp] theorem beginSwipe_queue (h : HeadId) (s : State) : (beginSwipe h s).queue = s.queue := rfl
@[simp] theorem beginSwipe_engine (h : HeadId) (s : State) : (beginSwipe h s).engine = s.engine := rfl
@[simp] theorem beginSwipe_link (h : HeadId) (s : State) : (beginSwipe h s).link = s.link := rfl
@[simp] theorem beginSwipe_store (h : HeadId) (s : State) : (beginSwipe h s).store = s.store := rfl

@[simp] theorem setOccupancy_pending (o : Occupancy) (s : State) : (setOccupancy o s).pending = s.pending := rfl
@[simp] theorem setOccupancy_powered (o : Occupancy) (s : State) : (setOccupancy o s).powered = s.powered := rfl
@[simp] theorem setOccupancy_now (o : Occupancy) (s : State) : (setOccupancy o s).now = s.now := rfl
@[simp] theorem setOccupancy_inputs (o : Occupancy) (s : State) : (setOccupancy o s).inputs = s.inputs := rfl
@[simp] theorem setOccupancy_attendant (o : Occupancy) (s : State) : (setOccupancy o s).attendant = s.attendant := rfl
@[simp] theorem setOccupancy_platter (o : Occupancy) (s : State) : (setOccupancy o s).platter = s.platter := rfl
@[simp] theorem setOccupancy_bag (o : Occupancy) (s : State) : (setOccupancy o s).bag = s.bag := rfl
@[simp] theorem setOccupancy_settledS (o : Occupancy) (s : State) : (setOccupancy o s).settledS = s.settledS := rfl
@[simp] theorem setOccupancy_sale (o : Occupancy) (s : State) : (setOccupancy o s).sale = s.sale := rfl
@[simp] theorem setOccupancy_monitor (o : Occupancy) (s : State) : (setOccupancy o s).monitor = s.monitor := rfl
@[simp] theorem setOccupancy_reader (o : Occupancy) (s : State) : (setOccupancy o s).reader = s.reader := rfl
@[simp] theorem setOccupancy_drawer (o : Occupancy) (s : State) : (setOccupancy o s).drawer = s.drawer := rfl
@[simp] theorem setOccupancy_tone (o : Occupancy) (s : State) : (setOccupancy o s).tone = s.tone := rfl
@[simp] theorem setOccupancy_supply (o : Occupancy) (s : State) : (setOccupancy o s).supply = s.supply := rfl
@[simp] theorem setOccupancy_queue (o : Occupancy) (s : State) : (setOccupancy o s).queue = s.queue := rfl
@[simp] theorem setOccupancy_engine (o : Occupancy) (s : State) : (setOccupancy o s).engine = s.engine := rfl
@[simp] theorem setOccupancy_link (o : Occupancy) (s : State) : (setOccupancy o s).link = s.link := rfl
@[simp] theorem setOccupancy_store (o : Occupancy) (s : State) : (setOccupancy o s).store = s.store := rfl

@[simp] theorem setTareT_pending (t : Int) (s : State) : (setTareT t s).pending = s.pending := rfl
@[simp] theorem setTareT_powered (t : Int) (s : State) : (setTareT t s).powered = s.powered := rfl
@[simp] theorem setTareT_now (t : Int) (s : State) : (setTareT t s).now = s.now := rfl
@[simp] theorem setTareT_inputs (t : Int) (s : State) : (setTareT t s).inputs = s.inputs := rfl
@[simp] theorem setTareT_attendant (t : Int) (s : State) : (setTareT t s).attendant = s.attendant := rfl
@[simp] theorem setTareT_platter (t : Int) (s : State) : (setTareT t s).platter = s.platter := rfl
@[simp] theorem setTareT_bag (t : Int) (s : State) : (setTareT t s).bag = s.bag := rfl
@[simp] theorem setTareT_settledS (t : Int) (s : State) : (setTareT t s).settledS = s.settledS := rfl
@[simp] theorem setTareT_sale (t : Int) (s : State) : (setTareT t s).sale = s.sale := rfl
@[simp] theorem setTareT_monitor (t : Int) (s : State) : (setTareT t s).monitor = s.monitor := rfl
@[simp] theorem setTareT_reader (t : Int) (s : State) : (setTareT t s).reader = s.reader := rfl
@[simp] theorem setTareT_drawer (t : Int) (s : State) : (setTareT t s).drawer = s.drawer := rfl
@[simp] theorem setTareT_tone (t : Int) (s : State) : (setTareT t s).tone = s.tone := rfl
@[simp] theorem setTareT_supply (t : Int) (s : State) : (setTareT t s).supply = s.supply := rfl
@[simp] theorem setTareT_queue (t : Int) (s : State) : (setTareT t s).queue = s.queue := rfl
@[simp] theorem setTareT_engine (t : Int) (s : State) : (setTareT t s).engine = s.engine := rfl
@[simp] theorem setTareT_link (t : Int) (s : State) : (setTareT t s).link = s.link := rfl
@[simp] theorem setTareT_store (t : Int) (s : State) : (setTareT t s).store = s.store := rfl

@[simp] theorem acceptWeigh_pending (d : List Byte) (u t : Int) (s : State) : (acceptWeigh d u t s).pending = s.pending := rfl
@[simp] theorem acceptWeigh_powered (d : List Byte) (u t : Int) (s : State) : (acceptWeigh d u t s).powered = s.powered := rfl
@[simp] theorem acceptWeigh_now (d : List Byte) (u t : Int) (s : State) : (acceptWeigh d u t s).now = s.now := rfl
@[simp] theorem acceptWeigh_inputs (d : List Byte) (u t : Int) (s : State) : (acceptWeigh d u t s).inputs = s.inputs := rfl
@[simp] theorem acceptWeigh_attendant (d : List Byte) (u t : Int) (s : State) : (acceptWeigh d u t s).attendant = s.attendant := rfl
@[simp] theorem acceptWeigh_platter (d : List Byte) (u t : Int) (s : State) : (acceptWeigh d u t s).platter = s.platter := rfl
@[simp] theorem acceptWeigh_bag (d : List Byte) (u t : Int) (s : State) : (acceptWeigh d u t s).bag = s.bag := rfl
@[simp] theorem acceptWeigh_settledS (d : List Byte) (u t : Int) (s : State) : (acceptWeigh d u t s).settledS = s.settledS := rfl
@[simp] theorem acceptWeigh_sale (d : List Byte) (u t : Int) (s : State) : (acceptWeigh d u t s).sale = s.sale := rfl
@[simp] theorem acceptWeigh_monitor (d : List Byte) (u t : Int) (s : State) : (acceptWeigh d u t s).monitor = s.monitor := rfl
@[simp] theorem acceptWeigh_reader (d : List Byte) (u t : Int) (s : State) : (acceptWeigh d u t s).reader = s.reader := rfl
@[simp] theorem acceptWeigh_drawer (d : List Byte) (u t : Int) (s : State) : (acceptWeigh d u t s).drawer = s.drawer := rfl
@[simp] theorem acceptWeigh_tone (d : List Byte) (u t : Int) (s : State) : (acceptWeigh d u t s).tone = s.tone := rfl
@[simp] theorem acceptWeigh_supply (d : List Byte) (u t : Int) (s : State) : (acceptWeigh d u t s).supply = s.supply := rfl
@[simp] theorem acceptWeigh_queue (d : List Byte) (u t : Int) (s : State) : (acceptWeigh d u t s).queue = s.queue := rfl
@[simp] theorem acceptWeigh_engine (d : List Byte) (u t : Int) (s : State) : (acceptWeigh d u t s).engine = s.engine := rfl
@[simp] theorem acceptWeigh_link (d : List Byte) (u t : Int) (s : State) : (acceptWeigh d u t s).link = s.link := rfl
@[simp] theorem acceptWeigh_store (d : List Byte) (u t : Int) (s : State) : (acceptWeigh d u t s).store = s.store := rfl

@[simp] theorem setLive_pending (v : Settings) (s : State) : (setLive v s).pending = s.pending := rfl
@[simp] theorem setLive_powered (v : Settings) (s : State) : (setLive v s).powered = s.powered := rfl
@[simp] theorem setLive_now (v : Settings) (s : State) : (setLive v s).now = s.now := rfl
@[simp] theorem setLive_inputs (v : Settings) (s : State) : (setLive v s).inputs = s.inputs := rfl
@[simp] theorem setLive_attendant (v : Settings) (s : State) : (setLive v s).attendant = s.attendant := rfl
@[simp] theorem setLive_platter (v : Settings) (s : State) : (setLive v s).platter = s.platter := rfl
@[simp] theorem setLive_bag (v : Settings) (s : State) : (setLive v s).bag = s.bag := rfl
@[simp] theorem setLive_scale (v : Settings) (s : State) : (setLive v s).scale = s.scale := rfl
@[simp] theorem setLive_settledS (v : Settings) (s : State) : (setLive v s).settledS = s.settledS := rfl
@[simp] theorem setLive_sale (v : Settings) (s : State) : (setLive v s).sale = s.sale := rfl
@[simp] theorem setLive_monitor (v : Settings) (s : State) : (setLive v s).monitor = s.monitor := rfl
@[simp] theorem setLive_reader (v : Settings) (s : State) : (setLive v s).reader = s.reader := rfl
@[simp] theorem setLive_drawer (v : Settings) (s : State) : (setLive v s).drawer = s.drawer := rfl
@[simp] theorem setLive_tone (v : Settings) (s : State) : (setLive v s).tone = s.tone := rfl
@[simp] theorem setLive_supply (v : Settings) (s : State) : (setLive v s).supply = s.supply := rfl
@[simp] theorem setLive_queue (v : Settings) (s : State) : (setLive v s).queue = s.queue := rfl
@[simp] theorem setLive_engine (v : Settings) (s : State) : (setLive v s).engine = s.engine := rfl
@[simp] theorem setLive_link (v : Settings) (s : State) : (setLive v s).link = s.link := rfl

@[simp] theorem refreshReasons_pending (s : State) : (refreshReasons s).pending = s.pending := rfl
@[simp] theorem refreshReasons_powered (s : State) : (refreshReasons s).powered = s.powered := rfl
@[simp] theorem refreshReasons_now (s : State) : (refreshReasons s).now = s.now := rfl
@[simp] theorem refreshReasons_inputs (s : State) : (refreshReasons s).inputs = s.inputs := rfl
@[simp] theorem refreshReasons_attendant (s : State) : (refreshReasons s).attendant = s.attendant := rfl
@[simp] theorem refreshReasons_platter (s : State) : (refreshReasons s).platter = s.platter := rfl
@[simp] theorem refreshReasons_bag (s : State) : (refreshReasons s).bag = s.bag := rfl
@[simp] theorem refreshReasons_scale (s : State) : (refreshReasons s).scale = s.scale := rfl
@[simp] theorem refreshReasons_settledS (s : State) : (refreshReasons s).settledS = s.settledS := rfl
@[simp] theorem refreshReasons_sale (s : State) : (refreshReasons s).sale = s.sale := rfl
@[simp] theorem refreshReasons_monitor (s : State) : (refreshReasons s).monitor = s.monitor := rfl
@[simp] theorem refreshReasons_reader (s : State) : (refreshReasons s).reader = s.reader := rfl
@[simp] theorem refreshReasons_drawer (s : State) : (refreshReasons s).drawer = s.drawer := rfl
@[simp] theorem refreshReasons_tone (s : State) : (refreshReasons s).tone = s.tone := rfl
@[simp] theorem refreshReasons_supply (s : State) : (refreshReasons s).supply = s.supply := rfl
@[simp] theorem refreshReasons_engine (s : State) : (refreshReasons s).engine = s.engine := rfl
@[simp] theorem refreshReasons_link (s : State) : (refreshReasons s).link = s.link := rfl
@[simp] theorem refreshReasons_store (s : State) : (refreshReasons s).store = s.store := rfl

@[simp] theorem withChannel_pending (ch : ChannelId) (c : Channel) (s : State) : (s.withChannel ch c).pending = s.pending := by
  cases ch <;> rfl
@[simp] theorem withChannel_powered (ch : ChannelId) (c : Channel) (s : State) : (s.withChannel ch c).powered = s.powered := by
  cases ch <;> rfl
@[simp] theorem withChannel_now (ch : ChannelId) (c : Channel) (s : State) : (s.withChannel ch c).now = s.now := by
  cases ch <;> rfl
@[simp] theorem withChannel_inputs (ch : ChannelId) (c : Channel) (s : State) : (s.withChannel ch c).inputs = s.inputs := by
  cases ch <;> rfl
@[simp] theorem withChannel_attendant (ch : ChannelId) (c : Channel) (s : State) : (s.withChannel ch c).attendant = s.attendant := by
  cases ch <;> rfl
@[simp] theorem withChannel_scale (ch : ChannelId) (c : Channel) (s : State) : (s.withChannel ch c).scale = s.scale := by
  cases ch <;> rfl
@[simp] theorem withChannel_settledS (ch : ChannelId) (c : Channel) (s : State) : (s.withChannel ch c).settledS = s.settledS := by
  cases ch <;> rfl
@[simp] theorem withChannel_sale (ch : ChannelId) (c : Channel) (s : State) : (s.withChannel ch c).sale = s.sale := by
  cases ch <;> rfl
@[simp] theorem withChannel_monitor (ch : ChannelId) (c : Channel) (s : State) : (s.withChannel ch c).monitor = s.monitor := by
  cases ch <;> rfl
@[simp] theorem withChannel_reader (ch : ChannelId) (c : Channel) (s : State) : (s.withChannel ch c).reader = s.reader := by
  cases ch <;> rfl
@[simp] theorem withChannel_drawer (ch : ChannelId) (c : Channel) (s : State) : (s.withChannel ch c).drawer = s.drawer := by
  cases ch <;> rfl
@[simp] theorem withChannel_tone (ch : ChannelId) (c : Channel) (s : State) : (s.withChannel ch c).tone = s.tone := by
  cases ch <;> rfl
@[simp] theorem withChannel_supply (ch : ChannelId) (c : Channel) (s : State) : (s.withChannel ch c).supply = s.supply := by
  cases ch <;> rfl
@[simp] theorem withChannel_queue (ch : ChannelId) (c : Channel) (s : State) : (s.withChannel ch c).queue = s.queue := by
  cases ch <;> rfl
@[simp] theorem withChannel_engine (ch : ChannelId) (c : Channel) (s : State) : (s.withChannel ch c).engine = s.engine := by
  cases ch <;> rfl
@[simp] theorem withChannel_link (ch : ChannelId) (c : Channel) (s : State) : (s.withChannel ch c).link = s.link := by
  cases ch <;> rfl
@[simp] theorem withChannel_store (ch : ChannelId) (c : Channel) (s : State) : (s.withChannel ch c).store = s.store := by
  cases ch <;> rfl

@[simp] theorem withChannel_channel (ch : ChannelId) (c : Channel) (s : State) :
    (s.withChannel ch c).channel ch = c := by
  cases ch <;> rfl

@[simp] theorem report_link (r : Report) (s : State) : (report r s).link = s.link.push r := rfl
@[simp] theorem setSlots_link (fs : List Frame) (s : State) :
    (setSlots fs s).link = { s.link with slots := fs } := rfl
@[simp] theorem endEvent_link (s : State) : (endEvent s).link = s.link.choose := rfl
@[simp] theorem mapMonitor_monitor (f : Monitor → Monitor) (s : State) : (mapMonitor f s).monitor = f s.monitor := rfl
@[simp] theorem setSlot_slot (x : CardSlot) (s : State) : (setSlot x s).reader.slot = x := rfl
@[simp] theorem setOccupancy_occupancy (o : Occupancy) (s : State) : (setOccupancy o s).scale.occupancy = o := rfl
@[simp] theorem setTareT_tareT (t : Int) (s : State) : (setTareT t s).scale.tareT = t := rfl
@[simp] theorem setLive_live (v : Settings) (s : State) : (setLive v s).live = v := rfl

end Sys2Proof.Machine
end

