-- ==== Sys2Proof/Laws/Frames.lean ====
section
/-! SUPPORT. What the shared operations leave unchanged: one lemma for each operation, which names the
blocks it does not touch. -/

set_option linter.unusedTactic false
set_option linter.unreachableTactic false

namespace Sys2Proof.Machine

/-- What `setCondition` leaves unchanged. -/
@[simp] theorem setCondition_frame (ch : ChannelId) (c : ChannelCondition) (s : State) :
    (setCondition ch c s).pending = s.pending ∧ (setCondition ch c s).powered = s.powered ∧ (setCondition ch c s).now = s.now ∧
      (setCondition ch c s).inputs = s.inputs ∧ (setCondition ch c s).attendant = s.attendant ∧ (setCondition ch c s).scale = s.scale ∧
      (setCondition ch c s).settledS = s.settledS ∧ (setCondition ch c s).sale = s.sale ∧ (setCondition ch c s).monitor = s.monitor ∧
      (setCondition ch c s).reader = s.reader ∧ (setCondition ch c s).drawer = s.drawer ∧ (setCondition ch c s).tone = s.tone ∧
      (setCondition ch c s).supply = s.supply ∧ (setCondition ch c s).queue = s.queue ∧ (setCondition ch c s).engine = s.engine ∧
      (setCondition ch c s).store = s.store := by
  unfold setCondition
  try dsimp only
  repeat' split
  all_goals simp

/-- What `endWeigh` leaves unchanged. -/
@[simp] theorem endWeigh_frame (r : WeighResult) (e : Option Nat) (n p : Option Int) (s : State) :
    (endWeigh r e n p s).pending = s.pending ∧ (endWeigh r e n p s).powered = s.powered ∧ (endWeigh r e n p s).now = s.now ∧
      (endWeigh r e n p s).inputs = s.inputs ∧ (endWeigh r e n p s).attendant = s.attendant ∧ (endWeigh r e n p s).platter = s.platter ∧
      (endWeigh r e n p s).bag = s.bag ∧ (endWeigh r e n p s).settledS = s.settledS ∧ (endWeigh r e n p s).sale = s.sale ∧
      (endWeigh r e n p s).monitor = s.monitor ∧ (endWeigh r e n p s).reader = s.reader ∧ (endWeigh r e n p s).drawer = s.drawer ∧
      (endWeigh r e n p s).tone = s.tone ∧ (endWeigh r e n p s).supply = s.supply ∧ (endWeigh r e n p s).queue = s.queue ∧
      (endWeigh r e n p s).engine = s.engine ∧ (endWeigh r e n p s).store = s.store := by
  unfold endWeigh
  try dsimp only
  repeat' split
  all_goals simp

/-- What `occupancyReport` leaves unchanged. -/
@[simp] theorem occupancyReport_frame (o : Occupancy) (s : State) :
    (occupancyReport o s).pending = s.pending ∧ (occupancyReport o s).powered = s.powered ∧ (occupancyReport o s).now = s.now ∧
      (occupancyReport o s).inputs = s.inputs ∧ (occupancyReport o s).attendant = s.attendant ∧ (occupancyReport o s).platter = s.platter ∧
      (occupancyReport o s).bag = s.bag ∧ (occupancyReport o s).scale = s.scale ∧ (occupancyReport o s).settledS = s.settledS ∧
      (occupancyReport o s).sale = s.sale ∧ (occupancyReport o s).monitor = s.monitor ∧ (occupancyReport o s).reader = s.reader ∧
      (occupancyReport o s).drawer = s.drawer ∧ (occupancyReport o s).tone = s.tone ∧ (occupancyReport o s).supply = s.supply ∧
      (occupancyReport o s).queue = s.queue ∧ (occupancyReport o s).engine = s.engine ∧ (occupancyReport o s).store = s.store := by
  unfold occupancyReport
  try dsimp only
  repeat' split
  all_goals simp

/-- What `setStatus` leaves unchanged. -/
@[simp] theorem setStatus_frame (n : Nat) (st : BaggingStatus) (c : BaggingCause) (s : State) :
    (setStatus n st c s).pending = s.pending ∧ (setStatus n st c s).powered = s.powered ∧ (setStatus n st c s).now = s.now ∧
      (setStatus n st c s).inputs = s.inputs ∧ (setStatus n st c s).attendant = s.attendant ∧ (setStatus n st c s).platter = s.platter ∧
      (setStatus n st c s).bag = s.bag ∧ (setStatus n st c s).scale = s.scale ∧ (setStatus n st c s).settledS = s.settledS ∧
      (setStatus n st c s).monitor = s.monitor ∧ (setStatus n st c s).reader = s.reader ∧ (setStatus n st c s).drawer = s.drawer ∧
      (setStatus n st c s).tone = s.tone ∧ (setStatus n st c s).supply = s.supply ∧ (setStatus n st c s).queue = s.queue ∧
      (setStatus n st c s).engine = s.engine ∧ (setStatus n st c s).store = s.store := by
  unfold setStatus
  try dsimp only
  repeat' split
  all_goals simp

/-- What `appendStatus` leaves unchanged. -/
@[simp] theorem appendStatus_frame (n : Nat) (st : BaggingStatus) (s : State) :
    (appendStatus n st s).pending = s.pending ∧ (appendStatus n st s).powered = s.powered ∧ (appendStatus n st s).now = s.now ∧
      (appendStatus n st s).inputs = s.inputs ∧ (appendStatus n st s).attendant = s.attendant ∧ (appendStatus n st s).platter = s.platter ∧
      (appendStatus n st s).bag = s.bag ∧ (appendStatus n st s).scale = s.scale ∧ (appendStatus n st s).settledS = s.settledS ∧
      (appendStatus n st s).monitor = s.monitor ∧ (appendStatus n st s).reader = s.reader ∧ (appendStatus n st s).drawer = s.drawer ∧
      (appendStatus n st s).tone = s.tone ∧ (appendStatus n st s).supply = s.supply ∧ (appendStatus n st s).queue = s.queue ∧
      (appendStatus n st s).engine = s.engine ∧ (appendStatus n st s).store = s.store := by
  unfold appendStatus
  try dsimp only
  repeat' split
  all_goals simp

/-- What `settleAlert` leaves unchanged. -/
@[simp] theorem settleAlert_frame (s : State) :
    (settleAlert s).pending = s.pending ∧ (settleAlert s).powered = s.powered ∧ (settleAlert s).now = s.now ∧
      (settleAlert s).inputs = s.inputs ∧ (settleAlert s).attendant = s.attendant ∧ (settleAlert s).platter = s.platter ∧
      (settleAlert s).bag = s.bag ∧ (settleAlert s).scale = s.scale ∧ (settleAlert s).settledS = s.settledS ∧
      (settleAlert s).sale = s.sale ∧ (settleAlert s).monitor = s.monitor ∧ (settleAlert s).reader = s.reader ∧
      (settleAlert s).drawer = s.drawer ∧ (settleAlert s).supply = s.supply ∧ (settleAlert s).queue = s.queue ∧
      (settleAlert s).engine = s.engine ∧ (settleAlert s).link = s.link ∧ (settleAlert s).store = s.store := by
  unfold settleAlert
  try dsimp only
  repeat' split
  all_goals simp

/-- What `exceptionReport` leaves unchanged. -/
@[simp] theorem exceptionReport_frame (a : ExceptionAction) (i : Option Nat) (k : ExceptionKind) (e : Option Nat) (d : Option Int) (c : Option ExceptionCause) (s : State) :
    (exceptionReport a i k e d c s).pending = s.pending ∧ (exceptionReport a i k e d c s).powered = s.powered ∧ (exceptionReport a i k e d c s).now = s.now ∧
      (exceptionReport a i k e d c s).inputs = s.inputs ∧ (exceptionReport a i k e d c s).attendant = s.attendant ∧ (exceptionReport a i k e d c s).platter = s.platter ∧
      (exceptionReport a i k e d c s).bag = s.bag ∧ (exceptionReport a i k e d c s).scale = s.scale ∧ (exceptionReport a i k e d c s).settledS = s.settledS ∧
      (exceptionReport a i k e d c s).sale = s.sale ∧ (exceptionReport a i k e d c s).monitor = s.monitor ∧ (exceptionReport a i k e d c s).reader = s.reader ∧
      (exceptionReport a i k e d c s).drawer = s.drawer ∧ (exceptionReport a i k e d c s).tone = s.tone ∧ (exceptionReport a i k e d c s).supply = s.supply ∧
      (exceptionReport a i k e d c s).queue = s.queue ∧ (exceptionReport a i k e d c s).engine = s.engine ∧ (exceptionReport a i k e d c s).store = s.store := by
  unfold exceptionReport
  try dsimp only
  repeat' split
  all_goals simp

/-- What `raiseException` leaves unchanged. -/
@[simp] theorem raiseException_frame (k : ExceptionKind) (e : Option Nat) (d : Option Int) (s : State) :
    (raiseException k e d s).pending = s.pending ∧ (raiseException k e d s).powered = s.powered ∧ (raiseException k e d s).now = s.now ∧
      (raiseException k e d s).inputs = s.inputs ∧ (raiseException k e d s).attendant = s.attendant ∧ (raiseException k e d s).platter = s.platter ∧
      (raiseException k e d s).bag = s.bag ∧ (raiseException k e d s).scale = s.scale ∧ (raiseException k e d s).settledS = s.settledS ∧
      (raiseException k e d s).sale = s.sale ∧ (raiseException k e d s).reader = s.reader ∧ (raiseException k e d s).drawer = s.drawer ∧
      (raiseException k e d s).supply = s.supply ∧ (raiseException k e d s).queue = s.queue ∧ (raiseException k e d s).engine = s.engine ∧
      (raiseException k e d s).store = s.store := by
  unfold raiseException
  try dsimp only
  repeat' split
  all_goals simp

/-- What `clearOne` leaves unchanged. -/
@[simp] theorem clearOne_frame (x : BagException) (c : ExceptionCause) (s : State) :
    (clearOne x c s).pending = s.pending ∧ (clearOne x c s).powered = s.powered ∧ (clearOne x c s).now = s.now ∧
      (clearOne x c s).inputs = s.inputs ∧ (clearOne x c s).attendant = s.attendant ∧ (clearOne x c s).platter = s.platter ∧
      (clearOne x c s).bag = s.bag ∧ (clearOne x c s).scale = s.scale ∧ (clearOne x c s).settledS = s.settledS ∧
      (clearOne x c s).sale = s.sale ∧ (clearOne x c s).reader = s.reader ∧ (clearOne x c s).drawer = s.drawer ∧
      (clearOne x c s).supply = s.supply ∧ (clearOne x c s).queue = s.queue ∧ (clearOne x c s).engine = s.engine ∧
      (clearOne x c s).store = s.store := by
  unfold clearOne
  try dsimp only
  repeat' split
  all_goals simp

/-- What `clearNaming` leaves unchanged. -/
@[simp] theorem clearNaming_frame (k : ExceptionKind) (n : Nat) (c : ExceptionCause) (s : State) :
    (clearNaming k n c s).pending = s.pending ∧ (clearNaming k n c s).powered = s.powered ∧ (clearNaming k n c s).now = s.now ∧
      (clearNaming k n c s).inputs = s.inputs ∧ (clearNaming k n c s).attendant = s.attendant ∧ (clearNaming k n c s).platter = s.platter ∧
      (clearNaming k n c s).bag = s.bag ∧ (clearNaming k n c s).scale = s.scale ∧ (clearNaming k n c s).settledS = s.settledS ∧
      (clearNaming k n c s).sale = s.sale ∧ (clearNaming k n c s).reader = s.reader ∧ (clearNaming k n c s).drawer = s.drawer ∧
      (clearNaming k n c s).supply = s.supply ∧ (clearNaming k n c s).queue = s.queue ∧ (clearNaming k n c s).engine = s.engine ∧
      (clearNaming k n c s).store = s.store := by
  unfold clearNaming
  try dsimp only
  repeat' split
  all_goals simp

/-- What `clearAnyNaming` leaves unchanged. -/
@[simp] theorem clearAnyNaming_frame (n : Nat) (c : ExceptionCause) (s : State) :
    (clearAnyNaming n c s).pending = s.pending ∧ (clearAnyNaming n c s).powered = s.powered ∧ (clearAnyNaming n c s).now = s.now ∧
      (clearAnyNaming n c s).inputs = s.inputs ∧ (clearAnyNaming n c s).attendant = s.attendant ∧ (clearAnyNaming n c s).platter = s.platter ∧
      (clearAnyNaming n c s).bag = s.bag ∧ (clearAnyNaming n c s).scale = s.scale ∧ (clearAnyNaming n c s).settledS = s.settledS ∧
      (clearAnyNaming n c s).sale = s.sale ∧ (clearAnyNaming n c s).reader = s.reader ∧ (clearAnyNaming n c s).drawer = s.drawer ∧
      (clearAnyNaming n c s).supply = s.supply ∧ (clearAnyNaming n c s).queue = s.queue ∧ (clearAnyNaming n c s).engine = s.engine ∧
      (clearAnyNaming n c s).store = s.store := by
  unfold clearAnyNaming
  try dsimp only
  repeat' split
  all_goals simp

/-- What `addExpectation` leaves unchanged. -/
@[simp] theorem addExpectation_frame (n w : Nat) (o : Option Nat) (s : State) :
    (addExpectation n w o s).pending = s.pending ∧ (addExpectation n w o s).powered = s.powered ∧ (addExpectation n w o s).now = s.now ∧
      (addExpectation n w o s).inputs = s.inputs ∧ (addExpectation n w o s).attendant = s.attendant ∧ (addExpectation n w o s).platter = s.platter ∧
      (addExpectation n w o s).bag = s.bag ∧ (addExpectation n w o s).scale = s.scale ∧ (addExpectation n w o s).settledS = s.settledS ∧
      (addExpectation n w o s).reader = s.reader ∧ (addExpectation n w o s).drawer = s.drawer ∧ (addExpectation n w o s).tone = s.tone ∧
      (addExpectation n w o s).supply = s.supply ∧ (addExpectation n w o s).queue = s.queue ∧ (addExpectation n w o s).engine = s.engine ∧
      (addExpectation n w o s).store = s.store := by
  unfold addExpectation
  try dsimp only
  repeat' split
  all_goals simp

/-- What `appendEntry` leaves unchanged. -/
@[simp] theorem appendEntry_frame (e : Entry) (s : State) :
    (appendEntry e s).pending = s.pending ∧ (appendEntry e s).powered = s.powered ∧ (appendEntry e s).now = s.now ∧
      (appendEntry e s).inputs = s.inputs ∧ (appendEntry e s).attendant = s.attendant ∧ (appendEntry e s).platter = s.platter ∧
      (appendEntry e s).bag = s.bag ∧ (appendEntry e s).scale = s.scale ∧ (appendEntry e s).settledS = s.settledS ∧
      (appendEntry e s).reader = s.reader ∧ (appendEntry e s).drawer = s.drawer ∧ (appendEntry e s).tone = s.tone ∧
      (appendEntry e s).supply = s.supply ∧ (appendEntry e s).queue = s.queue ∧ (appendEntry e s).engine = s.engine ∧
      (appendEntry e s).store = s.store := by
  unfold appendEntry
  try dsimp only
  repeat' split
  all_goals simp

/-- What `meetAdd` leaves unchanged. -/
@[simp] theorem meetAdd_frame (x : Expectation) (s : State) :
    (meetAdd x s).pending = s.pending ∧ (meetAdd x s).powered = s.powered ∧ (meetAdd x s).now = s.now ∧
      (meetAdd x s).inputs = s.inputs ∧ (meetAdd x s).attendant = s.attendant ∧ (meetAdd x s).platter = s.platter ∧
      (meetAdd x s).bag = s.bag ∧ (meetAdd x s).scale = s.scale ∧ (meetAdd x s).settledS = s.settledS ∧
      (meetAdd x s).reader = s.reader ∧ (meetAdd x s).drawer = s.drawer ∧ (meetAdd x s).supply = s.supply ∧
      (meetAdd x s).queue = s.queue ∧ (meetAdd x s).engine = s.engine ∧ (meetAdd x s).store = s.store := by
  unfold meetAdd
  try dsimp only
  repeat' split
  all_goals simp

/-- What `unclaimedGrows` leaves unchanged. -/
@[simp] theorem unclaimedGrows_frame (d : Nat) (s : State) :
    (unclaimedGrows d s).pending = s.pending ∧ (unclaimedGrows d s).powered = s.powered ∧ (unclaimedGrows d s).now = s.now ∧
      (unclaimedGrows d s).inputs = s.inputs ∧ (unclaimedGrows d s).attendant = s.attendant ∧ (unclaimedGrows d s).platter = s.platter ∧
      (unclaimedGrows d s).bag = s.bag ∧ (unclaimedGrows d s).scale = s.scale ∧ (unclaimedGrows d s).settledS = s.settledS ∧
      (unclaimedGrows d s).reader = s.reader ∧ (unclaimedGrows d s).drawer = s.drawer ∧ (unclaimedGrows d s).supply = s.supply ∧
      (unclaimedGrows d s).queue = s.queue ∧ (unclaimedGrows d s).engine = s.engine ∧ (unclaimedGrows d s).store = s.store := by
  unfold unclaimedGrows
  try dsimp only
  repeat' split
  all_goals simp

/-- What `positiveChange` leaves unchanged. -/
@[simp] theorem positiveChange_frame (d : Nat) (s : State) :
    (positiveChange d s).pending = s.pending ∧ (positiveChange d s).powered = s.powered ∧ (positiveChange d s).now = s.now ∧
      (positiveChange d s).inputs = s.inputs ∧ (positiveChange d s).attendant = s.attendant ∧ (positiveChange d s).platter = s.platter ∧
      (positiveChange d s).bag = s.bag ∧ (positiveChange d s).scale = s.scale ∧ (positiveChange d s).settledS = s.settledS ∧
      (positiveChange d s).reader = s.reader ∧ (positiveChange d s).drawer = s.drawer ∧ (positiveChange d s).supply = s.supply ∧
      (positiveChange d s).queue = s.queue ∧ (positiveChange d s).engine = s.engine ∧ (positiveChange d s).store = s.store := by
  unfold positiveChange
  try dsimp only
  repeat' split
  all_goals simp

/-- What `removalFromBasket` leaves unchanged. -/
@[simp] theorem removalFromBasket_frame (d : Nat) (s : State) :
    (removalFromBasket d s).pending = s.pending ∧ (removalFromBasket d s).powered = s.powered ∧ (removalFromBasket d s).now = s.now ∧
      (removalFromBasket d s).inputs = s.inputs ∧ (removalFromBasket d s).attendant = s.attendant ∧ (removalFromBasket d s).platter = s.platter ∧
      (removalFromBasket d s).bag = s.bag ∧ (removalFromBasket d s).scale = s.scale ∧ (removalFromBasket d s).settledS = s.settledS ∧
      (removalFromBasket d s).reader = s.reader ∧ (removalFromBasket d s).drawer = s.drawer ∧ (removalFromBasket d s).supply = s.supply ∧
      (removalFromBasket d s).queue = s.queue ∧ (removalFromBasket d s).engine = s.engine ∧ (removalFromBasket d s).store = s.store := by
  unfold removalFromBasket
  try dsimp only
  repeat' split
  all_goals simp

/-- What `negativeAfterUnclaimed` leaves unchanged. -/
@[simp] theorem negativeAfterUnclaimed_frame (d : Nat) (s : State) :
    (negativeAfterUnclaimed d s).pending = s.pending ∧ (negativeAfterUnclaimed d s).powered = s.powered ∧ (negativeAfterUnclaimed d s).now = s.now ∧
      (negativeAfterUnclaimed d s).inputs = s.inputs ∧ (negativeAfterUnclaimed d s).attendant = s.attendant ∧ (negativeAfterUnclaimed d s).platter = s.platter ∧
      (negativeAfterUnclaimed d s).bag = s.bag ∧ (negativeAfterUnclaimed d s).scale = s.scale ∧ (negativeAfterUnclaimed d s).settledS = s.settledS ∧
      (negativeAfterUnclaimed d s).reader = s.reader ∧ (negativeAfterUnclaimed d s).drawer = s.drawer ∧ (negativeAfterUnclaimed d s).supply = s.supply ∧
      (negativeAfterUnclaimed d s).queue = s.queue ∧ (negativeAfterUnclaimed d s).engine = s.engine ∧ (negativeAfterUnclaimed d s).store = s.store := by
  unfold negativeAfterUnclaimed
  try dsimp only
  repeat' split
  all_goals simp

/-- What `negativeChange` leaves unchanged. -/
@[simp] theorem negativeChange_frame (d : Nat) (s : State) :
    (negativeChange d s).pending = s.pending ∧ (negativeChange d s).powered = s.powered ∧ (negativeChange d s).now = s.now ∧
      (negativeChange d s).inputs = s.inputs ∧ (negativeChange d s).attendant = s.attendant ∧ (negativeChange d s).platter = s.platter ∧
      (negativeChange d s).bag = s.bag ∧ (negativeChange d s).scale = s.scale ∧ (negativeChange d s).settledS = s.settledS ∧
      (negativeChange d s).reader = s.reader ∧ (negativeChange d s).drawer = s.drawer ∧ (negativeChange d s).supply = s.supply ∧
      (negativeChange d s).queue = s.queue ∧ (negativeChange d s).engine = s.engine ∧ (negativeChange d s).store = s.store := by
  unfold negativeChange
  try dsimp only
  repeat' split
  all_goals simp

/-- What `bagChange` leaves unchanged. -/
@[simp] theorem bagChange_frame (d : Int) (s : State) :
    (bagChange d s).pending = s.pending ∧ (bagChange d s).powered = s.powered ∧ (bagChange d s).now = s.now ∧
      (bagChange d s).inputs = s.inputs ∧ (bagChange d s).attendant = s.attendant ∧ (bagChange d s).platter = s.platter ∧
      (bagChange d s).bag = s.bag ∧ (bagChange d s).scale = s.scale ∧ (bagChange d s).settledS = s.settledS ∧
      (bagChange d s).reader = s.reader ∧ (bagChange d s).drawer = s.drawer ∧ (bagChange d s).supply = s.supply ∧
      (bagChange d s).queue = s.queue ∧ (bagChange d s).engine = s.engine ∧ (bagChange d s).store = s.store := by
  unfold bagChange
  try dsimp only
  repeat' split
  all_goals simp

/-- What `entryVoided` leaves unchanged. -/
@[simp] theorem entryVoided_frame (e : Entry) (s : State) :
    (entryVoided e s).pending = s.pending ∧ (entryVoided e s).powered = s.powered ∧ (entryVoided e s).now = s.now ∧
      (entryVoided e s).inputs = s.inputs ∧ (entryVoided e s).attendant = s.attendant ∧ (entryVoided e s).platter = s.platter ∧
      (entryVoided e s).bag = s.bag ∧ (entryVoided e s).scale = s.scale ∧ (entryVoided e s).settledS = s.settledS ∧
      (entryVoided e s).reader = s.reader ∧ (entryVoided e s).drawer = s.drawer ∧ (entryVoided e s).supply = s.supply ∧
      (entryVoided e s).queue = s.queue ∧ (entryVoided e s).engine = s.engine ∧ (entryVoided e s).store = s.store := by
  unfold entryVoided
  try dsimp only
  repeat' split
  all_goals simp

/-- What `bagTimerExpires` leaves unchanged. -/
@[simp] theorem bagTimerExpires_frame (n : Nat) (s : State) :
    (bagTimerExpires n s).pending = s.pending ∧ (bagTimerExpires n s).powered = s.powered ∧ (bagTimerExpires n s).now = s.now ∧
      (bagTimerExpires n s).inputs = s.inputs ∧ (bagTimerExpires n s).attendant = s.attendant ∧ (bagTimerExpires n s).platter = s.platter ∧
      (bagTimerExpires n s).bag = s.bag ∧ (bagTimerExpires n s).scale = s.scale ∧ (bagTimerExpires n s).settledS = s.settledS ∧
      (bagTimerExpires n s).reader = s.reader ∧ (bagTimerExpires n s).drawer = s.drawer ∧ (bagTimerExpires n s).supply = s.supply ∧
      (bagTimerExpires n s).queue = s.queue ∧ (bagTimerExpires n s).engine = s.engine ∧ (bagTimerExpires n s).store = s.store := by
  unfold bagTimerExpires
  try dsimp only
  repeat' split
  all_goals simp

/-- What `graceExpires` leaves unchanged. -/
@[simp] theorem graceExpires_frame (s : State) :
    (graceExpires s).pending = s.pending ∧ (graceExpires s).powered = s.powered ∧ (graceExpires s).now = s.now ∧
      (graceExpires s).inputs = s.inputs ∧ (graceExpires s).attendant = s.attendant ∧ (graceExpires s).platter = s.platter ∧
      (graceExpires s).bag = s.bag ∧ (graceExpires s).scale = s.scale ∧ (graceExpires s).settledS = s.settledS ∧
      (graceExpires s).sale = s.sale ∧ (graceExpires s).reader = s.reader ∧ (graceExpires s).drawer = s.drawer ∧
      (graceExpires s).supply = s.supply ∧ (graceExpires s).queue = s.queue ∧ (graceExpires s).engine = s.engine ∧
      (graceExpires s).store = s.store := by
  unfold graceExpires
  try dsimp only
  repeat' split
  all_goals simp

/-- What `emptyMonitor` leaves unchanged. -/
@[simp] theorem emptyMonitor_frame (c : ExceptionCause) (n : Nat) (s : State) :
    (emptyMonitor c n s).pending = s.pending ∧ (emptyMonitor c n s).powered = s.powered ∧ (emptyMonitor c n s).now = s.now ∧
      (emptyMonitor c n s).inputs = s.inputs ∧ (emptyMonitor c n s).attendant = s.attendant ∧ (emptyMonitor c n s).platter = s.platter ∧
      (emptyMonitor c n s).bag = s.bag ∧ (emptyMonitor c n s).scale = s.scale ∧ (emptyMonitor c n s).settledS = s.settledS ∧
      (emptyMonitor c n s).sale = s.sale ∧ (emptyMonitor c n s).reader = s.reader ∧ (emptyMonitor c n s).drawer = s.drawer ∧
      (emptyMonitor c n s).supply = s.supply ∧ (emptyMonitor c n s).queue = s.queue ∧ (emptyMonitor c n s).engine = s.engine ∧
      (emptyMonitor c n s).store = s.store := by
  unfold emptyMonitor
  try dsimp only
  repeat' split
  all_goals simp

/-- What `beginWork` leaves unchanged. -/
@[simp] theorem beginWork_frame (r : Requester) (n : Nat) (s : State) :
    (beginWork r n s).pending = s.pending ∧ (beginWork r n s).powered = s.powered ∧ (beginWork r n s).now = s.now ∧
      (beginWork r n s).inputs = s.inputs ∧ (beginWork r n s).attendant = s.attendant ∧ (beginWork r n s).platter = s.platter ∧
      (beginWork r n s).bag = s.bag ∧ (beginWork r n s).scale = s.scale ∧ (beginWork r n s).settledS = s.settledS ∧
      (beginWork r n s).sale = s.sale ∧ (beginWork r n s).monitor = s.monitor ∧ (beginWork r n s).reader = s.reader ∧
      (beginWork r n s).tone = s.tone ∧ (beginWork r n s).supply = s.supply ∧ (beginWork r n s).queue = s.queue ∧
      (beginWork r n s).link = s.link ∧ (beginWork r n s).store = s.store := by
  cases r <;> simp [beginWork]

/-- What `grantUnits` leaves unchanged. -/
@[simp] theorem grantUnits_frame (r : Requester) (n : Nat) (s : State) :
    (grantUnits r n s).pending = s.pending ∧ (grantUnits r n s).powered = s.powered ∧ (grantUnits r n s).now = s.now ∧
      (grantUnits r n s).inputs = s.inputs ∧ (grantUnits r n s).attendant = s.attendant ∧ (grantUnits r n s).platter = s.platter ∧
      (grantUnits r n s).bag = s.bag ∧ (grantUnits r n s).scale = s.scale ∧ (grantUnits r n s).settledS = s.settledS ∧
      (grantUnits r n s).sale = s.sale ∧ (grantUnits r n s).monitor = s.monitor ∧ (grantUnits r n s).reader = s.reader ∧
      (grantUnits r n s).tone = s.tone ∧ (grantUnits r n s).queue = s.queue ∧ (grantUnits r n s).link = s.link ∧
      (grantUnits r n s).store = s.store := by
  unfold grantUnits
  try dsimp only
  repeat' split
  all_goals simp

/-- What `walkOver` leaves unchanged. -/
@[simp] theorem walkOver_frame (l : List Requester) (s : State) :
    (walkOver l s).pending = s.pending ∧ (walkOver l s).powered = s.powered ∧ (walkOver l s).now = s.now ∧
      (walkOver l s).inputs = s.inputs ∧ (walkOver l s).attendant = s.attendant ∧ (walkOver l s).platter = s.platter ∧
      (walkOver l s).bag = s.bag ∧ (walkOver l s).scale = s.scale ∧ (walkOver l s).settledS = s.settledS ∧
      (walkOver l s).sale = s.sale ∧ (walkOver l s).monitor = s.monitor ∧ (walkOver l s).reader = s.reader ∧
      (walkOver l s).tone = s.tone ∧ (walkOver l s).queue = s.queue ∧ (walkOver l s).link = s.link ∧
      (walkOver l s).store = s.store := by
  induction l generalizing s with
  | nil => simp [walkOver]
  | cons r rest ih =>
    simp only [walkOver]
    repeat' split
    all_goals simp [ih]

/-- What `walkQuietly` leaves unchanged. -/
@[simp] theorem walkQuietly_frame (s : State) :
    (walkQuietly s).pending = s.pending ∧ (walkQuietly s).powered = s.powered ∧ (walkQuietly s).now = s.now ∧
      (walkQuietly s).inputs = s.inputs ∧ (walkQuietly s).attendant = s.attendant ∧ (walkQuietly s).platter = s.platter ∧
      (walkQuietly s).bag = s.bag ∧ (walkQuietly s).scale = s.scale ∧ (walkQuietly s).settledS = s.settledS ∧
      (walkQuietly s).sale = s.sale ∧ (walkQuietly s).monitor = s.monitor ∧ (walkQuietly s).reader = s.reader ∧
      (walkQuietly s).tone = s.tone ∧ (walkQuietly s).queue = s.queue ∧ (walkQuietly s).link = s.link ∧
      (walkQuietly s).store = s.store := by
  unfold walkQuietly
  try dsimp only
  repeat' split
  all_goals simp

/-- What `walk` leaves unchanged. -/
@[simp] theorem walk_frame (s : State) :
    (walk s).pending = s.pending ∧ (walk s).powered = s.powered ∧ (walk s).now = s.now ∧
      (walk s).inputs = s.inputs ∧ (walk s).attendant = s.attendant ∧ (walk s).platter = s.platter ∧
      (walk s).bag = s.bag ∧ (walk s).scale = s.scale ∧ (walk s).settledS = s.settledS ∧
      (walk s).sale = s.sale ∧ (walk s).monitor = s.monitor ∧ (walk s).reader = s.reader ∧
      (walk s).tone = s.tone ∧ (walk s).queue = s.queue ∧ (walk s).store = s.store := by
  unfold walk
  try dsimp only
  repeat' split
  all_goals simp

/-- What `requestUnits` leaves unchanged. -/
@[simp] theorem requestUnits_frame (r : Requester) (n : Nat) (s : State) :
    (requestUnits r n s).pending = s.pending ∧ (requestUnits r n s).powered = s.powered ∧ (requestUnits r n s).now = s.now ∧
      (requestUnits r n s).inputs = s.inputs ∧ (requestUnits r n s).attendant = s.attendant ∧ (requestUnits r n s).platter = s.platter ∧
      (requestUnits r n s).bag = s.bag ∧ (requestUnits r n s).scale = s.scale ∧ (requestUnits r n s).settledS = s.settledS ∧
      (requestUnits r n s).sale = s.sale ∧ (requestUnits r n s).monitor = s.monitor ∧ (requestUnits r n s).reader = s.reader ∧
      (requestUnits r n s).tone = s.tone ∧ (requestUnits r n s).queue = s.queue ∧ (requestUnits r n s).store = s.store := by
  unfold requestUnits
  try dsimp only
  repeat' split
  all_goals simp

/-- What `withdrawRequest` leaves unchanged. -/
@[simp] theorem withdrawRequest_frame (r : Requester) (s : State) :
    (withdrawRequest r s).pending = s.pending ∧ (withdrawRequest r s).powered = s.powered ∧ (withdrawRequest r s).now = s.now ∧
      (withdrawRequest r s).inputs = s.inputs ∧ (withdrawRequest r s).attendant = s.attendant ∧ (withdrawRequest r s).platter = s.platter ∧
      (withdrawRequest r s).bag = s.bag ∧ (withdrawRequest r s).scale = s.scale ∧ (withdrawRequest r s).settledS = s.settledS ∧
      (withdrawRequest r s).sale = s.sale ∧ (withdrawRequest r s).monitor = s.monitor ∧ (withdrawRequest r s).reader = s.reader ∧
      (withdrawRequest r s).tone = s.tone ∧ (withdrawRequest r s).queue = s.queue ∧ (withdrawRequest r s).store = s.store := by
  unfold withdrawRequest
  try dsimp only
  repeat' split
  all_goals simp

/-- What `settleBudget` leaves unchanged. -/
@[simp] theorem settleBudget_frame (s : State) :
    (settleBudget s).pending = s.pending ∧ (settleBudget s).powered = s.powered ∧ (settleBudget s).now = s.now ∧
      (settleBudget s).inputs = s.inputs ∧ (settleBudget s).attendant = s.attendant ∧ (settleBudget s).platter = s.platter ∧
      (settleBudget s).bag = s.bag ∧ (settleBudget s).scale = s.scale ∧ (settleBudget s).settledS = s.settledS ∧
      (settleBudget s).sale = s.sale ∧ (settleBudget s).monitor = s.monitor ∧ (settleBudget s).reader = s.reader ∧
      (settleBudget s).drawer = s.drawer ∧ (settleBudget s).tone = s.tone ∧ (settleBudget s).queue = s.queue ∧
      (settleBudget s).engine = s.engine ∧ (settleBudget s).store = s.store := by
  unfold settleBudget
  try dsimp only
  repeat' split
  all_goals simp

/-- What `releaseUnits` leaves unchanged. -/
@[simp] theorem releaseUnits_frame (r : Requester) (n : Nat) (s : State) :
    (releaseUnits r n s).pending = s.pending ∧ (releaseUnits r n s).powered = s.powered ∧ (releaseUnits r n s).now = s.now ∧
      (releaseUnits r n s).inputs = s.inputs ∧ (releaseUnits r n s).attendant = s.attendant ∧ (releaseUnits r n s).platter = s.platter ∧
      (releaseUnits r n s).bag = s.bag ∧ (releaseUnits r n s).scale = s.scale ∧ (releaseUnits r n s).settledS = s.settledS ∧
      (releaseUnits r n s).sale = s.sale ∧ (releaseUnits r n s).monitor = s.monitor ∧ (releaseUnits r n s).reader = s.reader ∧
      (releaseUnits r n s).tone = s.tone ∧ (releaseUnits r n s).queue = s.queue ∧ (releaseUnits r n s).store = s.store := by
  unfold releaseUnits
  try dsimp only
  repeat' split
  all_goals simp

/-- What `releaseAll` leaves unchanged. -/
@[simp] theorem releaseAll_frame (r : Requester) (s : State) :
    (releaseAll r s).pending = s.pending ∧ (releaseAll r s).powered = s.powered ∧ (releaseAll r s).now = s.now ∧
      (releaseAll r s).inputs = s.inputs ∧ (releaseAll r s).attendant = s.attendant ∧ (releaseAll r s).platter = s.platter ∧
      (releaseAll r s).bag = s.bag ∧ (releaseAll r s).scale = s.scale ∧ (releaseAll r s).settledS = s.settledS ∧
      (releaseAll r s).sale = s.sale ∧ (releaseAll r s).monitor = s.monitor ∧ (releaseAll r s).reader = s.reader ∧
      (releaseAll r s).tone = s.tone ∧ (releaseAll r s).queue = s.queue ∧ (releaseAll r s).store = s.store := by
  unfold releaseAll
  try dsimp only
  repeat' split
  all_goals simp

/-- What `budgetSet` leaves unchanged. -/
@[simp] theorem budgetSet_frame (s : State) :
    (budgetSet s).pending = s.pending ∧ (budgetSet s).powered = s.powered ∧ (budgetSet s).now = s.now ∧
      (budgetSet s).inputs = s.inputs ∧ (budgetSet s).attendant = s.attendant ∧ (budgetSet s).platter = s.platter ∧
      (budgetSet s).bag = s.bag ∧ (budgetSet s).scale = s.scale ∧ (budgetSet s).settledS = s.settledS ∧
      (budgetSet s).sale = s.sale ∧ (budgetSet s).monitor = s.monitor ∧ (budgetSet s).reader = s.reader ∧
      (budgetSet s).tone = s.tone ∧ (budgetSet s).queue = s.queue ∧ (budgetSet s).store = s.store := by
  unfold budgetSet
  try dsimp only
  repeat' split
  all_goals simp

/-- What `beginAttempt` leaves unchanged. -/
@[simp] theorem beginAttempt_frame (c : DrawerCause) (s : State) :
    (beginAttempt c s).pending = s.pending ∧ (beginAttempt c s).powered = s.powered ∧ (beginAttempt c s).now = s.now ∧
      (beginAttempt c s).inputs = s.inputs ∧ (beginAttempt c s).attendant = s.attendant ∧ (beginAttempt c s).platter = s.platter ∧
      (beginAttempt c s).bag = s.bag ∧ (beginAttempt c s).scale = s.scale ∧ (beginAttempt c s).settledS = s.settledS ∧
      (beginAttempt c s).sale = s.sale ∧ (beginAttempt c s).monitor = s.monitor ∧ (beginAttempt c s).reader = s.reader ∧
      (beginAttempt c s).tone = s.tone ∧ (beginAttempt c s).queue = s.queue ∧ (beginAttempt c s).store = s.store := by
  unfold beginAttempt
  try dsimp only
  repeat' split
  all_goals simp

/-- What `kick` leaves unchanged. -/
@[simp] theorem kick_frame (k : KickSource) (s : State) :
    (kick k s).pending = s.pending ∧ (kick k s).powered = s.powered ∧ (kick k s).now = s.now ∧
      (kick k s).inputs = s.inputs ∧ (kick k s).attendant = s.attendant ∧ (kick k s).platter = s.platter ∧
      (kick k s).bag = s.bag ∧ (kick k s).scale = s.scale ∧ (kick k s).settledS = s.settledS ∧
      (kick k s).sale = s.sale ∧ (kick k s).monitor = s.monitor ∧ (kick k s).reader = s.reader ∧
      (kick k s).tone = s.tone ∧ (kick k s).queue = s.queue ∧ (kick k s).store = s.store := by
  unfold kick
  try dsimp only
  repeat' split
  all_goals simp

/-- What `endDrive` leaves unchanged. -/
@[simp] theorem endDrive_frame (c : DrawerCause) (s : State) :
    (endDrive c s).pending = s.pending ∧ (endDrive c s).powered = s.powered ∧ (endDrive c s).now = s.now ∧
      (endDrive c s).inputs = s.inputs ∧ (endDrive c s).attendant = s.attendant ∧ (endDrive c s).platter = s.platter ∧
      (endDrive c s).bag = s.bag ∧ (endDrive c s).scale = s.scale ∧ (endDrive c s).settledS = s.settledS ∧
      (endDrive c s).sale = s.sale ∧ (endDrive c s).monitor = s.monitor ∧ (endDrive c s).reader = s.reader ∧
      (endDrive c s).tone = s.tone ∧ (endDrive c s).queue = s.queue ∧ (endDrive c s).store = s.store := by
  unfold endDrive
  try dsimp only
  repeat' split
  all_goals simp

/-- What `beginHold` leaves unchanged. -/
@[simp] theorem beginHold_frame (s : State) :
    (beginHold s).pending = s.pending ∧ (beginHold s).powered = s.powered ∧ (beginHold s).now = s.now ∧
      (beginHold s).inputs = s.inputs ∧ (beginHold s).attendant = s.attendant ∧ (beginHold s).platter = s.platter ∧
      (beginHold s).bag = s.bag ∧ (beginHold s).scale = s.scale ∧ (beginHold s).settledS = s.settledS ∧
      (beginHold s).sale = s.sale ∧ (beginHold s).monitor = s.monitor ∧ (beginHold s).reader = s.reader ∧
      (beginHold s).tone = s.tone ∧ (beginHold s).queue = s.queue ∧ (beginHold s).store = s.store := by
  unfold beginHold
  try dsimp only
  repeat' split
  all_goals simp

/-- What `senseToOpen` leaves unchanged. -/
@[simp] theorem senseToOpen_frame (s : State) :
    (senseToOpen s).pending = s.pending ∧ (senseToOpen s).powered = s.powered ∧ (senseToOpen s).now = s.now ∧
      (senseToOpen s).inputs = s.inputs ∧ (senseToOpen s).attendant = s.attendant ∧ (senseToOpen s).platter = s.platter ∧
      (senseToOpen s).bag = s.bag ∧ (senseToOpen s).scale = s.scale ∧ (senseToOpen s).settledS = s.settledS ∧
      (senseToOpen s).sale = s.sale ∧ (senseToOpen s).monitor = s.monitor ∧ (senseToOpen s).reader = s.reader ∧
      (senseToOpen s).tone = s.tone ∧ (senseToOpen s).queue = s.queue ∧ (senseToOpen s).store = s.store := by
  unfold senseToOpen
  try dsimp only
  repeat' split
  all_goals simp

/-- What `senseToClosed` leaves unchanged. -/
@[simp] theorem senseToClosed_frame (s : State) :
    (senseToClosed s).pending = s.pending ∧ (senseToClosed s).powered = s.powered ∧ (senseToClosed s).now = s.now ∧
      (senseToClosed s).inputs = s.inputs ∧ (senseToClosed s).attendant = s.attendant ∧ (senseToClosed s).platter = s.platter ∧
      (senseToClosed s).bag = s.bag ∧ (senseToClosed s).scale = s.scale ∧ (senseToClosed s).settledS = s.settledS ∧
      (senseToClosed s).sale = s.sale ∧ (senseToClosed s).monitor = s.monitor ∧ (senseToClosed s).reader = s.reader ∧
      (senseToClosed s).supply = s.supply ∧ (senseToClosed s).queue = s.queue ∧ (senseToClosed s).engine = s.engine ∧
      (senseToClosed s).store = s.store := by
  unfold senseToClosed
  try dsimp only
  repeat' split
  all_goals simp

/-- What `requestMotor` leaves unchanged. -/
@[simp] theorem requestMotor_frame (s : State) :
    (requestMotor s).pending = s.pending ∧ (requestMotor s).powered = s.powered ∧ (requestMotor s).now = s.now ∧
      (requestMotor s).inputs = s.inputs ∧ (requestMotor s).attendant = s.attendant ∧ (requestMotor s).platter = s.platter ∧
      (requestMotor s).bag = s.bag ∧ (requestMotor s).scale = s.scale ∧ (requestMotor s).settledS = s.settledS ∧
      (requestMotor s).sale = s.sale ∧ (requestMotor s).monitor = s.monitor ∧ (requestMotor s).reader = s.reader ∧
      (requestMotor s).tone = s.tone ∧ (requestMotor s).queue = s.queue ∧ (requestMotor s).store = s.store := by
  unfold requestMotor
  try dsimp only
  repeat' split
  all_goals simp

/-- What `rowRequest` leaves unchanged. -/
@[simp] theorem rowRequest_frame (s : State) :
    (rowRequest s).pending = s.pending ∧ (rowRequest s).powered = s.powered ∧ (rowRequest s).now = s.now ∧
      (rowRequest s).inputs = s.inputs ∧ (rowRequest s).attendant = s.attendant ∧ (rowRequest s).platter = s.platter ∧
      (rowRequest s).bag = s.bag ∧ (rowRequest s).scale = s.scale ∧ (rowRequest s).settledS = s.settledS ∧
      (rowRequest s).sale = s.sale ∧ (rowRequest s).monitor = s.monitor ∧ (rowRequest s).reader = s.reader ∧
      (rowRequest s).tone = s.tone ∧ (rowRequest s).queue = s.queue ∧ (rowRequest s).store = s.store := by
  unfold rowRequest
  try dsimp only
  repeat' split
  all_goals simp

/-- What `beginRow` leaves unchanged. -/
@[simp] theorem beginRow_frame (l : LineProgress) (s : State) :
    (beginRow l s).pending = s.pending ∧ (beginRow l s).powered = s.powered ∧ (beginRow l s).now = s.now ∧
      (beginRow l s).inputs = s.inputs ∧ (beginRow l s).attendant = s.attendant ∧ (beginRow l s).platter = s.platter ∧
      (beginRow l s).bag = s.bag ∧ (beginRow l s).scale = s.scale ∧ (beginRow l s).settledS = s.settledS ∧
      (beginRow l s).sale = s.sale ∧ (beginRow l s).monitor = s.monitor ∧ (beginRow l s).reader = s.reader ∧
      (beginRow l s).tone = s.tone ∧ (beginRow l s).queue = s.queue ∧ (beginRow l s).store = s.store := by
  unfold beginRow
  try dsimp only
  repeat' split
  all_goals simp

/-- What `requestCut` leaves unchanged. -/
@[simp] theorem requestCut_frame (s : State) :
    (requestCut s).pending = s.pending ∧ (requestCut s).powered = s.powered ∧ (requestCut s).now = s.now ∧
      (requestCut s).inputs = s.inputs ∧ (requestCut s).attendant = s.attendant ∧ (requestCut s).platter = s.platter ∧
      (requestCut s).bag = s.bag ∧ (requestCut s).scale = s.scale ∧ (requestCut s).settledS = s.settledS ∧
      (requestCut s).sale = s.sale ∧ (requestCut s).monitor = s.monitor ∧ (requestCut s).reader = s.reader ∧
      (requestCut s).tone = s.tone ∧ (requestCut s).queue = s.queue ∧ (requestCut s).store = s.store := by
  unfold requestCut
  try dsimp only
  repeat' split
  all_goals simp

/-- What `giveLine` leaves unchanged. -/
@[simp] theorem giveLine_frame (s : State) :
    (giveLine s).pending = s.pending ∧ (giveLine s).powered = s.powered ∧ (giveLine s).now = s.now ∧
      (giveLine s).inputs = s.inputs ∧ (giveLine s).attendant = s.attendant ∧ (giveLine s).platter = s.platter ∧
      (giveLine s).bag = s.bag ∧ (giveLine s).scale = s.scale ∧ (giveLine s).settledS = s.settledS ∧
      (giveLine s).sale = s.sale ∧ (giveLine s).monitor = s.monitor ∧ (giveLine s).reader = s.reader ∧
      (giveLine s).drawer = s.drawer ∧ (giveLine s).tone = s.tone ∧ (giveLine s).supply = s.supply ∧
      (giveLine s).queue = s.queue ∧ (giveLine s).link = s.link ∧ (giveLine s).store = s.store := by
  unfold giveLine
  try dsimp only
  repeat' split
  all_goals simp

/-- What `proceed` leaves unchanged. -/
@[simp] theorem proceed_frame (s : State) :
    (proceed s).pending = s.pending ∧ (proceed s).powered = s.powered ∧ (proceed s).now = s.now ∧
      (proceed s).inputs = s.inputs ∧ (proceed s).attendant = s.attendant ∧ (proceed s).platter = s.platter ∧
      (proceed s).bag = s.bag ∧ (proceed s).scale = s.scale ∧ (proceed s).settledS = s.settledS ∧
      (proceed s).sale = s.sale ∧ (proceed s).monitor = s.monitor ∧ (proceed s).reader = s.reader ∧
      (proceed s).tone = s.tone ∧ (proceed s).queue = s.queue ∧ (proceed s).store = s.store := by
  unfold proceed
  try dsimp only
  repeat' split
  all_goals simp

/-- What `markStop` leaves unchanged. -/
@[simp] theorem markStop_frame (s : State) :
    (markStop s).pending = s.pending ∧ (markStop s).powered = s.powered ∧ (markStop s).now = s.now ∧
      (markStop s).inputs = s.inputs ∧ (markStop s).attendant = s.attendant ∧ (markStop s).platter = s.platter ∧
      (markStop s).bag = s.bag ∧ (markStop s).scale = s.scale ∧ (markStop s).settledS = s.settledS ∧
      (markStop s).sale = s.sale ∧ (markStop s).monitor = s.monitor ∧ (markStop s).reader = s.reader ∧
      (markStop s).drawer = s.drawer ∧ (markStop s).tone = s.tone ∧ (markStop s).supply = s.supply ∧
      (markStop s).queue = s.queue ∧ (markStop s).link = s.link ∧ (markStop s).store = s.store := by
  unfold markStop
  try dsimp only
  repeat' split
  all_goals simp

/-- What `startJob` leaves unchanged. -/
@[simp] theorem startJob_frame (c : JobCause) (s : State) :
    (startJob c s).pending = s.pending ∧ (startJob c s).powered = s.powered ∧ (startJob c s).now = s.now ∧
      (startJob c s).inputs = s.inputs ∧ (startJob c s).attendant = s.attendant ∧ (startJob c s).platter = s.platter ∧
      (startJob c s).bag = s.bag ∧ (startJob c s).scale = s.scale ∧ (startJob c s).settledS = s.settledS ∧
      (startJob c s).sale = s.sale ∧ (startJob c s).monitor = s.monitor ∧ (startJob c s).reader = s.reader ∧
      (startJob c s).tone = s.tone ∧ (startJob c s).store = s.store := by
  unfold startJob
  try dsimp only
  repeat' split
  all_goals simp

/-- What `acceptJob` leaves unchanged. -/
@[simp] theorem acceptJob_frame (j : Job) (s : State) :
    (acceptJob j s).pending = s.pending ∧ (acceptJob j s).powered = s.powered ∧ (acceptJob j s).now = s.now ∧
      (acceptJob j s).inputs = s.inputs ∧ (acceptJob j s).attendant = s.attendant ∧ (acceptJob j s).platter = s.platter ∧
      (acceptJob j s).bag = s.bag ∧ (acceptJob j s).scale = s.scale ∧ (acceptJob j s).settledS = s.settledS ∧
      (acceptJob j s).sale = s.sale ∧ (acceptJob j s).monitor = s.monitor ∧ (acceptJob j s).reader = s.reader ∧
      (acceptJob j s).tone = s.tone ∧ (acceptJob j s).store = s.store := by
  unfold acceptJob
  try dsimp only
  repeat' split
  all_goals simp

/-- What `jobDone` leaves unchanged. -/
@[simp] theorem jobDone_frame (j : Job) (rest : List Job) (s : State) :
    (jobDone j rest s).pending = s.pending ∧ (jobDone j rest s).powered = s.powered ∧ (jobDone j rest s).now = s.now ∧
      (jobDone j rest s).inputs = s.inputs ∧ (jobDone j rest s).attendant = s.attendant ∧ (jobDone j rest s).platter = s.platter ∧
      (jobDone j rest s).bag = s.bag ∧ (jobDone j rest s).scale = s.scale ∧ (jobDone j rest s).settledS = s.settledS ∧
      (jobDone j rest s).monitor = s.monitor ∧ (jobDone j rest s).reader = s.reader ∧ (jobDone j rest s).tone = s.tone ∧
      (jobDone j rest s).store = s.store := by
  unfold jobDone
  try dsimp only
  repeat' split
  all_goals simp

/-- What `lineComplete` leaves unchanged. -/
@[simp] theorem lineComplete_frame (s : State) :
    (lineComplete s).pending = s.pending ∧ (lineComplete s).powered = s.powered ∧ (lineComplete s).now = s.now ∧
      (lineComplete s).inputs = s.inputs ∧ (lineComplete s).attendant = s.attendant ∧ (lineComplete s).platter = s.platter ∧
      (lineComplete s).bag = s.bag ∧ (lineComplete s).scale = s.scale ∧ (lineComplete s).settledS = s.settledS ∧
      (lineComplete s).monitor = s.monitor ∧ (lineComplete s).reader = s.reader ∧ (lineComplete s).tone = s.tone ∧
      (lineComplete s).store = s.store := by
  unfold lineComplete
  try dsimp only
  repeat' split
  all_goals simp

/-- What `enterPause` leaves unchanged. -/
@[simp] theorem enterPause_frame (c : PauseCause) (s : State) :
    (enterPause c s).pending = s.pending ∧ (enterPause c s).powered = s.powered ∧ (enterPause c s).now = s.now ∧
      (enterPause c s).inputs = s.inputs ∧ (enterPause c s).attendant = s.attendant ∧ (enterPause c s).platter = s.platter ∧
      (enterPause c s).bag = s.bag ∧ (enterPause c s).scale = s.scale ∧ (enterPause c s).settledS = s.settledS ∧
      (enterPause c s).sale = s.sale ∧ (enterPause c s).monitor = s.monitor ∧ (enterPause c s).reader = s.reader ∧
      (enterPause c s).drawer = s.drawer ∧ (enterPause c s).tone = s.tone ∧ (enterPause c s).supply = s.supply ∧
      (enterPause c s).store = s.store := by
  unfold enterPause
  try dsimp only
  repeat' split
  all_goals simp

/-- What `leavePause` leaves unchanged. -/
@[simp] theorem leavePause_frame (c : PauseCause) (s : State) :
    (leavePause c s).pending = s.pending ∧ (leavePause c s).powered = s.powered ∧ (leavePause c s).now = s.now ∧
      (leavePause c s).inputs = s.inputs ∧ (leavePause c s).attendant = s.attendant ∧ (leavePause c s).platter = s.platter ∧
      (leavePause c s).bag = s.bag ∧ (leavePause c s).scale = s.scale ∧ (leavePause c s).settledS = s.settledS ∧
      (leavePause c s).sale = s.sale ∧ (leavePause c s).monitor = s.monitor ∧ (leavePause c s).reader = s.reader ∧
      (leavePause c s).tone = s.tone ∧ (leavePause c s).store = s.store := by
  unfold leavePause
  try dsimp only
  repeat' split
  all_goals simp

/-- What `causeRaised` leaves unchanged. -/
@[simp] theorem causeRaised_frame (c : PauseCause) (s : State) :
    (causeRaised c s).pending = s.pending ∧ (causeRaised c s).powered = s.powered ∧ (causeRaised c s).now = s.now ∧
      (causeRaised c s).inputs = s.inputs ∧ (causeRaised c s).attendant = s.attendant ∧ (causeRaised c s).platter = s.platter ∧
      (causeRaised c s).bag = s.bag ∧ (causeRaised c s).scale = s.scale ∧ (causeRaised c s).settledS = s.settledS ∧
      (causeRaised c s).sale = s.sale ∧ (causeRaised c s).monitor = s.monitor ∧ (causeRaised c s).reader = s.reader ∧
      (causeRaised c s).drawer = s.drawer ∧ (causeRaised c s).tone = s.tone ∧ (causeRaised c s).supply = s.supply ∧
      (causeRaised c s).store = s.store := by
  unfold causeRaised
  try dsimp only
  repeat' split
  all_goals simp

/-- What `causeGone` leaves unchanged. -/
@[simp] theorem causeGone_frame (c : PauseCause) (s : State) :
    (causeGone c s).pending = s.pending ∧ (causeGone c s).powered = s.powered ∧ (causeGone c s).now = s.now ∧
      (causeGone c s).inputs = s.inputs ∧ (causeGone c s).attendant = s.attendant ∧ (causeGone c s).platter = s.platter ∧
      (causeGone c s).bag = s.bag ∧ (causeGone c s).scale = s.scale ∧ (causeGone c s).settledS = s.settledS ∧
      (causeGone c s).sale = s.sale ∧ (causeGone c s).monitor = s.monitor ∧ (causeGone c s).reader = s.reader ∧
      (causeGone c s).tone = s.tone ∧ (causeGone c s).store = s.store := by
  unfold causeGone
  try dsimp only
  repeat' split
  all_goals simp

/-- What `leaveFault` leaves unchanged. -/
@[simp] theorem leaveFault_frame (s : State) :
    (leaveFault s).pending = s.pending ∧ (leaveFault s).powered = s.powered ∧ (leaveFault s).now = s.now ∧
      (leaveFault s).inputs = s.inputs ∧ (leaveFault s).attendant = s.attendant ∧ (leaveFault s).platter = s.platter ∧
      (leaveFault s).bag = s.bag ∧ (leaveFault s).scale = s.scale ∧ (leaveFault s).settledS = s.settledS ∧
      (leaveFault s).sale = s.sale ∧ (leaveFault s).monitor = s.monitor ∧ (leaveFault s).reader = s.reader ∧
      (leaveFault s).tone = s.tone ∧ (leaveFault s).store = s.store := by
  unfold leaveFault
  try dsimp only
  repeat' split
  all_goals simp

/-- What `abandonLine` leaves unchanged. -/
@[simp] theorem abandonLine_frame (s : State) :
    (abandonLine s).pending = s.pending ∧ (abandonLine s).powered = s.powered ∧ (abandonLine s).now = s.now ∧
      (abandonLine s).inputs = s.inputs ∧ (abandonLine s).attendant = s.attendant ∧ (abandonLine s).platter = s.platter ∧
      (abandonLine s).bag = s.bag ∧ (abandonLine s).scale = s.scale ∧ (abandonLine s).settledS = s.settledS ∧
      (abandonLine s).sale = s.sale ∧ (abandonLine s).monitor = s.monitor ∧ (abandonLine s).reader = s.reader ∧
      (abandonLine s).tone = s.tone ∧ (abandonLine s).queue = s.queue ∧ (abandonLine s).store = s.store := by
  unfold abandonLine
  try dsimp only
  repeat' split
  all_goals simp

/-- What `ignoreSwipe` leaves unchanged. -/
@[simp] theorem ignoreSwipe_frame (s : State) :
    (ignoreSwipe s).pending = s.pending ∧ (ignoreSwipe s).powered = s.powered ∧ (ignoreSwipe s).now = s.now ∧
      (ignoreSwipe s).inputs = s.inputs ∧ (ignoreSwipe s).attendant = s.attendant ∧ (ignoreSwipe s).platter = s.platter ∧
      (ignoreSwipe s).bag = s.bag ∧ (ignoreSwipe s).scale = s.scale ∧ (ignoreSwipe s).settledS = s.settledS ∧
      (ignoreSwipe s).sale = s.sale ∧ (ignoreSwipe s).monitor = s.monitor ∧ (ignoreSwipe s).drawer = s.drawer ∧
      (ignoreSwipe s).tone = s.tone ∧ (ignoreSwipe s).supply = s.supply ∧ (ignoreSwipe s).queue = s.queue ∧
      (ignoreSwipe s).engine = s.engine ∧ (ignoreSwipe s).link = s.link ∧ (ignoreSwipe s).store = s.store := by
  unfold ignoreSwipe
  try dsimp only
  repeat' split
  all_goals simp

/-- What `judgeSwipe` leaves unchanged. -/
@[simp] theorem judgeSwipe_frame (n a : TrackData) (s : State) :
    (judgeSwipe n a s).pending = s.pending ∧ (judgeSwipe n a s).powered = s.powered ∧ (judgeSwipe n a s).now = s.now ∧
      (judgeSwipe n a s).inputs = s.inputs ∧ (judgeSwipe n a s).attendant = s.attendant ∧ (judgeSwipe n a s).platter = s.platter ∧
      (judgeSwipe n a s).bag = s.bag ∧ (judgeSwipe n a s).scale = s.scale ∧ (judgeSwipe n a s).settledS = s.settledS ∧
      (judgeSwipe n a s).sale = s.sale ∧ (judgeSwipe n a s).monitor = s.monitor ∧ (judgeSwipe n a s).drawer = s.drawer ∧
      (judgeSwipe n a s).supply = s.supply ∧ (judgeSwipe n a s).queue = s.queue ∧ (judgeSwipe n a s).engine = s.engine ∧
      (judgeSwipe n a s).store = s.store := by
  unfold judgeSwipe
  try dsimp only
  repeat' split
  all_goals simp

end Sys2Proof.Machine
end

