-- ==== Sys2Proof/Laws/Link.lean ====
section
/-! SUPPORT. What the shared operations of the link can do: the report queue, the transmitter's choice, a request taken
as it arrives, the receive slots. -/

namespace Sys2Proof.Machine

/-- All that a push can do (R193). -/
theorem push_cases (r : Report) (l : Link) :
    (l.reports.length < 24 ∧
      l.push r = { l with reports := l.reports ++ [{ lostBefore := l.lost, report := r }], lost := false }) ∨
    (24 ≤ l.reports.length ∧ l.push r = { l with lost := true }) := by
  unfold Link.push
  split
  · exact .inl ⟨by assumption, rfl⟩
  · exact .inr ⟨by omega, rfl⟩

/-- A push changes the report queue and the lost flag alone (R193). -/
theorem push_frame (r : Report) (l : Link) :
    l.push r = { l with reports := (l.push r).reports, lost := (l.push r).lost } := by
  unfold Link.push
  split <;> rfl

@[simp] theorem push_reply (r : Report) (l : Link) : (l.push r).reply = l.reply := by rw [push_frame]
@[simp] theorem push_slots (r : Report) (l : Link) : (l.push r).slots = l.slots := by rw [push_frame]
@[simp] theorem push_dispatch (r : Report) (l : Link) : (l.push r).dispatch = l.dispatch := by rw [push_frame]
@[simp] theorem push_restart (r : Report) (l : Link) : (l.push r).restart = l.restart := by rw [push_frame]
@[simp] theorem push_transmitter (r : Report) (l : Link) : (l.push r).transmitter = l.transmitter := by rw [push_frame]
@[simp] theorem push_lineChangeDue (r : Report) (l : Link) : (l.push r).lineChangeDue = l.lineChangeDue := by
  rw [push_frame]
@[simp] theorem push_pendingLine (r : Report) (l : Link) : (l.push r).pendingLine = l.pendingLine := by rw [push_frame]
@[simp] theorem push_line (r : Report) (l : Link) : (l.push r).line = l.line := by rw [push_frame]
@[simp] theorem push_receiver (r : Report) (l : Link) : (l.push r).receiver = l.receiver := by rw [push_frame]
@[simp] theorem push_gapTimer (r : Report) (l : Link) : (l.push r).gapTimer = l.gapTimer := by rw [push_frame]

/-- A push keeps the bound of the queue (R193). -/
theorem push_bounded (r : Report) (l : Link) (h : l.reports.length ≤ 24) : (l.push r).reports.length ≤ 24 := by
  obtain ⟨h1, h2⟩ | ⟨h1, h2⟩ := push_cases r l <;> rw [h2]
  · simp; omega
  · exact h

/-- All that the choice can do: nothing, the reply begun, or the oldest report taken (R194). -/
theorem choose_cases (l : Link) :
    l.choose = l ∨ (l.transmitter = .idle ∧ l.choose = { l with transmitter := .sendingReply }) ∨
    ∃ r rest, l.transmitter = .idle ∧ l.reports = r :: rest ∧
      l.choose = { l with transmitter := .sendingReport r, reports := rest } := by
  unfold Link.choose
  split
  · split
    · exact .inl rfl
    · split
      · exact .inr (.inl ⟨by assumption, rfl⟩)
      · exact .inr (.inr ⟨_, _, by assumption, by assumption, rfl⟩)
      · exact .inl rfl
  · exact .inl rfl

/-- With a reply in the slot and nothing due, an idle transmitter begins the reply (R194). -/
theorem choose_withReply (l : Link) (r : Reply) (h : l.reply = some r) (hl : l.lineChangeDue = false)
    (hr : l.restart ≠ .due) : l.choose = { l with transmitter := l.transmitter.withReply } := by
  have hr' : (l.restart == RestartStage.due) = false := by simpa using hr
  unfold Link.choose
  cases l
  subst h hl
  rename_i tr _
  cases tr <;> simp_all [Transmitter.withReply]

/-- What open dispatch says (R190). -/
theorem dispatchOpen_iff (l : Link) :
    l.dispatchOpen = true ↔
      l.dispatch = .free ∧ l.reply = none ∧ l.restart = .none ∧ l.lineChangeDue = false := by
  simp [Link.dispatchOpen, and_assoc]

/-- The reply's KIND is the request's + 0x80 (R184). -/
theorem replyKind_requestKind (r : Request) : replyKind (requestKind r) = requestKind r + 0x80 := by
  cases r <;> rfl

/-- A request taken as it arrives, answered at once (R190, R194). -/
theorem asRequest_answered {s t : State} {tag : Byte} {r : Request} {st : Status} {f : ReplyFields} (h : s.accepts)
    (hr : handleRequest r s = (t, .reply st f)) (hl : t.link.lineChangeDue = false) (hd : t.link.restart ≠ .due) :
    asRequest tag r s = { t with link := t.link.answered (requestKind r) tag st f } := by
  obtain ⟨hp, ho, hs⟩ := h
  simp only [asRequest, asEvent, hp, if_true, requestArrives, ho, hs, and_self, takeRequest, hr, settleAnswer]
  simp only [formReply, replyKind_requestKind, endEvent, Link.answered]
  let l : Link := { t.link with
    reply := some { kind := requestKind r + 0x80, tag := tag, status := st, fields := f } }
  exact congrArg (fun l => { t with link := l }) (choose_withReply l _ rfl hl hd)

/-- A request taken as it arrives whose reply waits for a store write (R191). -/
theorem asRequest_deferred {s t : State} {tag : Byte} {r : Request} (h : s.accepts)
    (hr : handleRequest r s = (t, .deferred)) :
    asRequest tag r s = { t with link := t.link.deferred (requestKind r) tag } := by
  obtain ⟨hp, ho, hs⟩ := h
  simp only [asRequest, asEvent, hp, if_true, requestArrives, ho, hs, and_self, takeRequest, hr, settleAnswer]
  rfl

/-- A calibration command is its request at the level it brings (log 6). -/
theorem asCalibration_eq (e : Bool) (tag : Byte) (r : Request) (s : State) (h : s.powered = true) :
    asCalibration e tag r s = asRequest tag r { s with inputs := { s.inputs with calEnable := e } } := by
  simp [asCalibration, asRequest, asEvent, h]

/-- All that an offer to the slots can do (R189). -/
theorem offerFrame_cases (f : Frame) (s : State) :
    (s.link.slots.length < 2 ∧ offerFrame f s = setSlots (s.link.slots ++ [f]) s) ∨
    (2 ≤ s.link.slots.length ∧ offerFrame f s = report (.linkError .rxOverrun (some f.kind) (some f.tag)) s) := by
  unfold offerFrame
  split
  · exact .inl ⟨by assumption, rfl⟩
  · exact .inr ⟨by omega, rfl⟩

/-- All that a dispatch can do (R190). -/
theorem dispatchNext_cases (s : State) :
    dispatchNext s = s ∨
    ∃ f rest, s.link.dispatchOpen = true ∧ s.link.slots = f :: rest ∧
      dispatchNext s = takeFrame f (setSlots rest s) := by
  unfold dispatchNext
  split
  · split
    · exact .inr ⟨_, _, by assumption, by assumption, rfl⟩
    · exact .inl rfl
  · exact .inl rfl

/-- A frame that arrives where dispatch is open and no frame waits is dispatched at once (R189, R190). -/
theorem frameArrives_open (f : Frame) (s : State) (ho : s.link.dispatchOpen = true) (hs : s.link.slots = []) :
    frameArrives f s = takeFrame f s := by
  have h : setSlots [] (setSlots [f] s) = s := by
    cases s with
    | mk _ _ _ _ _ _ _ _ _ _ _ _ _ _ _ _ _ link _ =>
      cases link
      simp_all [setSlots]
  have ho' : (setSlots [f] s).link.dispatchOpen = true := ho
  simp only [frameArrives, offerFrame, hs]
  simp only [List.length_nil, Nat.zero_lt_succ, if_true, List.nil_append, dispatchNext, ho']
  simp only [setSlots_link]
  rw [h]

/-- The levels of a sent character: start, eight data bits with the least significant first, parity where there is one, stop (R182). -/
theorem sentCharacter_eq (p : Parity) (y : Byte) : sentCharacter p y = [false, y.getLsbD 0, y.getLsbD 1, y.getLsbD 2, y.getLsbD 3, y.getLsbD 4, y.getLsbD 5, y.getLsbD 6,
      y.getLsbD 7] ++
      (match p with
        | .none => [true]
        | .even => [oddOnes y, true]
        | .odd => [!oddOnes y, true]) := by
  cases p <;> rfl

/-- A bit is clean just when its three samples agree (R183). -/
theorem noisy_iff (x : Sample) : noisy x = false ↔ x = ⟨majority x, majority x, majority x⟩ := by
  rcases x with ⟨a, b, c⟩; cases a <;> cases b <;> cases c <;> simp [noisy, majority]

/-- The data of a sent character are its byte (R182). -/
theorem charData_sent (p y) : charData (charOfLevels p (sentCharacter p y)) = y := by
  apply BitVec.eq_of_getLsbD_eq
  intro i hi
  simp only [charData, BitVec.getLsbD_ofFnLE]
  rw [dif_pos hi]
  simp only [charOfLevels, Fin.getElem_fin, Vector.getElem_ofFn]
  rw [sentCharacter_eq]
  have : ∀ b, majority (cleanSample b) = b := by intro b; cases b <;> rfl
  rw [this]
  rcases i with _|_|_|_|_|_|_|_|i <;> first | rfl | omega

/-- A sent character, received clean under the same parity, is good and carries its byte (R182, R183). -/
theorem judgeChar_sent (p : Parity) (y : Byte) : judgeChar p (charOfLevels p (sentCharacter p y)) = .ok y := by
  have hn : ∀ b, noisy (cleanSample b) = false := by intro b; cases b <;> rfl
  have hm : ∀ b, majority (cleanSample b) = b := by intro b; cases b <;> rfl
  have hd := charData_sent p y
  have hall : (charOfLevels p (sentCharacter p y)).data.toList.any noisy = false := by
    rw [List.any_eq_false]
    intro x hx
    simp only [charOfLevels, Vector.toList_ofFn, List.mem_ofFn] at hx
    obtain ⟨i, rfl⟩ := hx
    rw [hn]; simp
  have hstart : noisy (charOfLevels p (sentCharacter p y)).start = false := hn _
  have hstop : noisy (charOfLevels p (sentCharacter p y)).stop = false := hn _
  have hpar : noisy (charOfLevels p (sentCharacter p y)).parity = false := hn _
  have hst : majority (charOfLevels p (sentCharacter p y)).stop = true := by
    simp only [charOfLevels, hm]; rw [sentCharacter_eq]; cases p <;> rfl
  have hag : parityAgrees p (charOfLevels p (sentCharacter p y)) = true := by
    unfold parityAgrees
    rw [hd]
    simp only [charOfLevels, hm]
    rw [sentCharacter_eq]
    cases p <;> simp
  unfold judgeChar
  rw [hstart, hstop, hall, hpar, hst, hag, hd]
  simp

/-- All that a frame ended in error does (R186). -/
theorem endFrame_eq (why : LinkErrorReason) (s : State) : endEvent (endFrame why s) = { s with link := (({ s.link with receiver := Receiver.hunting, gapTimer := none } : Link).push
          (.linkError why s.link.receiver.kind s.link.receiver.tag)).choose } := by
  simp only [endFrame, huntAgain, report, endEvent]

end Sys2Proof.Machine
end

