-- ==== Sys2Proof/Laws/Monitor.lean ====
section
/-! SUPPORT. What a steady channel's sample does, and what the shared operations of the Bagging Monitor do. -/

namespace Sys2Proof.Machine

/-- The largest of a constant list (R9). -/
theorem largest_replicate (n : Nat) (v : Int) (h : 0 < n) : largest (List.replicate n v) = v := by
  induction n with
  | zero => omega
  | succ k ih =>
    cases k with
    | zero => rfl
    | succ k =>
      have := ih (by omega)
      simp only [List.replicate_succ] at this ⊢
      simp [largest, this]

/-- The smallest of a constant list (R9). -/
theorem smallest_replicate (n : Nat) (v : Int) (h : 0 < n) : smallest (List.replicate n v) = v := by
  induction n with
  | zero => omega
  | succ k ih =>
    cases k with
    | zero => rfl
    | succ k =>
      have := ih (by omega)
      simp only [List.replicate_succ] at this ⊢
      simp [smallest, this]

/-- A constant ring takes its value and stays as it is (R5, R9). -/
theorem ringPush_replicate (n : Nat) (v : Int) (h : 0 < n) : ringPush n v (List.replicate n v)
    = List.replicate n v := by
  obtain ⟨k, rfl⟩ : ∃ k, n = k + 1 := ⟨n - 1, by omega⟩
  simp [ringPush, List.replicate_succ]
  rw [← List.replicate_succ', List.replicate_succ]

/-- The mean of a constant ring is its value (R5). -/
theorem roundAway_mul (n : Nat) (v : Int) (h : 0 < n) : roundAway (Int.ofNat n * v) (Int.ofNat n) = v := by
  have hn : (0:Int) < n := by omega
  unfold roundAway
  simp only [Int.ofNat_eq_natCast]
  split
  · have : 2 * ((n:Int) * v) + n = n + (2 * n) * v := by ring
    rw [this, Int.add_mul_ediv_left _ _ (by omega)]
    rw [Int.ediv_eq_zero_of_lt (by omega) (by omega)]; omega
  · have : 2 * (-((n:Int) * v)) + n = n + (2 * n) * (-v) := by ring
    rw [this, Int.add_mul_ediv_left _ _ (by omega)]
    rw [Int.ediv_eq_zero_of_lt (by omega) (by omega)]; omega

/-- A sample of a steady value enters the ring and leaves it as it was (R5). -/
theorem steady_sample (ch : ChannelId) (v fine : Int) (s : State) (h : s.steady ch v fine) :
    (s.channel ch).takeSample (filterLen s.live ch) v = s.channel ch ∧
    (s.channel ch).formOutput ch s.live = (s.channel ch).steadied ch v fine := by
  obtain ⟨h1, h2, h3, h4, h5, h6, h7, h8, h9, h10, h11, h12, h13⟩ := h
  have hl : s.live = s.store.live := rfl
  refine ⟨?_, ?_⟩
  · unfold Channel.takeSample
    rw [h11, hl, ringPush_replicate _ _ h9, if_neg (by simp)]
    have : ((List.replicate (filterLen s.store.live ch) v).head?).getD 0 = v := by
      cases hh : filterLen s.store.live ch with
      | zero => omega
      | succ k => simp [List.replicate_succ]
    rw [this]
    cases hc : s.channel ch
    simp_all
  · unfold Channel.formOutput
    have sat : saturationOf (List.replicate (filterLen s.store.live ch) v) = .no := by
      simp [saturationOf, List.mem_replicate]
      rw [if_neg (fun e => h7 e.2.symm), if_neg (fun e => h8 e.2.symm)]
    have band : (0:Int) ≤ stabilityBand s.store.live ch (s.channel ch).record := by
      cases ch
      · simp only [stabilityBand]; cases (s.channel .platter).record.profileInForce <;> simp [Profile.e1]
      · simp [stabilityBand]
    simp only [hl, h12, roundAway_mul _ _ h9, h5, h11, sat, h13, Option.getD_some,
        ringPush_replicate _ _ h10, h4, if_true, stableTest, largest_replicate _ _ h10,
        smallest_replicate _ _ h10]
    simp [band, Channel.steadied, h13, h11, h12]
    try (cases ch <;> rfl)

/-- The output of a steady value keeps a READY channel READY (R12). -/
theorem steady_judge (ch : ChannelId) (v fine : Int) (s : State) (h : s.steady ch v fine) :
    judgeCondition ch { filtered := v, fineGross := some fine, saturated := .no, stable := true } (s.withChannel ch ((s.channel ch).steadied ch v fine)) = s.withChannel ch ((s.channel ch).steadied ch v fine) := by
  obtain ⟨h1, h2, h3, h4, h5, h6, h7, h8, h9, h10, h11, h12, h13⟩ := h
  unfold judgeCondition
  simp [Channel.steadied, h3, ChannelCondition.ranged, h6, setCondition]

/-- A sample of a steady value forms a stable output and carries it through its stages (R5). -/
theorem steady_arrives (ch : ChannelId) (v fine : Int) (s : State) (h : s.steady ch v fine) :
    sampleArrives ch v s = (match ch with | .platter => platterStages | .bag => bagStage)
        (s.withChannel ch ((s.channel ch).steadied ch v fine)) := by
  have h' := h
  obtain ⟨h1, h2, h3, h4, h5, h6, h7, h8, h9, h10, h11, h12, h13⟩ := h
  obtain ⟨a, b⟩ := steady_sample ch v fine s h'
  have w : s.withChannel ch (s.channel ch) = s := by cases ch <;> rfl
  simp only [sampleArrives, h1, h2, a, w]
  have : ¬ (s.channel ch).filterRing.length < filterLen s.live ch := by rw [h11]; simp [State.live]
  simp only [this, if_false, lt_irrefl, filterOutput, b, withChannel_channel]
  have := steady_judge ch v fine s h'
  cases ch <;> simp [Channel.steadied] at this ⊢ <;> rw [this]

/-- Gaining the tone leaves the bagging alert (R135). -/
theorem toneGain_bagAlertHeld (o b) (t : Tone) : (t.gain o b).bagAlertHeld = t.bagAlertHeld := by
  unfold Tone.gain Tone.sound; dsimp only; split
  · split <;> rfl
  · rfl

/-- Releasing the tone leaves the bagging alert (R135). -/
theorem toneRelease_bagAlertHeld (t : Tone) : (t.release).bagAlertHeld = t.bagAlertHeld := by
  unfold Tone.release; split
  · exact toneGain_bagAlertHeld _ _ _
  · split
    · exact toneGain_bagAlertHeld _ _ _
    · rfl

/-- Settling the alert makes it follow the monitor (R88). -/
theorem settleAlert_bagAlertHeld (s : State) : (settleAlert s).tone.bagAlertHeld = s.monitor.alerting := by
  unfold settleAlert
  cases h : s.monitor.alerting <;> simp
  · split
    · simp only [withdrawHeld, Tone.withdraw, Tone.mark]; split
      · rw [toneRelease_bagAlertHeld]
      · rfl
    · simp_all
  · split
    · assumption
    · simp only [placeHeld, Tone.placeHeld, Tone.mark]; split
      · rw [toneGain_bagAlertHeld]
      · rfl

/-- Clearing an exception removes it alone (R90). -/
theorem clearOne_monitor (x c) (s : State)
    : (clearOne x c s).monitor = { s.monitor with exceptions := s.monitor.exceptions.filter fun y => y.id != x.id } := by
  unfold clearOne; simp [settleAlert_frame, exceptionReport, mapMonitor]

/-- All that raising an exception does to the monitor (R86, R87). -/
theorem raiseException_monitor (a b c) (s : State)
    : (raiseException a b c s).monitor.expectations = s.monitor.expectations ∧
   (s.monitor.exceptions.length < 8 → (raiseException a b c s).monitor.exceptions = s.monitor.exceptions ++ [{ id := s.monitor.nextExceptionId, kind := a, entry := b, delta := c }] ∧ (raiseException a b c s).monitor.unclaimed = s.monitor.unclaimed) ∧
   (8 ≤ s.monitor.exceptions.length → (raiseException a b c s).monitor.exceptions = s.monitor.exceptions ∧
       (raiseException a b c s).monitor.suspended = true ∧
       (raiseException a b c s).monitor.unclaimed = none) := by
  unfold raiseException; dsimp only; split
  · refine ⟨by simp, by simp, by intro h; omega⟩
  · refine ⟨by simp, by intro h; omega, by simp⟩

/-- An exception raised holds the alert (R88). -/
theorem raiseException_bagAlertHeld (a b c) (s : State)
    : (raiseException a b c s).tone.bagAlertHeld = true := by
  unfold raiseException; dsimp only; split <;> simp [settleAlert_bagAlertHeld, Monitor.alerting,
      exceptionReport, mapMonitor]

/-- An entry found has the number asked for (R54). -/
theorem findEntry_number {n : Nat} {b : List Entry} {e} (h : findEntry n b = some e) : e.number = n := by
  have := List.find?_some h; simpa using this

/-- A status put on an absent number changes nothing. -/
theorem putStatus_absent (n : Nat) (st : BaggingStatus) (b : List Entry) (h : ∀ e ∈ b, e.number ≠ n)
    : putStatus n st b = b := by
  unfold putStatus
  conv_rhs => rw [← List.map_id b]
  apply List.map_congr_left
  intro e he; simp [h e he]

/-- An expectation inserted is one more (R77). -/
theorem insertExpectation_length (x : Expectation) (l : List Expectation)
    : (insertExpectation x l).length = l.length + 1 := by
  induction l with
  | nil => rfl
  | cons y ys ih => simp only [insertExpectation]; split <;> simp [ih]

/-- No expectation is chosen just when none matches (R76). -/
theorem oldestMatch_none {p : Expectation → Bool} {l : List Expectation} : oldestMatch p l = none ↔ ∀ y ∈ l, p y = false := by
  induction l with
  | nil => simp [oldestMatch]
  | cons a as ih =>
    simp only [oldestMatch]
    cases h : oldestMatch p as with
    | none => cases hp : p a <;> simp [hp]; exact ih.1 h
    | some z =>
      have : ¬ ∀ y ∈ as, p y = false := fun e => by rw [ih.2 e] at h; simp at h
      simp only [List.mem_cons, forall_eq_or_imp]
      constructor
      · intro e; split at e <;> simp at e
      · intro e; exact absurd e.2 this

/-- The expectation chosen is listed, matches, and has the least order of those that match (R76). -/
theorem oldestMatch_some {p : Expectation → Bool} {l : List Expectation} {z} (h : oldestMatch p l = some z) :
    z ∈ l ∧ p z = true ∧ ∀ y ∈ l, p y = true → z.order ≤ y.order := by
  induction l generalizing z with
  | nil => simp [oldestMatch] at h
  | cons a as ih =>
    simp only [oldestMatch] at h
    cases h' : oldestMatch p as with
    | none =>
      rw [h'] at h
      have hn := oldestMatch_none.1 h'
      cases hp : p a <;> simp [hp] at h
      subst h
      refine ⟨by simp, hp, ?_⟩
      intro y hy hpy
      rcases List.mem_cons.1 hy with rfl | hy
      · exact le_refl _
      · simp [hn y hy] at hpy
    | some w =>
      rw [h'] at h
      obtain ⟨a1, a2, a3⟩ := ih h'
      simp only at h
      split at h
      · rename_i hc
        simp at hc h; subst h
        refine ⟨by simp, hc.1, ?_⟩
        intro y hy hpy
        rcases List.mem_cons.1 hy with rfl | hy
        · exact le_refl _
        · exact (le_of_lt hc.2).trans (a3 y hy hpy)
      · rename_i hc
        simp at hc h; subst h
        refine ⟨List.mem_cons_of_mem _ a1, a2, ?_⟩
        intro y hy hpy
        rcases List.mem_cons.1 hy with rfl | hy
        · exact hc hpy
        · exact a3 y hy hpy

/-- An expectation that matches and is older than every other that does is the one chosen (R76). -/
theorem oldestMatch_eq {p : Expectation → Bool} {l : List Expectation} {x} (h1 : x ∈ l) (h2 : p x = true)
    (h3 : ∀ y ∈ l, p y = true → y = x ∨ x.order < y.order) : oldestMatch p l = some x := by
  cases h : oldestMatch p l with
  | none => have := oldestMatch_none.1 h x h1; simp [this] at h2
  | some z =>
    obtain ⟨a1, a2, a3⟩ := oldestMatch_some h
    rcases h3 z a1 a2 with rfl | e
    · rfl
    · have := a3 x h1 h2; omega

/-- Settling the bag alert changes the tone alone (R88). -/
theorem settleAlert_eq (s : State) : settleAlert s = { s with tone := (settleAlert s).tone } := by
  unfold settleAlert placeHeld withdrawHeld
  split <;> split <;> rfl

/-- All that clearing one exception does: it leaves the list, one BAG_EXCEPTION is queued, and the bag alert follows (R86, R88, R95). -/
theorem clearOne_eq (x c) (s : State) : ∃ t, clearOne x c s = { s with
      monitor := { s.monitor with exceptions := s.monitor.exceptions.filter fun y => y.id != x.id }
      link := s.link.push (.bagException .cleared (some x.id) (some x.kind) x.entry x.delta (some c)
        (s.monitor.exceptions.filter fun y => y.id != x.id).length s.monitor.suspended none)
      tone := t } ∧ t.bagAlertHeld = (!(s.monitor.exceptions.filter fun y => y.id != x.id).isEmpty || s.monitor.suspended) := by
  refine ⟨(clearOne x c s).tone, ?_, ?_⟩
  · unfold clearOne
    rw [settleAlert_eq]
    rfl
  · unfold clearOne
    rw [settleAlert_bagAlertHeld]
    rfl

/-- All that raising an exception does, with room in the list (R86) and without (R87). -/
theorem raiseException_eq (k e a) (s : State) :
    (s.monitor.exceptions.length < 8 → ∃ t, raiseException k e a s = { s with
      monitor := { s.monitor with
        exceptions := s.monitor.exceptions ++ [{ id := s.monitor.nextExceptionId, kind := k, entry := e, delta := a }]
        nextExceptionId := nextFreeId (s.monitor.exceptions.map BagException.id ++ [s.monitor.nextExceptionId])
              (s.monitor.exceptions.length + 2) s.monitor.nextExceptionId }
      link := s.link.push (.bagException .raised (some s.monitor.nextExceptionId) (some k) e a none (s.monitor.exceptions.length + 1) s.monitor.suspended none)
      tone := t } ∧ t.bagAlertHeld = true) ∧
    (8 ≤ s.monitor.exceptions.length → ∃ t, raiseException k e a s = { s with
      monitor := { s.monitor with suspended := true, unclaimed := none }
      link := s.link.push (.bagException .suspended none (some k) e a none s.monitor.exceptions.length true none)
      tone := t } ∧ t.bagAlertHeld = true) := by
  refine ⟨fun h => ⟨(raiseException k e a s).tone, ?_, raiseException_bagAlertHeld _ _ _ _⟩, fun h => ⟨(raiseException k e a s).tone, ?_, raiseException_bagAlertHeld _ _ _ _⟩⟩
  · unfold raiseException
    simp only [h, if_true]
    rw [settleAlert_eq]
    simp only [exceptionReport, mapMonitor, report, List.length_append, List.map_append, List.length_singleton, List.map_cons, List.map_nil]
  · unfold raiseException
    simp only [show ¬ s.monitor.exceptions.length < 8 by omega, if_false]
    rw [settleAlert_eq]
    rfl

/-- A status set on an entry appended behind others of other numbers. -/
theorem putStatus_append (n : Nat) (st : BaggingStatus) (b : List Entry) (e : Entry) (h : ∀ y ∈ b, y.number ≠ n) (he : e.number = n) :
    putStatus n st (b ++ [e]) = b ++ [{ e with status := st }] := by
  have := putStatus_absent n st b h
  unfold putStatus at this ⊢
  rw [List.map_append, this]
  simp [he]

/-- A bagging status given to an entry of the basket: the entry and its report, and nothing else (R94). -/
theorem setStatus_found {n : Nat} {e : Entry} (st : BaggingStatus) (why : BaggingCause) {s : State}
    (h : findEntry n s.basket = some e) :
    setStatus n st why s = { s with
      sale := { s.sale with current := s.sale.current.mapRecord fun q => { q with
        basket := q.basket.map fun y => if y.number = n then { y with status := st } else y } }
      link := s.link.push (.entryBagging n st (some e.status) why) } := by
  unfold setStatus
  rw [h]
  rfl

end Sys2Proof.Machine
end

