-- ==== Sys2Proof/Laws/Reports.lean ====
section
/-! SUPPORT. What a request command answers, and which operations touch the link by queued reports alone. -/

namespace Sys2Proof.Machine

/-- A request taken as it arrives and answered at once (R190): what the handler gives, with the reply formed. -/
theorem asRequest_replies {s t : State} {tag : Byte} {r : Request} {st : Status}
    {f : ReplyFields} (h : s.accepts)
    (hr : handleRequest r s = (t, .reply st f)) (hl : t.link.lineChangeDue = s.link.lineChangeDue)
        (hd : t.link.restart = s.link.restart) :
    asRequest tag r s = t.replies (requestKind r) tag st f := by
  have h2 := (dispatchOpen_iff _).1 h.2.1
  exact asRequest_answered h hr (by rw [hl]; exact h2.2.2.2) (by rw [hd, h2.2.2.1]; simp)

/-- `exec` of a request command that is answered at once (R190). -/
theorem exec_replies {s t : State} {c : Instr} {tag : Byte} {r : Request} {st : Status} {f : ReplyFields}
    {k : Byte} (h : s.accepts)
    (hc : exec c s = .next (asRequest tag r s)) (hk : requestKind r = k)
    (hr : handleRequest r s = (t, .reply st f)) (hl : t.link.lineChangeDue = s.link.lineChangeDue)
        (hd : t.link.restart = s.link.restart) :
    exec c s = .next (t.replies k tag st f) := by
  rw [hc, ← hk, asRequest_replies h hr hl hd]

/-- A state change that touches the link by queued reports alone (R193). -/
def OnlyReports (s t : State) : Prop := t.link = { s.link with reports := t.link.reports, lost := t.link.lost }

/-- Nothing changed. (R193) -/
theorem OnlyReports.refl (s : State) : OnlyReports s s := rfl

/-- One after the other. (R193) -/
theorem OnlyReports.trans {a b c : State} (h : OnlyReports a b) (h' : OnlyReports b c) : OnlyReports a c := by
  unfold OnlyReports at *; rw [h', h]

/-- A report queued. (R193) -/
theorem OnlyReports.report (r) (s : State) : OnlyReports s (report r s) := push_frame r s.link

/-- The link left as it was. (R193) -/
theorem OnlyReports.same {s t : State} (h : t.link = s.link) : OnlyReports s t := by unfold OnlyReports; rw [h]

/-- A walk reports the grants alone. (R193) -/
theorem OnlyReports.walk (s : State) : OnlyReports s (walk s) := by
  unfold Machine.walk; dsimp only
  split
  · exact (OnlyReports.same (by simp)).trans (OnlyReports.report _ _)
  · exact OnlyReports.same (by simp)

/-- A unit request. (R193) -/
theorem OnlyReports.request (r n) (s : State) : OnlyReports s (requestUnits r n s) := by
  unfold requestUnits; exact (OnlyReports.same rfl).trans (OnlyReports.walk _)

/-- A motor request. (R193) -/
theorem OnlyReports.motor (s : State) : OnlyReports s (requestMotor s) := by
  unfold requestMotor; dsimp only
  split
  · exact (OnlyReports.request _ _ _).trans (OnlyReports.same rfl)
  · exact OnlyReports.request _ _ _

/-- A row request. (R193) -/
theorem OnlyReports.row (s : State) : OnlyReports s (rowRequest s) := by
  unfold rowRequest
  split
  · exact OnlyReports.refl _
  · split
    · exact OnlyReports.request _ _ _
    · split
      · exact OnlyReports.request _ _ _
      · exact OnlyReports.motor _

/-- Going on with the job. (R193) -/
theorem OnlyReports.proceed (s : State) : OnlyReports s (Machine.proceed s) := by
  unfold Machine.proceed
  split
  · exact OnlyReports.refl _
  · split
    · dsimp only
      repeat' split
      all_goals first
        | exact OnlyReports.refl _
        | (unfold beginRow; exact (OnlyReports.same rfl).trans (OnlyReports.row _))
        | (unfold requestCut; exact (OnlyReports.same rfl).trans (OnlyReports.request _ _ _))
    · exact OnlyReports.refl _

/-- A line given. (R193) -/
theorem OnlyReports.give (s : State) : OnlyReports s (giveLine s)
    := OnlyReports.same (giveLine_frame s).2.2.2.2.2.2.2.2.2.2.2.2.2.2.2.2.1

/-- A PRINT_JOB report. (R193) -/
theorem OnlyReports.job (j l c n) (s : State) : OnlyReports s (jobReport j l c n s) := OnlyReports.report _ _

/-- A PRINTER_STATE report. (R193) -/
theorem OnlyReports.printer (a b c) (s : State) : OnlyReports s (printerReport a b c s)
    := OnlyReports.report _ _

/-- A job started. (R193) -/
theorem OnlyReports.start (c) (s : State) : OnlyReports s (startJob c s) := by
  unfold startJob
  split
  · exact OnlyReports.refl _
  · split
    · dsimp only
      refine OnlyReports.trans ?_ (OnlyReports.proceed _)
      split
      all_goals first
        | refine OnlyReports.trans ?_ (OnlyReports.printer _ _ _ _)
        | skip
      all_goals refine OnlyReports.trans ?_ (OnlyReports.job _ _ _ _ _)
      all_goals refine OnlyReports.trans ?_ (OnlyReports.give _)
      all_goals exact OnlyReports.same rfl
    · exact OnlyReports.refl _

/-- A job accepted. (R193) -/
theorem OnlyReports.accept (j) (s : State) : OnlyReports s (acceptJob j s) := by
  unfold acceptJob; dsimp only
  split
  · exact (OnlyReports.same rfl).trans (OnlyReports.start _ _)
  · exact (OnlyReports.same rfl).trans (OnlyReports.job _ _ _ _ _)

/-- A kick. (R193) -/
theorem OnlyReports.kick (k) (s : State) : OnlyReports s (Machine.kick k s) := by
  unfold Machine.kick
  split
  · unfold beginAttempt; dsimp only
    refine OnlyReports.trans (OnlyReports.same ?_) (OnlyReports.report _ _)
    simp
  · exact OnlyReports.report _ _

/-- A weigh request ended. (R193) -/
theorem OnlyReports.endW (a b c d) (s : State) : OnlyReports s (endWeigh a b c d s) := by
  unfold endWeigh; split
  · exact OnlyReports.refl _
  · exact (OnlyReports.same rfl).trans (OnlyReports.report _ _)

/-- The monitor emptied. (R193) -/
theorem OnlyReports.emptyMon (a b) (s : State) : OnlyReports s (emptyMonitor a b s) := by
  unfold emptyMonitor
  dsimp only
  split
  · exact OnlyReports.trans (OnlyReports.same (by simp)) (OnlyReports.report _ _)
  · exact OnlyReports.same (by simp)

/-- The alert settled. (R193) -/
theorem OnlyReports.settle (s : State) : OnlyReports s (settleAlert s) := OnlyReports.same (by simp)

/-- An exception cleared. (R193) -/
theorem OnlyReports.clear (x c) (s : State) : OnlyReports s (clearOne x c s) := by
  unfold clearOne
  refine OnlyReports.trans ?_ (OnlyReports.settle _)
  exact OnlyReports.trans (OnlyReports.same rfl) (OnlyReports.report _ _)

/-- An exception raised. (R193) -/
theorem OnlyReports.raise (a b c) (s : State) : OnlyReports s (raiseException a b c s) := by
  unfold raiseException; dsimp only
  split <;> refine OnlyReports.trans ?_ (OnlyReports.settle _)
      <;> exact OnlyReports.trans (OnlyReports.same rfl) (OnlyReports.report _ _)

/-- A bagging status set. (R193) -/
theorem OnlyReports.status (a b c) (s : State) : OnlyReports s (setStatus a b c s) := by
  unfold setStatus; split
  · exact OnlyReports.refl _
  · exact OnlyReports.trans (OnlyReports.same rfl) (OnlyReports.report _ _)

/-- Any exception naming an entry cleared. (R193) -/
theorem OnlyReports.clearAny (x c) (s : State) : OnlyReports s (clearAnyNaming x c s) := by
  unfold clearAnyNaming; split
  · exact OnlyReports.clear _ _ _
  · exact OnlyReports.refl _

/-- `exec` of a request command that is answered at once and else touches the link by reports alone (R190, R193). -/
theorem exec_replies_of_onlyReports {s t : State} {c : Instr} {tag : Byte} {r : Request} {st : Status}
    {f : ReplyFields} (h : s.accepts)
    (hc : exec c s = .next (asRequest tag r s))
    (hr : handleRequest r s = (t, .reply st f)) (ho : OnlyReports s t) :
    exec c s = .next (t.replies (requestKind r) tag st f) := by
  unfold OnlyReports at ho
  exact exec_replies h hc rfl hr (by rw [ho]) (by rw [ho])

/-- The choice does not look at the receive slots (R194). -/
theorem choose_slots (fs : List Frame) (l : Link) :
    ({ l with slots := fs } : Link).choose = { l.choose with slots := fs } := by
  unfold Link.choose; dsimp only
  split
  · split
    · rfl
    · split <;> rfl
  · rfl

/-- The choice does not look at the receiver (R194). -/
theorem choose_receiver (x : Receiver) (g : Option Nat) (l : Link) :
    ({ l with receiver := x, gapTimer := g } : Link).choose = { l.choose with receiver := x, gapTimer := g } := by
  unfold Link.choose; dsimp only
  split
  · split
    · rfl
    · split <;> rfl
  · rfl

/-- A frame that arrives at an open dispatch with no frame waiting is taken at once (R189, R190). -/
theorem frameArrives_accepts (f : Frame) {s : State} (ha : s.accepts) : frameArrives f s = takeFrame f s := by
  have e2 : ({ s with link := { s.link with slots := [] } } : State) = s := by rw [← ha.2.2]
  unfold frameArrives offerFrame
  rw [if_pos (by rw [ha.2.2]; simp)]
  unfold dispatchNext
  rw [if_pos (by exact ha.2.1)]
  simp only [setSlots, ha.2.2, List.nil_append, e2]

end Sys2Proof.Machine
end

