-- ==== Sys2Proof/Laws/Supply.lean ====
section
/-! SUPPORT. What the shared operations of the supply, the drawer and the printer do when nothing waits for units, and
what accepting a job does to the job list. -/

namespace Sys2Proof.Machine

/-- With nothing waiting a walk grants nothing (R139). -/
theorem walkOver_quiet (rs) (s : State) (h : s.supply.waiting = ⟨none, none, none, none⟩)
    : walkOver rs s = s := by
  induction rs with
  | nil => rfl
  | cons r rest ih => cases r <;> simp [walkOver, h, Needs.of, ih]

/-- With nothing waiting and the drawer not in WAIT_SUPPLY a walk changes nothing (R139). -/
theorem walk_quiet (s : State) (h : s.supply.waiting = ⟨none, none, none, none⟩)
    (h2 : s.drawer.state ≠ .waitSupply) : walk s = s := by
  have : walkQuietly s = s := by unfold walkQuietly; split; rfl; exact walkOver_quiet _ _ h
  simp [walk, this, h2]

/-- With no pending budget nothing comes into force (R142). -/
theorem settleBudget_quiet (s : State) (h : s.store.live.supplyBudget = s.supply.budget)
    : settleBudget s = s := by
  simp [settleBudget, State.live, h]

/-- A release on a quiet supply gives back the units and grants nothing (R139, R142). -/
theorem releaseUnits_quiet (r : Requester) (n : Nat) (s : State) (hq : s.quietSupply)
    (hd : s.drawer.state ≠ .waitSupply) :
    releaseUnits r n s = { s with supply := { s.supply with granted := s.supply.granted.sub r n } } := by
  obtain ⟨h1, h2, h3⟩ := hq
  let X : State := { s with supply := { s.supply with granted := s.supply.granted.sub r n } }
  have a : settleBudget X = X := settleBudget_quiet X h3
  have b : walk X = X := walk_quiet X h1 hd
  show walk (settleBudget X) = X
  rw [a, b]

/-- A motor request that fits is granted at once (R139, R140). -/
theorem requestMotor_granted (s : State) (h1 : s.supply.waiting = ⟨none, none, none, none⟩)
    (h2 : s.supply.low = false) (h3 : 3 ≤ s.supply.budget - s.supply.granted.total)
    (hd : s.drawer.state ≠ .waitSupply) :
   requestMotor s = { s with
      supply := { s.supply with granted := { s.supply.granted with motor := s.supply.granted.motor + 3 } }
      engine := s.engine.beginStep } := by
  have : requestUnits .motor 3 s = { s with
      supply := { s.supply with granted := { s.supply.granted with motor := s.supply.granted.motor + 3 } }
      engine := s.engine.beginStep } := by
    simp [requestUnits, placeNeed, h1, Needs.put, walk, walkQuietly, h2, walkOver, Needs.of, grantFor,
        Supply.free, h3, grantUnits, beginWork, Grants.add, hd]
  unfold requestMotor; dsimp only
  rw [this]; simp [h1]

/-- A kick of a CLOSED drawer that fits is granted at once (R122 to R124). -/
theorem kick_granted (k) (s : State) (hq : s.quietSupply) (hc : s.drawer.state = .closed)
    (hf : 14 ≤ s.supply.budget - s.supply.granted.total) :
  kick k s = { s with
          drawer := { s.drawer with
            state := .pullIn
            attempts := 1
            phaseTimer := some s.store.live.drawerPullMs
            kickSource := some k }
          supply := { s.supply with
            granted := { s.supply.granted with drawer := s.supply.granted.drawer + 14 } }
          link := s.link.push (.drawerState .pullIn .closed .kick 1 (some k)) } := by
  obtain ⟨h1, h2, h3⟩ := hq
  simp [kick, hc, beginAttempt, walkQuietly, placeNeed, h2, h1, Needs.put, walkOver, Needs.of, grantFor,
      Supply.free, hf, grantUnits, beginWork, Drawer.beginPull, Grants.add, drawerReport, report, State.live]

/-- Work begun by a grant leaves the printer condition. (R166) -/
theorem beginWork_cond (r n) (s : State) : (beginWork r n s).engine.condition = s.engine.condition := by
  cases r <;> simp [beginWork, Engine.beginCut, Engine.beginStep, Engine.beginPhase]
  split <;> (try rfl)
  split <;> rfl

/-- A walk leaves the printer condition. (R166) -/
theorem walkOver_cond (rs) (s : State) : (walkOver rs s).engine.condition = s.engine.condition := by
  induction rs generalizing s with
  | nil => rfl
  | cons r rest ih =>
    simp only [walkOver]
    split
    · exact ih s
    · split
      · rw [ih]; simp [grantUnits, beginWork_cond]
      · rfl

/-- A unit request leaves the printer condition. (R166) -/
theorem request_cond (r n) (s : State) : (requestUnits r n s).engine.condition = s.engine.condition := by
  have : (walkQuietly (placeNeed r n s)).engine.condition = s.engine.condition := by
    unfold walkQuietly; split
    · rfl
    · rw [walkOver_cond]; rfl
  unfold requestUnits walk; dsimp only
  split
  · simpa [drawerReport] using this
  · exact this

/-- Going on with the job leaves the printer condition. (R166) -/
theorem proceed_cond (s : State) : (proceed s).engine.condition = s.engine.condition := by
  have m : ∀ x : State, (requestMotor x).engine.condition = x.engine.condition := by
    intro x; unfold requestMotor; dsimp only; split
    · simp [setSpeed, Engine.setSpeed, request_cond]
    · exact request_cond _ _ _
  have r : ∀ x : State, (rowRequest x).engine.condition = x.engine.condition := by
    intro x; unfold rowRequest; split
    · rfl
    · split
      · exact request_cond _ _ _
      · split
        · exact request_cond _ _ _
        · exact m _
  unfold proceed
  split
  · rfl
  · split
    · dsimp only
      repeat' split
      all_goals first
        | rfl
        | (unfold beginRow; exact r _)
        | (unfold requestCut; exact request_cond _ _ _)
    · rfl

/-- Starting a job leaves the job list's ids and kinds (R152). -/
theorem startJob_ids (c : JobCause) (s : State)
    : (startJob c s).queue.jobs.map Job.id = s.queue.jobs.map Job.id ∧
    (startJob c s).queue.jobs.map Job.kind = s.queue.jobs.map Job.kind := by
  unfold startJob
  split
  · simp
  · rename_i j rest hj
    split
    · have g : ∀ x : State, (giveLine x).queue = x.queue :=
        fun x => (giveLine_frame x).2.2.2.2.2.2.2.2.2.2.2.2.2.2.2.1
      dsimp only
      split <;> split <;> simp_all
    · simp

/-- An accepted job joins the tail of the list (R147, R148). -/
theorem acceptJob_ids (j : Job) (s : State)
    : (acceptJob j s).queue.jobs.map Job.id = s.queue.jobs.map Job.id ++ [j.id] ∧
    (acceptJob j s).queue.jobs.map Job.kind = s.queue.jobs.map Job.kind ++ [j.kind] := by
  unfold acceptJob
  dsimp only
  split
  · simp [startJob_ids]
  · simp

/-- The end of a weigh request leaves the scale without one (R48). -/
theorem endWeigh_scale (a b c d) (s : State) : (endWeigh a b c d s).scale = { s.scale with weigh := none } := by
  unfold endWeigh
  split
  · rename_i hw; cases hs : s.scale; simp_all
  · rfl

/-- All that a kick does: skipped and reported unless the drawer is CLOSED, else the drawer starts its first attempt at
once or waits for its 14 units, and says which (R122, R132). -/
theorem kick_cases (k) (s : State) :
    (s.drawer.state ≠ .closed → kick k s = { s with
      link := s.link.push (.drawerState s.drawer.state s.drawer.state .kickSkipped s.drawer.attempts (some k)) }) ∧
    (s.drawer.state = .closed → (kick k s).sale = s.sale ∧ (kick k s).queue = s.queue ∧
      (((kick k s).drawer.state = .pullIn ∧ (kick k s).drawer.attempts = 1 ∧
          (kick k s).drawer.phaseTimer = some s.store.live.drawerPullMs ∧
          (kick k s).supply.granted.drawer = s.supply.granted.drawer + 14) ∨
       ((kick k s).drawer.state = .waitSupply ∧ (kick k s).drawer.attempts = 0 ∧
          (kick k s).supply.waiting.drawer = some 14 ∧
          (kick k s).supply.granted.drawer = s.supply.granted.drawer)) ∧
      (kick k s).link = s.link.push (.drawerState (kick k s).drawer.state .closed .kick (kick k s).drawer.attempts (some k))) := by
  refine ⟨fun h => ?_, fun h => ?_⟩
  · unfold kick; rw [if_neg h]; rfl
  · have hk : kick k s = beginAttempt .kick { s with drawer := { s.drawer with attempts := 0, kickSource := some k } } := by
      unfold kick; rw [if_pos h]
    rw [hk]
    unfold beginAttempt
    dsimp only
    generalize hY : placeNeed .drawer 14 { s with drawer := { s.drawer with attempts := 0, kickSource := some k, state := .waitSupply, phaseTimer := none } } = Y
    have hYw : Y.supply.waiting.drawer = some 14 := by rw [← hY]; rfl
    have hYd : Y.drawer = { s.drawer with attempts := 0, kickSource := some k, state := .waitSupply, phaseTimer := none } := by rw [← hY]; rfl
    have hYg : Y.supply.granted.drawer = s.supply.granted.drawer := by rw [← hY]; rfl
    have hYl : Y.link = s.link := by rw [← hY]; rfl
    have hYs : Y.sale = s.sale := by rw [← hY]; rfl
    have hYq : Y.queue = s.queue := by rw [← hY]; rfl
    have hYst : Y.store = s.store := by rw [← hY]; rfl
    have rest : ∀ x : State, ∀ rs : List Requester, .drawer ∉ rs →
      (walkOver rs x).drawer = x.drawer ∧ (walkOver rs x).supply.granted.drawer = x.supply.granted.drawer ∧ (walkOver rs x).link = x.link ∧ (walkOver rs x).sale = x.sale ∧ (walkOver rs x).queue = x.queue := by
      intro x rs
      induction rs generalizing x with
      | nil => intro _; exact ⟨rfl, rfl, rfl, rfl, rfl⟩
      | cons r rest ih =>
        intro hr
        simp only [List.mem_cons, not_or] at hr
        unfold walkOver
        split
        · exact ih x hr.2
        · split
          · rename_i need _ units _
            have := ih (grantUnits r units x) hr.2
            refine ⟨this.1.trans ?_, this.2.1.trans ?_, this.2.2.1.trans ?_, this.2.2.2.1.trans ?_, this.2.2.2.2.trans ?_⟩ <;>
              cases r <;> simp_all [grantUnits, beginWork, Grants.add]
          · exact ⟨rfl, rfl, rfl, rfl, rfl⟩
    have hwq : (walkQuietly Y = Y) ∨ (walkQuietly Y = walkOver [.cutter, .motor, .head] (grantUnits .drawer 14 Y)) := by
      unfold walkQuietly
      split
      · exact .inl rfl
      · rw [walkOver]
        simp only [Needs.of, hYw]
        simp only [grantFor]
        split
        · right
          rename_i units hu
          split at hu
          · cases hu; rfl
          · cases hu
        · exact .inl rfl
    rcases hwq with e | e
    · rw [e]
      refine ⟨?_, ?_, .inr ⟨?_, ?_, ?_, ?_⟩, ?_⟩ <;> simp [drawerReport, report, hYs, hYq, hYd, hYw, hYg, hYl, h]
    · obtain ⟨r1, r2, r3, r4, r5⟩ := rest (grantUnits .drawer 14 Y) [.cutter, .motor, .head] (by simp)
      rw [e]
      have g1 : (grantUnits .drawer 14 Y).drawer = { s.drawer with attempts := 1, kickSource := some k, state := .pullIn, phaseTimer := some s.store.live.drawerPullMs } := by
        simp [grantUnits, beginWork, hYd, Drawer.beginPull, State.live, hYst]
      have g2 : (grantUnits .drawer 14 Y).supply.granted.drawer = s.supply.granted.drawer + 14 := by
        simp [grantUnits, beginWork, Grants.add, hYg]
      have g3 : (grantUnits .drawer 14 Y).link = s.link := by simp [grantUnits, beginWork, hYl]
      have g4 : (grantUnits .drawer 14 Y).sale = s.sale := by simp [grantUnits, beginWork, hYs]
      have g5 : (grantUnits .drawer 14 Y).queue = s.queue := by simp [grantUnits, beginWork, hYq]
      refine ⟨?_, ?_, .inl ⟨?_, ?_, ?_, ?_⟩, ?_⟩ <;> simp [drawerReport, report, r1, r2, g1, g2, h, hYs, hYq, hYl]

/-- All that the end of a sale does to a weigh request (R46). -/
theorem endWeigh_saleEnded (s : State) : endWeigh .saleEnded none none none s = { s with
    scale := { s.scale with weigh := none }
    link := if s.scale.weigh.isSome then s.link.push (.weighDone .saleEnded none none none) else s.link } := by
  unfold endWeigh
  split
  · rename_i h
    simp [h]
    rw [← h]
  · rename_i h
    simp [h, report]

end Sys2Proof.Machine
end

