-- ==== Sys2Proof/Laws/Budget.lean ====
section
/-! SUPPORT. In SUPPLY_LOW no shared operation of the supply, the drawer and the printer raises a requester's units
    (R139,
R143): one lemma for each. -/

namespace Sys2Proof.Machine

/-- From `a` to `b` the supply state stays, and in SUPPLY_LOW no requester gains units (R139, R143). -/
def NoGain (a b : Supply) : Prop :=
  b.low = a.low ∧ (a.low = true → b.granted.drawer ≤ a.granted.drawer ∧ b.granted.cutter ≤ a.granted.cutter ∧
    b.granted.motor ≤ a.granted.motor ∧ b.granted.head ≤ a.granted.head)

/-- An unchanged supply gains nothing. -/
theorem NoGain.refl (a : Supply) : NoGain a a := ⟨rfl, fun _ => ⟨le_refl _, le_refl _, le_refl _, le_refl _⟩⟩

/-- Two steps that gain nothing gain nothing together. -/
theorem NoGain.trans {a b c : Supply} (h : NoGain a b) (k : NoGain b c) : NoGain a c := by
  refine ⟨k.1.trans h.1, fun l => ?_⟩
  obtain ⟨h1, h2, h3, h4⟩ := h.2 l
  obtain ⟨k1, k2, k3, k4⟩ := k.2 (h.1.trans l)
  exact ⟨k1.trans h1, k2.trans h2, k3.trans h3, k4.trans h4⟩

/-- An equal supply gains nothing. -/
theorem NoGain.of_eq {a b : Supply} (h : b = a) : NoGain a b := h ▸ NoGain.refl _

/-- The state before may be any of equal supply. -/
theorem NoGain.via {a b c : Supply} (k : NoGain b c) (h : b = a) : NoGain a c := h ▸ k

/-- A walk leaves the supply state (R139). -/
theorem walkOver_low (rs) (s : State) : (walkOver rs s).supply.low = s.supply.low := by
  induction rs generalizing s with
  | nil => rfl
  | cons r rest ih =>
    unfold walkOver
    split
    · exact ih s
    · split
      · rw [ih]; cases r <;> rfl
      · rfl

/-- No requester gains units in SUPPLY_LOW: the walk without its report (R139, R143). -/
theorem walkQuietly_gains_nothing (s : State) : NoGain s.supply (walkQuietly s).supply := by
  unfold walkQuietly
  split
  · exact NoGain.refl _
  · rename_i h
    exact ⟨walkOver_low _ _, fun l => absurd l h⟩

/-- No requester gains units in SUPPLY_LOW: the walk (R139, R143). -/
theorem walk_gains_nothing (s : State) : NoGain s.supply (walk s).supply := by
  unfold walk; dsimp only
  split
  · exact walkQuietly_gains_nothing s
  · exact walkQuietly_gains_nothing s

/-- No requester gains units in SUPPLY_LOW: a request with its walk (R138). -/
theorem requestUnits_gains_nothing (r n) (s : State) : NoGain s.supply (requestUnits r n s).supply :=
    (walk_gains_nothing _).trans (.refl _) |>.trans (.refl _) |> fun h => ⟨h.1, h.2⟩

/-- No requester gains units in SUPPLY_LOW: a withdrawal with its walk (R138). -/
theorem withdrawRequest_gains_nothing (r) (s : State) : NoGain s.supply (withdrawRequest r s).supply := by
  unfold withdrawRequest
  split
  · exact .refl _
  · exact (walk_gains_nothing { s with supply := { s.supply with waiting := s.supply.waiting.put r none } })

/-- No requester gains units in SUPPLY_LOW: a budget that comes into force (R142). -/
theorem settleBudget_gains_nothing (s : State) : NoGain s.supply (settleBudget s).supply := by
  unfold settleBudget
  split
  · exact ⟨rfl, fun _ => ⟨le_refl _, le_refl _, le_refl _, le_refl _⟩⟩
  · exact .refl _

/-- No requester gains units in SUPPLY_LOW: a release with its walk (R141). -/
theorem releaseUnits_gains_nothing (r n) (s : State) : NoGain s.supply (releaseUnits r n s).supply := by
  have h : NoGain s.supply { s.supply with granted := s.supply.granted.sub r n } := by
    refine ⟨rfl, fun _ => ?_⟩
    cases r <;> simp [Grants.sub]
  exact (h.trans
      (settleBudget_gains_nothing { s with supply := { s.supply with granted := s.supply.granted.sub r n } })).trans
      (walk_gains_nothing _)

/-- No requester gains units in SUPPLY_LOW: a release of all units held (R141). -/
theorem releaseAll_gains_nothing (r) (s : State) : NoGain s.supply (releaseAll r s).supply :=
    releaseUnits_gains_nothing _ _ _

/-- No requester gains units in SUPPLY_LOW: a budget that is set (R142). -/
theorem budgetSet_gains_nothing (s : State) : NoGain s.supply (budgetSet s).supply :=
    (settleBudget_gains_nothing s).trans (walk_gains_nothing _)

/-- No requester gains units in SUPPLY_LOW: the motor's request (R173). -/
theorem requestMotor_gains_nothing (s : State) : NoGain s.supply (requestMotor s).supply := by
  unfold requestMotor; dsimp only
  split
  · exact (requestUnits_gains_nothing .motor 3 s)
  · exact (requestUnits_gains_nothing .motor 3 s)

/-- No requester gains units in SUPPLY_LOW: a row's next request (R170, R172). -/
theorem rowRequest_gains_nothing (s : State) : NoGain s.supply (rowRequest s).supply := by
  unfold rowRequest
  split
  · exact .refl _
  · split
    · exact requestUnits_gains_nothing _ _ _
    · split
      · exact requestUnits_gains_nothing _ _ _
      · exact requestMotor_gains_nothing _

/-- No requester gains units in SUPPLY_LOW: a row that begins (R170). -/
theorem beginRow_gains_nothing (l) (s : State) : NoGain s.supply (beginRow l s).supply := by
  unfold beginRow; exact (rowRequest_gains_nothing _)

/-- No requester gains units in SUPPLY_LOW: the cutter's request (R177). -/
theorem requestCut_gains_nothing (s : State) : NoGain s.supply (requestCut s).supply := by
  unfold requestCut; exact (requestUnits_gains_nothing _ _ _)

/-- No requester gains units in SUPPLY_LOW: the engine going on (R170, R175). -/
theorem proceed_gains_nothing (s : State) : NoGain s.supply (proceed s).supply := by
  unfold proceed
  split
  · exact .refl _
  · dsimp only
    repeat' split
    all_goals first | exact beginRow_gains_nothing _ _ | exact requestCut_gains_nothing _ | exact .refl _

/-- Giving a line leaves the supply (R153). -/
theorem giveLine_supply (s : State) : (giveLine s).supply = s.supply := by simp

/-- No requester gains units in SUPPLY_LOW: a job's start (R152). -/
theorem startJob_gains_nothing (c) (s : State) : NoGain s.supply (startJob c s).supply := by
  unfold startJob
  split
  · exact .refl _
  · split
    · dsimp only
      refine (proceed_gains_nothing _).via ?_
      split <;> simp [printerReport, jobReport, report]
    · exact .refl _

/-- No requester gains units in SUPPLY_LOW: a job accepted (R147). -/
theorem acceptJob_gains_nothing (j) (s : State) : NoGain s.supply (acceptJob j s).supply := by
  unfold acceptJob; dsimp only
  split
  · exact (startJob_gains_nothing _ _)
  · exact .refl _

/-- No requester gains units in SUPPLY_LOW: a job's end (R153). -/
theorem jobDone_gains_nothing (j r) (s : State) : NoGain s.supply (jobDone j r s).supply := by
  unfold jobDone; dsimp only
  split
  · refine .of_eq ?_
    split <;> split <;> rfl
  · refine (startJob_gains_nothing _ _).via ?_
    split <;> rfl

/-- No requester gains units in SUPPLY_LOW: a line complete (R153). -/
theorem lineComplete_gains_nothing (s : State) : NoGain s.supply (lineComplete s).supply := by
  unfold lineComplete
  split
  · exact .refl _
  · split
    · refine (proceed_gains_nothing _).via ?_
      simp
    · exact jobDone_gains_nothing _ _ _

/-- No requester gains units in SUPPLY_LOW: the end of abandoned work (R180). -/
theorem abandonedEnds_gains_nothing (s : State) : NoGain s.supply (abandonedEnds s).supply := proceed_gains_nothing _

/-- No requester gains units in SUPPLY_LOW: what follows a row (R174). -/
theorem afterRow_gains_nothing (s : State) : NoGain s.supply (afterRow s).supply := by
  unfold afterRow
  repeat' split
  all_goals first
    | exact .refl _
    | exact lineComplete_gains_nothing _
    | exact proceed_gains_nothing _
    | exact .of_eq (by simp)

/-- No requester gains units in SUPPLY_LOW: a row's end (R174). -/
theorem rowEnds_gains_nothing (r) (s : State) : NoGain s.supply (rowEnds r s).supply := by
  unfold rowEnds; exact (afterRow_gains_nothing _)

/-- No requester gains units in SUPPLY_LOW: a phase's end (R172). -/
theorem phaseEnds_gains_nothing (s : State) : NoGain s.supply (phaseEnds s).supply := by
  unfold phaseEnds
  split
  · exact .refl _
  · dsimp only
    split
    · exact (releaseAll_gains_nothing .head { s with engine := { s.engine with phase := none } }).trans
          (abandonedEnds_gains_nothing _)
    · exact (releaseAll_gains_nothing .head { s with engine := { s.engine with phase := none } }).trans
          (rowRequest_gains_nothing _)

/-- No requester gains units in SUPPLY_LOW: a step's end (R173). -/
theorem stepEnds_gains_nothing (s : State) : NoGain s.supply (stepEnds s).supply := by
  unfold stepEnds
  split
  · exact .refl _
  · dsimp only
    have h := releaseAll_gains_nothing .motor { s with engine := { s.engine with stepRunning := none } }
    repeat' split
    · exact h.trans (abandonedEnds_gains_nothing _)
    · exact h
    · exact h.trans
          (requestMotor_gains_nothing
          { (releaseAll .motor { s with engine := { s.engine with stepRunning := none } }) with engine := _ })
    · exact h.trans (rowEnds_gains_nothing _ _)

/-- No requester gains units in SUPPLY_LOW: a cut cycle's end (R177). -/
theorem cutEnds_gains_nothing (s : State) : NoGain s.supply (cutEnds s).supply := by
  unfold cutEnds; dsimp only
  have h := releaseAll_gains_nothing .cutter
      { s with engine := { s.engine with cutter := .rest, cutTimer := none, seenAway := false } }
  split
  · exact h.trans
        (abandonedEnds_gains_nothing
        (setSpeed 0 (releaseAll .cutter
        { s with engine := { s.engine with cutter := .rest, cutTimer := none, seenAway := false } })))
  · exact h.trans
        (lineComplete_gains_nothing
        (setSpeed 0 (releaseAll .cutter
        { s with engine := { s.engine with cutter := .rest, cutTimer := none, seenAway := false } })))

/-- No requester gains units in SUPPLY_LOW: FAULT left (R179). -/
theorem leaveFault_gains_nothing (s : State) : NoGain s.supply (leaveFault s).supply := by
  unfold leaveFault; exact startJob_gains_nothing _ _

/-- No requester gains units in SUPPLY_LOW: the blade's return (R177, R179). -/
theorem homeReturns_gains_nothing (s : State) : NoGain s.supply (homeReturns s).supply := by
  unfold homeReturns; dsimp only
  split
  · exact (leaveFault_gains_nothing { s with inputs := { s.inputs with cutterHome := true } })
  · split
    · exact (cutEnds_gains_nothing { s with inputs := { s.inputs with cutterHome := true } })
    · exact .refl _

/-- No requester gains units in SUPPLY_LOW: a jam (R178). -/
theorem cutJams_gains_nothing (s : State) : NoGain s.supply (cutJams s).supply := by
  unfold cutJams
  split
  · exact (releaseAll_gains_nothing .cutter
        { s with engine := { s.engine with cutter := .jammed, cutTimer := none, clearTaken := false, abandoned := false, condition := .fault } })
  · exact .refl _

/-- No requester gains units in SUPPLY_LOW: the engine's going on after a pause (R175, R176). -/
theorem resumption_gains_nothing (x : State) : NoGain x.supply (match x.engine.line with
    | none => x
    | some l => if l.interrupted ∧ x.engine.row = none then proceed (giveLine x) else proceed x).supply := by
  split
  · exact .refl _
  · split
    · exact (proceed_gains_nothing (giveLine x)).via (giveLine_supply x)
    · exact proceed_gains_nothing x

/-- No requester gains units in SUPPLY_LOW: PAUSED left (R175). -/
theorem leavePause_gains_nothing (c) (s : State) : NoGain s.supply (leavePause c s).supply := by
  unfold leavePause
  refine (resumption_gains_nothing _).via ?_
  dsimp only
  split <;> rfl

/-- Entering PAUSED leaves the supply (R175). -/
theorem enterPause_supply (c) (s : State) : (enterPause c s).supply = s.supply := by simp

/-- No requester gains units in SUPPLY_LOW: a pause cause raised (R166). -/
theorem causeRaised_gains_nothing (c) (s : State) : NoGain s.supply (causeRaised c s).supply := .of_eq (by simp)

/-- No requester gains units in SUPPLY_LOW: a pause cause gone (R166). -/
theorem causeGone_gains_nothing (c) (s : State) : NoGain s.supply (causeGone c s).supply := by
  unfold causeGone
  split
  · exact .refl _
  · dsimp only
    repeat' split
    all_goals first | exact .refl _ | exact leavePause_gains_nothing c { s with engine := _ }

/-- No requester gains units in SUPPLY_LOW: a line abandoned (R180). -/
theorem abandonLine_gains_nothing (s : State) : NoGain s.supply (abandonLine s).supply := by
  unfold abandonLine; dsimp only
  exact ((withdrawRequest_gains_nothing .cutter s).trans (withdrawRequest_gains_nothing .motor _)).trans
      (withdrawRequest_gains_nothing .head _)

/-- The reports of aborted jobs leave the supply (R155). -/
theorem reportAborted_supply (l) (s : State) : (reportAborted l s).supply = s.supply := by
  induction l generalizing s with
  | nil => rfl
  | cons j r ih => simp only [reportAborted]; rw [ih]; rfl

/-- No requester gains units in SUPPLY_LOW: PRINTER_CLEAR (R155). -/
theorem printerClear_gains_nothing (s : State) : NoGain s.supply (printerClear s).supply := by
  unfold printerClear; dsimp only
  generalize hx : (if s.queue.current.isSome = true then
        setSpeed 0 (if (s.queue.jobs.any fun j => j.kind == JobKind.original) =
            true then setReceipt .aborted
            (reportAborted s.queue.jobs { s with queue := { s.queue with jobs := [] } }) else reportAborted
            s.queue.jobs { s with queue := { s.queue with jobs := [] } })
      else (if (s.queue.jobs.any fun j => j.kind == JobKind.original) =
          true then setReceipt .aborted
          (reportAborted s.queue.jobs { s with queue := { s.queue with jobs := [] } }) else reportAborted s.queue.jobs
          { s with queue := { s.queue with jobs := [] } })) = x
  have hs : x.supply = s.supply := by
    rw [← hx]; split <;> split <;> simp [reportAborted_supply, setReceipt, setSpeed]
  split
  · split
    · exact (leaveFault_gains_nothing { x with engine := _ }).via hs
    · exact .of_eq hs
  · have h2 := (abandonLine_gains_nothing x).via hs
    split
    · exact h2
    · exact h2

/-- No requester gains units in SUPPLY_LOW: an attempt begun (R123). -/
theorem beginAttempt_gains_nothing (c) (s : State) : NoGain s.supply (beginAttempt c s).supply := by
  unfold beginAttempt; dsimp only
  exact walkQuietly_gains_nothing
      (placeNeed .drawer 14 { s with drawer := { s.drawer with state := .waitSupply, phaseTimer := none } })

/-- No requester gains units in SUPPLY_LOW: a kick (R122). -/
theorem kick_gains_nothing (k) (s : State) : NoGain s.supply (kick k s).supply := by
  unfold kick
  split
  · exact beginAttempt_gains_nothing _ _
  · exact .refl _

/-- No requester gains units in SUPPLY_LOW: a drive's end (R125 to R127). -/
theorem endDrive_gains_nothing (c) (s : State) : NoGain s.supply (endDrive c s).supply := by
  have h := releaseAll_gains_nothing .drawer s
  unfold endDrive; dsimp only
  generalize releaseAll .drawer s = x at *
  repeat' split
  all_goals exact h

/-- No requester gains units in SUPPLY_LOW: the hold's begin (R125). -/
theorem beginHold_gains_nothing (s : State) : NoGain s.supply (beginHold s).supply := by
  unfold beginHold
  exact releaseUnits_gains_nothing .drawer 9
      { s with drawer := { s.drawer with state := .hold, phaseTimer := some s.live.drawerHoldMs } }

/-- No requester gains units in SUPPLY_LOW: a sense change (R128). -/
theorem senseGiven_gains_nothing (b) (s : State) : NoGain s.supply (senseGiven b s).supply := by
  unfold senseGiven
  split
  · unfold senseToOpen
    split
    · exact .refl _
    · exact withdrawRequest_gains_nothing .drawer s
    · exact endDrive_gains_nothing _ _
    all_goals exact .refl _
  · unfold senseToClosed
    split <;> exact .refl _

end Sys2Proof.Machine
end

