-- ==== Sys2Proof/Laws/Printer.lean ====
section
/-! SUPPORT. What a row request and a row's begin touch, what a clear reports and withdraws, what PRINT_TEXT
stores, and what the leftmost dots are. -/

namespace Sys2Proof.Machine

variable {r : RowProgress}

/-- A row request with no drawer waiting keeps the dots and the line, and touches the engine and the supply alone
    (R170, R172). -/
theorem rowRequest_keeps (s : State) (hw : s.supply.waiting.drawer = none) (hd : s.drawer.state ≠ .waitSupply)
    (hr : s.engine.row = some r) :
   (∃ r', (rowRequest s).engine.row = some r' ∧ r'.dots = r.dots) ∧ (rowRequest s).engine.line = s.engine.line ∧
   rowRequest s = { s with engine := (rowRequest s).engine, supply := (rowRequest s).supply } := by
  have g : ∀ q n (x : State), q ≠ Requester.drawer → ∀ r, x.engine.row = some r →
      (∃ r', (grantUnits q n x).engine.row = some r' ∧ r'.dots = r.dots) ∧
          (grantUnits q n x).engine.line = x.engine.line ∧
      grantUnits q n x = { x with engine := (grantUnits q n x).engine, supply := (grantUnits q n x).supply } ∧
      (grantUnits q n x).supply.waiting.drawer = x.supply.waiting.drawer := by
    intro q n x hq r hr
    cases q
    · exact absurd rfl hq
    · simp [grantUnits, beginWork, Engine.beginCut, hr, Needs.put]
    · simp [grantUnits, beginWork, Engine.beginStep, hr, Needs.put]
    · by_cases h : r.newLeft = 0#384 <;> simp [grantUnits, beginWork, Engine.beginPhase, hr, h, Needs.put]
  have wo : ∀ (qs : List Requester) (x : State), Requester.drawer ∉ qs → ∀ r, x.engine.row = some r →
      (∃ r', (walkOver qs x).engine.row = some r' ∧ r'.dots = r.dots) ∧ (walkOver qs x).engine.line = x.engine.line ∧
      walkOver qs x = { x with engine := (walkOver qs x).engine, supply := (walkOver qs x).supply } := by
    intro qs
    induction qs with
    | nil => intro x _ r hr; exact ⟨⟨r, hr, rfl⟩, rfl, rfl⟩
    | cons q rest ih =>
      intro x hx r hr
      simp only [List.mem_cons, not_or] at hx
      unfold walkOver
      split
      · exact ih x hx.2 r hr
      · split
        · obtain ⟨⟨r1, a1, a2⟩, b, c, d⟩ := g q (by assumption) x (fun e => hx.1 e.symm) r hr
          obtain ⟨⟨r2, e1, e2⟩, f, k⟩ := ih (grantUnits q _ x) hx.2 r1 a1
          refine ⟨⟨r2, e1, e2.trans a2⟩, f.trans b, ?_⟩
          rw [k, c]
        · exact ⟨⟨r, hr, rfl⟩, rfl, rfl⟩
  have wk : ∀ (x : State), x.supply.waiting.drawer = none → x.drawer.state ≠ .waitSupply →
      ∀ r, x.engine.row = some r →
      (∃ r', (walk x).engine.row = some r' ∧ r'.dots = r.dots) ∧ (walk x).engine.line = x.engine.line ∧
      walk x = { x with engine := (walk x).engine, supply := (walk x).supply } := by
    intro x h1 h2 r hr
    have e : walk x = walkQuietly x := by unfold walk; dsimp only; rw [if_neg (by simp [h2])]
    rw [e]; unfold walkQuietly
    split
    · exact ⟨⟨r, hr, rfl⟩, rfl, rfl⟩
    · rw [show walkOver [.drawer, .cutter, .motor, .head] x =
          walkOver [.cutter, .motor, .head] x by conv_lhs => unfold walkOver; simp [Needs.of, h1]]
      exact wo _ x (by decide) r hr
  have rq : ∀ q n (x : State), q ≠ Requester.drawer → x.supply.waiting.drawer = none → x.drawer.state ≠ .waitSupply →
      ∀ r, x.engine.row = some r →
      (∃ r', (requestUnits q n x).engine.row = some r' ∧ r'.dots = r.dots) ∧
          (requestUnits q n x).engine.line = x.engine.line ∧
      requestUnits q n x = { x with engine := (requestUnits q n x).engine, supply := (requestUnits q n x).supply } :=
          by
    intro q n x hq h1 h2 r hr
    have := wk (placeNeed q n x) (by cases q <;> simp_all [placeNeed, Needs.put]) h2 r hr
    obtain ⟨a, b, c⟩ := this
    refine ⟨a, b, ?_⟩
    unfold requestUnits; rw [c]; rfl
  unfold rowRequest
  simp only [hr]
  split
  · exact rq _ _ s (by decide) hw hd r hr
  · split
    · exact rq _ _ s (by decide) hw hd r hr
    · unfold requestMotor; dsimp only
      obtain ⟨a, b, c⟩ := rq .motor 3 s (by decide) hw hd r hr
      split
      · refine ⟨a, b, ?_⟩
        rw [setSpeed]; rw [c]
      · exact ⟨a, b, c⟩

/-- A row that begins with no drawer waiting has the dots of its line, and touches the engine and the supply alone
    (R170). -/
theorem beginRow_keeps (l : LineProgress) (s : State) (hw : s.supply.waiting.drawer = none)
    (hd : s.drawer.state ≠ .waitSupply) :
   (beginRow l s).engine.row.map RowProgress.dots = some (rowDots l.record l.rowsDone) ∧
       (beginRow l s).engine.line = some l ∧
   beginRow l s = { s with engine := (beginRow l s).engine, supply := (beginRow l s).supply } := by
  unfold beginRow; dsimp only
  generalize hS : ({ s with engine := _ } : State) = S
  have h1 : S.engine.line = some l := by rw [← hS]
  have h2 : S = { s with engine := S.engine } := by rw [← hS]
  have h5 : S.supply.waiting.drawer = none := by rw [h2]; exact hw
  have h6 : S.drawer.state ≠ .waitSupply := by rw [h2]; exact hd
  have h4 : ∃ w, S.engine.row = some w ∧ w.dots = rowDots l.record l.rowsDone := by rw [← hS]; exact ⟨_, rfl, rfl⟩
  obtain ⟨w, h3, h4⟩ := h4
  obtain ⟨⟨r', a, b⟩, c, d⟩ := rowRequest_keeps S h5 h6 h3
  refine ⟨by rw [a]; simp [b, h4], c.trans h1, ?_⟩
  have k : ∀ E V, ({ S with engine := E, supply := V } : State) = { s with engine := E, supply := V } := by
    intro E V; rw [h2]
  rw [d]; exact k _ _

/-- A head or motor request with nothing else waiting changes the row, the phase, the step and its period alone
    (R138, R172, R173). -/
theorem requestUnits_engine (q : Requester) (n : Nat) (hq : q = .head ∨ q = .motor) (s : State)
    (hw : s.supply.waiting = { drawer := none, cutter := none, motor := none, head := none })
    (hl : s.supply.low = false) (hd : s.drawer.state ≠ .waitSupply) :
    let t := requestUnits q n s
    t = { s with
      supply := t.supply
      engine := { s.engine with
        row := t.engine.row
        phase := t.engine.phase
        stepRunning := t.engine.stepRunning
        periodInForce := t.engine.periodInForce } } ∧
    t.engine.row.map RowProgress.dots = s.engine.row.map RowProgress.dots := by
  intro t
  simp only [t]
  rcases hq with rfl | rfl
  · cases hr : s.engine.row with
    | none =>
      simp [requestUnits, placeNeed, walk, walkQuietly, hl, hd, walkOver, Needs.of, hw, Needs.put]
      split
      · simp [grantUnits, beginWork, Engine.beginPhase, hr, hd]
      · simp [hr, hd]; rw [← hr]
    | some r =>
      simp [requestUnits, placeNeed, walk, walkQuietly, hl, hd, walkOver, Needs.of, hw, Needs.put]
      split
      · by_cases h : r.newLeft = 0#384 <;> simp [grantUnits, beginWork, Engine.beginPhase, hr, hd, h]
      · simp [hr, hd]; rw [← hr]
  · simp [requestUnits, placeNeed, walk, walkQuietly, hl, hd, walkOver, Needs.of, hw, Needs.put]
    split <;> simp [grantUnits, beginWork, Engine.beginStep, hd, Needs.put, Needs.of]

/-- A row request with nothing waiting changes the row, the phase, the step and the speed alone (R170, R172, R173). -/
theorem rowRequest_engine (s : State)
    (hw : s.supply.waiting = { drawer := none, cutter := none, motor := none, head := none })
    (hl : s.supply.low = false) (hd : s.drawer.state ≠ .waitSupply) :
    let t := rowRequest s
    t = { s with
      supply := t.supply
      engine := { s.engine with
        row := t.engine.row
        phase := t.engine.phase
        stepRunning := t.engine.stepRunning
        periodInForce := t.engine.periodInForce
        speedIndex := t.engine.speedIndex
        pendingPeriod := t.engine.pendingPeriod } } ∧
    t.engine.row.map RowProgress.dots = s.engine.row.map RowProgress.dots := by
  intro t
  simp only [t]
  unfold rowRequest
  split
  · simp
  · split
    · obtain ⟨a, b⟩ := requestUnits_engine .head (unitsForDots (countDots (by assumption : RowProgress).newLeft))
          (.inl rfl) s hw hl hd
      refine ⟨?_, b⟩
      generalize requestUnits .head _ s = t at a b ⊢
      rw [a]
    · split
      · obtain ⟨a, b⟩ := requestUnits_engine .head (unitsForDots (countDots (by assumption : RowProgress).histLeft))
            (.inl rfl) s hw hl hd
        refine ⟨?_, b⟩
        generalize requestUnits .head _ s = t at a b ⊢
        rw [a]
      · unfold requestMotor; dsimp only
        obtain ⟨a, b⟩ := requestUnits_engine .motor 3 (.inr rfl) s hw hl hd
        generalize requestUnits .motor 3 s = t at a b ⊢
        split
        · refine ⟨?_, b⟩
          conv_lhs => rw [a]
          rfl
        · refine ⟨?_, b⟩
          rw [a]

/-- The reports of a clear: one PRINT_JOB ABORTED for each job, in list order, and nothing else (R155). -/
theorem reportAborted_eq (js : List Job) (s : State) :
    reportAborted js s = { s with
      link := js.foldl (fun l j => l.push (.printJob j.id j.kind .aborted (some j.state) .cleared none j.saleNumber
        (j.cursor - 1) j.lineCount)) s.link } := by
  induction js generalizing s with
  | nil => rfl
  | cons j r ih => simp only [reportAborted, ih]; simp [jobReport, report]

/-- A withdrawal takes the request alone where its walk can grant nothing: it waits for nothing, nothing else waits, or a
drawer that does not fit waits first (R138, R139). -/
theorem withdrawRequest_alone (r : Requester) (s : State) (hr : r ≠ .drawer)
    (h : s.supply.waiting.of r = none ∨
      (s.drawer.state ≠ .waitSupply ∧
        s.supply.waiting.put r none = { drawer := none, cutter := none, motor := none, head := none }) ∨
      (s.supply.waiting.drawer = some 14 ∧ (s.supply.low = true ∨ s.supply.free < 14))) :
    withdrawRequest r s = { s with supply := { s.supply with waiting := s.supply.waiting.put r none } } := by
  unfold withdrawRequest
  split
  · rename_i q
    have : s.supply.waiting.put r none = s.supply.waiting := by
      cases r
      · exact absurd rfl hr
      all_goals
        simp only [Needs.of] at q
        simp only [Needs.put]; rw [← q]
    rw [this]
  · rename_i n q
    rcases h with h | ⟨y1, y2⟩ | ⟨y1, y2⟩
    · rw [h] at q; cases q
    · exact walk_quiet _ y2 y1
    · have y3 : (s.supply.waiting.put r none).drawer = some 14 := by
        cases r
        · exact absurd rfl hr
        all_goals exact y1
      generalize hx : ({ s with supply := { s.supply with waiting := s.supply.waiting.put r none } } : State) = x
      have h1 : x.supply.waiting.drawer = some 14 := by rw [← hx]; exact y3
      have h2 : x.supply.low = true ∨ x.supply.free < 14 := by rw [← hx]; exact y2
      have w : walkQuietly x = x := by
        unfold walkQuietly
        split
        · rfl
        · rename_i hl
          have : grantFor .drawer 14 x.supply.free = none := by
            simp [grantFor]; exact h2.resolve_left hl
          simp only [walkOver, Needs.of, h1, this]
      unfold walk; dsimp only
      rw [w, if_neg]
      rintro ⟨p, q⟩
      rw [p] at q; cases q

/-- A PRINT_TEXT with one line that fails check 1 stores nothing (R151). -/
theorem linesOfArgs_none {xs : List LineArg} {x : LineArg} (hx : x ∈ xs) (hn : lineOfArg x = none) :
    linesOfArgs xs = none := by
  induction xs with
  | nil => cases hx
  | cons y ys ih =>
    rcases List.mem_cons.1 hx with rfl | h
    · simp [linesOfArgs, hn]
    · simp [linesOfArgs, ih h]

/-- Lines that each pass check 1 give their records in order (R149, R151). -/
theorem linesOfArgs_some {xs : List LineArg} {rs : List LineRecord}
    (h : List.Forall₂ (fun x r => lineOfArg x = some r) xs rs) : linesOfArgs xs = some rs := by
  induction h with
  | nil => rfl
  | cons a b ih => simp [linesOfArgs, a, ih]

/-- One record for each line given (R149). -/
theorem linesOfArgs_length {xs : List LineArg} {rs : List LineRecord} (h : linesOfArgs xs = some rs) :
    rs.length = xs.length := by
  induction xs generalizing rs with
  | nil => simp [linesOfArgs] at h; simp [← h]
  | cons x xs ih =>
    simp only [linesOfArgs] at h
    split at h
    · rename_i r rs' a b; cases h; simp [ih b]
    · cases h

/-- The next identifier is the first after the last one that is held by nobody (R86, R147). -/
theorem nextFreeId_first (ids : List Nat) (fuel k id : Nat) (after : Nat → Nat)
    (ha : after = fun n => if n < 255 then n + 1 else 1) (hn : after^[k + 1] id ∉ ids)
    (hi : ∀ i, i < k → after^[i + 1] id ∈ ids) (hk : k < fuel) : nextFreeId ids fuel id = after^[k + 1] id := by
  induction fuel generalizing k id with
  | zero => omega
  | succ fuel ih =>
    simp only [nextFreeId]
    cases k with
    | zero =>
      have : after id ∉ ids := hn
      subst ha
      rw [if_neg (by simpa using this)]; rfl
    | succ k =>
      have m : after id ∈ ids := hi 0 (by omega)
      have : ids.contains (if id < 255 then id + 1 else 1) = true := by subst ha; simpa using m
      rw [if_pos this]
      have := ih k (after id) hn (fun i hi' => hi (i + 1) (by omega)) (by omega)
      subst ha
      exact this

/-- The number of black dots is the number of the places that hold one. -/
theorem countDots_length (d : Dots) : countDots d = ((List.range 384).filter fun i => d.getLsbD i).length := by
  have count : ∀ xs : List Nat, countWhere (fun i => d.getLsbD i) xs = (xs.filter fun i => d.getLsbD i).length := by
    intro xs
    induction xs with
    | nil => rfl
    | cons x xs ih => by_cases h : d.getLsbD x <;> simp [countWhere, h, ih]; omega
  exact count _

/-- The leftmost dots among rising positions: black dots of the row, as many as asked for or as there are, and each to the
left of every black dot left out (R172). -/
theorem leftmostFrom_spec (d : Dots) (xs : List Nat) (n : Nat) (hs : xs.Pairwise (· < ·)) (hx : ∀ i ∈ xs, i < 384) :
    (∀ i, (leftmostFrom d n xs).getLsbD i = true → i ∈ xs ∧ d.getLsbD i = true) ∧
      (xs.filter fun i => (leftmostFrom d n xs).getLsbD i).length = min n (xs.filter fun i => d.getLsbD i).length ∧
      ∀ i j, (leftmostFrom d n xs).getLsbD i = true → j ∈ xs → d.getLsbD j = true →
        (leftmostFrom d n xs).getLsbD j = false → i < j := by
  induction xs generalizing n with
  | nil => simp [leftmostFrom]
  | cons a xs ih =>
    rw [List.pairwise_cons] at hs
    have hx' : ∀ i ∈ xs, i < 384 := fun i hi => hx i (List.mem_cons_of_mem _ hi)
    have ha : a < 384 := hx a (by simp)
    have na : a ∉ xs := fun h => absurd (hs.1 a h) (by omega)
    cases n with
    | zero => simp [leftmostFrom]
    | succ n =>
      unfold leftmostFrom
      by_cases hd : d.getLsbD a = true
      · rw [if_pos hd]
        obtain ⟨p1, p2, p3⟩ := ih n hs.2 hx'
        set L := leftmostFrom d n xs
        have one : ∀ i, ((1#384 <<< a) ||| L).getLsbD i = (decide (i = a) || L.getLsbD i) := by
          intro i
          by_cases hi : i = a
          · subst hi; simp [ha, BitVec.getLsbD_shiftLeft]
          · simp only [BitVec.getLsbD_or, BitVec.getLsbD_shiftLeft, hi, decide_false, Bool.false_or]
            have : ((decide (i < 384) && !decide (i < a)) && (1#384).getLsbD (i - a)) = false := by
              by_cases h1 : i < a
              · simp [h1]
              · have : i - a ≠ 0 := by omega
                simp [BitVec.getLsbD_one, this]
            rw [this]; rfl
        refine ⟨?_, ?_, ?_⟩
        · intro i hi
          rw [show (1 <<< a ||| L : Dots).getLsbD i = _ from one i] at hi
          simp only [Bool.or_eq_true, decide_eq_true_eq] at hi
          rcases hi with rfl | hi
          · exact ⟨by simp, hd⟩
          · exact ⟨List.mem_cons_of_mem _ (p1 i hi).1, (p1 i hi).2⟩
        · have e : (xs.filter fun i => (1 <<< a ||| L : Dots).getLsbD i) = xs.filter fun i => L.getLsbD i := by
            apply List.filter_congr
            intro i hi
            rw [show (1 <<< a ||| L : Dots).getLsbD i = _ from one i]
            have : i ≠ a := fun h => na (h ▸ hi)
            simp [this]
          rw [List.filter_cons_of_pos (by rw [show (1 <<< a ||| L : Dots).getLsbD a = _ from one a]; simp), e,
            List.filter_cons_of_pos (by simpa using hd)]
          simp only [List.length_cons, p2]; omega
        · intro i j hi hj hdj hnj
          rw [show (1 <<< a ||| L : Dots).getLsbD i = _ from one i] at hi
          rw [show (1 <<< a ||| L : Dots).getLsbD j = _ from one j] at hnj
          simp only [Bool.or_eq_true, decide_eq_true_eq, Bool.or_eq_false_iff, decide_eq_false_iff_not] at hi hnj
          have hj' : j ∈ xs := by
            rcases List.mem_cons.1 hj with h | h
            · exact absurd h hnj.1
            · exact h
          rcases hi with rfl | hi
          · exact hs.1 j hj'
          · exact p3 i j hi hj' hdj hnj.2
      · rw [if_neg hd]
        obtain ⟨p1, p2, p3⟩ := ih (n + 1) hs.2 hx'
        refine ⟨fun i hi => ⟨List.mem_cons_of_mem _ (p1 i hi).1, (p1 i hi).2⟩, ?_, ?_⟩
        · rw [List.filter_cons_of_neg (by intro h; exact na (p1 a h).1), List.filter_cons_of_neg (by simpa using hd),
            p2]
        · intro i j hi hj hdj hnj
          rcases List.mem_cons.1 hj with rfl | hj
          · exact absurd hdj hd
          · exact p3 i j hi hj hdj hnj

end Sys2Proof.Machine
end

