-- ==== Sys2Proof/Laws/Track.lean ====
section
/-! SUPPORT. What a parse pass, an account and its check give
    (R103 to R108): the reader's functions by the bits of the
stripe and by the digits. -/

namespace Sys2Proof.Machine

/-- The data bits fill a character but for its parity bit (R103). -/
theorem dataBits_length (w v : Nat) : (dataBits w v).length = w - 1 := by simp [dataBits]

/-- A character has its width of bits (R103). -/
theorem charBits_length {w : Nat} (hw : 0 < w) (v : Nat) : (charBits w v).length = w :=
    by simp [charBits, dataBits]; omega

/-- The data bits of a number spell it, modulo their count. -/
theorem bitsValue_range (n v : Nat) : bitsValue ((List.range n).map v.testBit) = v % 2 ^ n := by
  induction n generalizing v with
  | zero => simp [bitsValue, Nat.mod_one]
  | succ n ih =>
    rw [List.range_succ_eq_map, List.map_cons, List.map_map, bitsValue]
    have : (List.range n).map (v.testBit ∘ Nat.succ) = (List.range n).map (v / 2).testBit := by
      apply List.map_congr_left; intro i _; simp [Nat.testBit_succ]
    rw [this, ih, Nat.pow_succ, Nat.mul_comm (2^n) 2, Nat.mod_mul]
    congr 1
    rw [Nat.testBit_zero]
    rcases Nat.mod_two_eq_zero_or_one v with h | h <;> simp [h]

/-- A list of bits spells a number below the power of its length. -/
theorem bitsValue_lt (l : List Bool) : bitsValue l < 2 ^ l.length := by
  induction l with
  | nil => simp [bitsValue]
  | cons b bs ih => simp only [bitsValue, List.length_cons, Nat.pow_succ]; split <;> omega

/-- A list of bits holds the data bits of the number it spells. -/
theorem data_of_value (l : List Bool) : l = (List.range l.length).map (bitsValue l).testBit := by
  induction l with
  | nil => rfl
  | cons b bs ih =>
    rw [List.length_cons, List.range_succ_eq_map, List.map_cons, List.map_map]
    have : ((bitsValue (b :: bs)).testBit ∘ Nat.succ) = (bitsValue bs).testBit := by
      funext i
      simp only [Function.comp, Nat.testBit_succ, bitsValue]
      congr 1
      split <;> omega
    rw [this, ← ih]
    congr 1
    simp only [Nat.testBit_zero, bitsValue]
    cases b <;> simp <;> omega

/-- The data value of a character is the number it was made from (R103). -/
theorem charValue_of {w v : Nat} (hv : v < 2 ^ (w-1)) (b : Bool) : charValue w (dataBits w v ++ [b]) = v := by
  unfold charValue
  rw [List.take_left' (by simp [dataBits])]
  unfold dataBits
  rw [bitsValue_range, Nat.mod_eq_of_lt hv]

/-- Two ways to count the 1s. -/
theorem countWhere_count (l : List Bool) : countWhere (fun b => b) l = l.count true := by
  induction l with
  | nil => rfl
  | cons b bs ih => cases b <;> simp [countWhere, ih] <;> omega

/-- A character has odd parity exactly when its last bit is the parity bit of its data (R103). -/
theorem oddParity_of (d : List Bool) (b : Bool) : oddParity (d ++ [b]) = (b == parityBit d) := by
  unfold oddParity parityBit
  rw [countWhere_count, List.count_append]
  rcases Nat.mod_two_eq_zero_or_one (d.count true) with h | h <;> cases b <;> simp [h] <;> omega

/-- The first part of a concatenation, by its length. -/
theorem take_first (l r : List Bool) (w : Nat) (h : l.length = w) : (l ++ r).take w = l := List.take_left' h

/-- The second part of a concatenation, by the length of the first. -/
theorem drop_first (l r : List Bool) (w : Nat) (h : l.length = w) : (l ++ r).drop w = r := List.drop_left' h

/-- One ordinary character is read (R104). -/
theorem readChars_one (f : TrackFormat) (hw : 0 < f.width) (v : Nat) (hv : v < 2 ^ (f.width-1)) (hf : v ≠ f.finish)
    (fuel lrc : Nat) (acc : List Nat) (r : List Bool) :
    readChars f (fuel+1) lrc acc (charBits f.width v ++ r) = readChars f fuel (lrc ^^^ v) (acc ++ [v]) r := by
  conv_lhs => unfold readChars
  have L := charBits_length hw v
  rw [if_neg (by simp [L]), take_first _ _ _ L, drop_first _ _ _ L]
  have V : charValue f.width (charBits f.width v) = v := charValue_of hv _
  have O : oddParity (charBits f.width v) = true := by unfold charBits; rw [oddParity_of]; simp
  simp only [V, O, Bool.true_eq_false, if_false, if_neg hf]

/-- A run of ordinary characters is read (R104). -/
theorem readChars_all (f : TrackFormat) (hw : 0 < f.width) (vs : List Nat) (h : ordinary f.width f.finish vs)
    (fuel lrc : Nat) (acc : List Nat) (r : List Bool) :
    readChars f (fuel + vs.length) lrc acc ((vs.map (charBits f.width)).flatten ++ r) = readChars f fuel
        (vs.foldl (fun x v => x ^^^ v) lrc) (acc ++ vs) r := by
  induction vs generalizing lrc acc with
  | nil => simp
  | cons v vs ih =>
    have := h v (by simp)
    simp only [List.map_cons, List.flatten_cons, List.append_assoc, List.length_cons]
    rw [← Nat.add_assoc, readChars_one f hw v this.1 this.2, ih (fun x hx => h x (by simp [hx]))]
    simp

/-- Zeros are skipped to the first 1 (R104). -/
theorem zeros_skipped (n : Nat) (r : List Bool) : (List.replicate n false ++ true :: r).dropWhile
    (fun b => !b) = true :: r := by
  induction n with
  | zero => simp
  | succ n ih => simp [List.replicate_succ, ih]

/-- Zeros alone are all skipped (R104). -/
theorem zeros_alone_skipped (n : Nat) : (List.replicate n false).dropWhile (fun b => !b) = [] := by
  induction n with
  | zero => simp
  | succ n ih => simp [List.replicate_succ, ih]

/-- What the numbers of a format satisfy, for a pass to be told from the stripe (R103). -/
structure FormatSound (f : TrackFormat) : Prop where
  w : 1 < f.width
  s : f.start < 2 ^ (f.width - 1)
  e : f.finish < 2 ^ (f.width - 1)
  ne : f.start ≠ f.finish
  l : 1 < f.longest
  odd : f.start.testBit 0 = true

/-- The start sentinel begins with a 1 (R103). -/
theorem start_begins_with_one (f : TrackFormat) (h : FormatSound f) : ∃ t, dataBits f.width f.start = true :: t := by
  unfold dataBits
  obtain ⟨k, hk⟩ : ∃ k, f.width - 1 = k + 1 := ⟨f.width - 2, by have := h.w; omega⟩
  rw [hk, List.range_succ_eq_map, List.map_cons, h.odd]
  exact ⟨_, rfl⟩

/-- A pass over a stripe has read the start sentinel and the characters after it (R104). -/
theorem parsePass_stripe (f : TrackFormat) (h : FormatSound f) (n : Nat) (vs : List Nat)
    (ho : ordinary f.width f.finish vs) (fuel : Nat) (hl : fuel + vs.length + 1 = f.longest) (r : List Bool) :
    parsePass f (stripe f.width f.start n vs r) = readChars f fuel (vs.foldl (fun x v => x ^^^ v) f.start) vs r := by
  have hw : 0 < f.width := by have := h.w; omega
  obtain ⟨t, ht⟩ := start_begins_with_one f h
  unfold parsePass stripe
  have e : (List.replicate n false ++ charBits f.width f.start ++ (vs.map (charBits f.width)).flatten ++ r).dropWhile
      (fun b => !b) = charBits f.width f.start ++ ((vs.map (charBits f.width)).flatten ++ r) := by
    unfold charBits at *
    rw [ht]
    simp only [List.append_assoc, List.cons_append]
    exact zeros_skipped n _
  rw [e]
  unfold passFrom
  have L := charBits_length hw f.start
  rw [if_neg (by simp [L]), take_first _ _ _ L, drop_first _ _ _ L]
  have V : charValue f.width (charBits f.width f.start) = f.start := charValue_of h.s _
  have O : oddParity (charBits f.width f.start) = true := by unfold charBits; rw [oddParity_of]; simp
  simp only [V, O, ne_eq, not_true_eq_false, Bool.true_eq_false, if_false]
  rw [show f.longest - 1 = fuel + vs.length by omega, readChars_all f hw vs ho]
  simp

/-- The end sentinel is read (R104). -/
theorem readChars_finish (f : TrackFormat) (h : FormatSound f) (fuel lrc : Nat) (acc : List Nat) (r : List Bool) :
    readChars f (fuel+1) lrc acc (charBits f.width f.finish ++ r) = checkLrc f (lrc ^^^ f.finish) acc r := by
  have hw : 0 < f.width := by have := h.w; omega
  conv_lhs => unfold readChars
  have L := charBits_length hw f.finish
  rw [if_neg (by simp [L]), take_first _ _ _ L, drop_first _ _ _ L]
  have V : charValue f.width (charBits f.width f.finish) = f.finish := charValue_of h.e _
  have O : oddParity (charBits f.width f.finish) = true := by unfold charBits; rw [oddParity_of]; simp
  simp only [V, O, Bool.true_eq_false, if_false, if_true]

/-- An exclusive-or stays below the power of two its parts stay below. -/
theorem foldl_xor_lt (n : Nat) (vs : List Nat) (x : Nat) (hx : x < 2 ^ n) (h : ∀ v ∈ vs, v < 2 ^ n) : vs.foldl
    (fun x v => x ^^^ v) x < 2 ^ n := by
  induction vs generalizing x with
  | nil => exact hx
  | cons v vs ih => exact ih _ (Nat.xor_lt_two_pow hx (h v (by simp))) (fun y hy => h y (by simp [hy]))

/-- A list of some length has a last element. -/
theorem last_of_nonempty (c : List Bool) (w : Nat) (h : c.length = w) (hw : 0 < w) : ∃ d b, c = d ++ [b] ∧
    d.length + 1 = w := by
  rcases List.eq_nil_or_concat c with rfl | ⟨d, b, rfl⟩
  · simp at h; omega
  · exact ⟨d, b, by simp, by simpa using h⟩

/-- The data bits of a character are those of its data value (R103). -/
theorem data_of_character (w : Nat) (d : List Bool) (h : d.length + 1 = w) : d = dataBits w
    (charValue w (d ++ [b])) := by
  unfold charValue dataBits
  rw [List.take_left' (by omega), show w - 1 = d.length by omega]
  exact data_of_value d

/-- The outcome of a pass, from a status and the characters. -/
def PassOutcome.of (st : TrackStatus) (cs : List Nat) : PassOutcome := if st = .good then .good cs else .failed st

/-- A parse pass ends as the bits of the stripe say (R104). -/
theorem parsePass_of_stripePass (f : TrackFormat) (h : FormatSound f) (b : List Bool) (st : TrackStatus)
    (cs : List Nat)
    (hp : StripePass f.width f.start f.finish f.longest b st cs) : parsePass f b = PassOutcome.of st cs := by
  have hw : 0 < f.width := by have := h.w; omega
  cases hp with
  | blank n => unfold parsePass; rw [zeros_alone_skipped]; unfold passFrom; rw [if_pos (by simpa using hw)]; rfl
  | short n left hl => unfold parsePass; rw [zeros_skipped]; unfold passFrom; rw [if_pos (by simpa using hl)]; rfl
  | otherStart n left hl hd =>
    unfold parsePass; rw [zeros_skipped]; unfold passFrom; rw [if_neg (by simpa using hl)]
    rw [if_pos]; rfl
    intro hv
    apply hd
    have T : (true :: left).take (f.width - 1) = ((true :: left).take f.width).take (f.width - 1) := by
      rw [List.take_take]; congr 1; omega
    rw [T]
    unfold charValue at hv
    unfold dataBits
    rw [← hv]
    have := data_of_value (((true :: left).take f.width).take (f.width - 1))
    have len : (((true :: left).take f.width).take (f.width - 1)).length = f.width - 1 := by
      simp only [List.length_take, List.length_cons]; omega
    rw [len] at this
    exact this
  | startParity n left =>
    obtain ⟨t, ht⟩ := start_begins_with_one f h
    unfold parsePass
    have e : (List.replicate n false ++ dataBits f.width f.start ++ (!parityBit (dataBits f.width f.start)) ::
        left).dropWhile (fun b => !b) =
        (dataBits f.width f.start ++ [!parityBit (dataBits f.width f.start)]) ++ left := by
      rw [ht]
      simp only [List.append_assoc, List.cons_append]
      rw [zeros_skipped]; simp
    rw [e]
    have L : (dataBits f.width f.start ++ [!parityBit (dataBits f.width f.start)]).length = f.width :=
        by simp [dataBits]; omega
    unfold passFrom
    rw [if_neg (by rw [List.length_append, L]; omega), take_first _ _ _ L]
    dsimp only
    rw [charValue_of h.s, oddParity_of]
    simp [PassOutcome.of]
  | parity n chars data left ho hl hd =>
    rw [parsePass_stripe f h n chars ho (f.longest - chars.length - 1) (by omega)]
    obtain ⟨m, hm⟩ : ∃ m, f.longest - chars.length - 1 = m + 1 := ⟨f.longest - chars.length - 2, by omega⟩
    rw [hm]
    unfold readChars
    have L : (data ++ [!parityBit data]).length = f.width := by simp; omega
    rw [show data ++ (!parityBit data) :: left = (data ++ [!parityBit data]) ++ left by simp]
    rw [if_neg (by rw [List.length_append, L]; omega), take_first _ _ _ L]
    dsimp only
    rw [oddParity_of]
    simp [PassOutcome.of]
  | noEnd n chars left ho hl hd =>
    rw [parsePass_stripe f h n chars ho (f.longest - chars.length - 1) (by omega)]
    obtain ⟨m, hm⟩ : ∃ m, f.longest - chars.length - 1 = m + 1 := ⟨f.longest - chars.length - 2, by omega⟩
    rw [hm]
    unfold readChars
    rw [if_pos hd]; rfl
  | tooLong n chars left ho hl =>
    rw [parsePass_stripe f h n chars ho 0 (by omega)]
    rfl
  | noLrc n chars left ho hl hd =>
    rw [parsePass_stripe f h n chars ho (f.longest - chars.length - 1) (by omega)]
    obtain ⟨m, hm⟩ : ∃ m, f.longest - chars.length - 1 = m + 1 := ⟨f.longest - chars.length - 2, by omega⟩
    rw [hm, readChars_finish f h]
    unfold checkLrc
    rw [if_pos hd]; rfl
  | lrc n chars c left ho hl hc hne =>
    rw [parsePass_stripe f h n chars ho (f.longest - chars.length - 1) (by omega)]
    obtain ⟨m, hm⟩ : ∃ m, f.longest - chars.length - 1 = m + 1 := ⟨f.longest - chars.length - 2, by omega⟩
    rw [hm, List.append_assoc, readChars_finish f h]
    unfold checkLrc
    rw [if_neg (by rw [List.length_append, hc]; omega), take_first _ _ _ hc]
    dsimp only
    rw [if_neg]; rfl
    rintro ⟨a, b⟩
    apply hne
    obtain ⟨d, x, rfl, hx⟩ := last_of_nonempty c f.width hc hw
    rw [oddParity_of] at b
    have := data_of_character (b := x) f.width d hx
    rw [a] at this
    unfold charBits lrcOf
    rw [← this]
    simp at b
    rw [b]
  | good n _ left ho hl =>
    rw [parsePass_stripe f h n cs ho (f.longest - cs.length - 1) (by omega)]
    obtain ⟨m, hm⟩ : ∃ m, f.longest - cs.length - 1 = m + 1 := ⟨f.longest - cs.length - 2, by omega⟩
    rw [hm, List.append_assoc, readChars_finish f h]
    have L := charBits_length hw (lrcOf f.start f.finish cs)
    unfold checkLrc
    rw [if_neg (by rw [List.length_append, L]; omega), take_first _ _ _ L]
    dsimp only
    have B : lrcOf f.start f.finish cs < 2 ^ (f.width - 1) := Nat.xor_lt_two_pow
        (foldl_xor_lt _ cs _ h.s (fun v hv => (ho v hv).1)) h.e
    have V : charValue f.width (charBits f.width (lrcOf f.start f.finish cs)) = lrcOf f.start f.finish cs :=
        charValue_of B _
    have O : oddParity (charBits f.width (lrcOf f.start f.finish cs)) = true :=
        by unfold charBits; rw [oddParity_of]; simp
    rw [V, O, if_pos ⟨rfl, rfl⟩]
    rfl

/-- A parse pass of either track ends as the bits of the stripe say (R103, R104). -/
theorem parsePass_of_stripePasses (k : HeadId) (b : List Bool) (st : TrackStatus) (cs : List Nat)
    (h : stripePasses k b st cs) : parsePass (trackFormat k) b = PassOutcome.of st cs := by
  cases k
  · exact parsePass_of_stripePass
        (trackFormat .alpha) ⟨by decide, by decide, by decide, by decide, by decide, by decide⟩ b st cs h
  · exact parsePass_of_stripePass
        (trackFormat .numeric) ⟨by decide, by decide, by decide, by decide, by decide, by decide⟩ b st cs h

/-- The characters before the first separator (R107). -/
theorem beforeSeparator_of (sep : Nat) (chars used : List Nat) (h1 : sep ∉ used)
    (h2 : chars = used ∨ ∃ after, chars = used ++ sep :: after) : beforeSeparator sep chars = used := by
  have A : ∀ u : List Nat, sep ∉ u → ∀ r, (u ++ r).takeWhile (fun v => v != sep) = u ++ r.takeWhile
      (fun v => v != sep) := by
    intro u hu r
    apply List.takeWhile_append_of_pos
    intro a ha; simp; rintro rfl; exact hu ha
  unfold beforeSeparator
  rcases h2 with rfl | ⟨r, rfl⟩
  · simpa using A chars h1 []
  · rw [A used h1]; simp

/-- A character that is no digit leaves no account (R107). -/
theorem digitsOf_none (z : Nat) (l : List Nat) (h : ∃ v ∈ l, v < z ∨ z + 9 < v) : digitsOf z l = none := by
  induction l with
  | nil => simp at h
  | cons v vs ih =>
    unfold digitsOf
    obtain ⟨x, hx, hb⟩ := h
    rcases List.mem_cons.mp hx with rfl | hx
    · split
      · rw [if_neg (by omega)]
      · rfl
    · rw [ih ⟨x, hx, hb⟩]

/-- The digits of digit characters (R107). -/
theorem digitsOf_some (z : Nat) (l : List Nat) (h : ∀ d ∈ l, d ≤ 9) : digitsOf z (l.map (· + z)) = some l := by
  induction l with
  | nil => rfl
  | cons v vs ih =>
    have := h v (by simp)
    simp only [List.map_cons, digitsOf, ih (fun x hx => h x (by simp [hx]))]
    rw [if_pos (by omega)]; simp

/-- The sum of R108 as a sum over the digits from the rightmost on. -/
theorem checkSum_as_sum (l : List Nat) (p : Bool) : checkSum p l = ((List.range l.length).map fun i =>
     let d := l.getD i 0
     if (i + (if p then 1 else 0)) % 2 = 0 then d else if 9 < 2 * d then 2 * d - 9 else 2 * d).sum := by
  induction l generalizing p with
  | nil => rfl
  | cons d ds ih =>
    simp only [checkSum, List.length_cons, List.range_succ_eq_map, List.map_cons, List.map_map, List.sum_cons, ih]
    congr 1
    · cases p <;> simp [doubledDigit]
    · congr 1
      apply List.map_congr_left
      intro i _
      simp only [Function.comp, List.getD_cons_succ]
      have : ((i + if (!p) = true then 1 else 0) % 2 = 0) = ((i.succ + if p = true then 1 else 0) % 2 = 0) := by
        cases p <;> simp <;> omega
      simp only [this]

end Sys2Proof.Machine
end

