-- ==== Sys2Proof/Laws/Weighing.lean ====
section
/-! SUPPORT. What the rings of a channel, their sum and their spread are. -/

namespace Sys2Proof.Machine

/-- A push keeps the newest `n` values (R4, R9). -/
theorem ringPush_eq (n : Nat) (v : Int) (r : List Int) (h : 0 < n) (hl : r.length ≤ n) :
    ringPush n v r = (r ++ [v]).drop (r.length + 1 - n) := by
  unfold ringPush
  split
  · rw [show r.length + 1 - n = 0 by omega]; rfl
  · rw [show r.length + 1 - n = 1 by omega, List.drop_append_of_le_length (by omega)]

/-- The sum of a ring is additive. -/
theorem sumOf_append (a b : List Int) : sumOf (a ++ b) = sumOf a + sumOf b := by
  induction a with
  | nil => simp [sumOf]
  | cons x xs ih => simp [sumOf, ih]; omega

/-- The running sum of R4 is the sum of the ring after the push. -/
theorem sumOf_push (n : Nat) (v : Int) (r : List Int) (h : 0 < n) (hl : r.length ≤ n) :
    (if r.length < n then sumOf r + v else sumOf r + (v - (r.head?).getD 0)) = sumOf (ringPush n v r) := by
  unfold ringPush
  split
  · simp [sumOf_append, sumOf]
  · cases r with
    | nil => simp at *; omega
    | cons a as => simp [sumOf, sumOf_append]; omega

/-- The largest of a list that is not empty is in it and bounds it (R9). -/
theorem largest_spec (l : List Int) (h : l ≠ []) : largest l ∈ l ∧ ∀ a ∈ l, a ≤ largest l := by
  induction l with
  | nil => simp at h
  | cons x xs ih =>
    cases xs with
    | nil => simp [largest]
    | cons y ys =>
      obtain ⟨h1, h2⟩ := ih (by simp)
      simp only [largest] at *
      constructor
      · rcases max_choice x (largest (y :: ys)) with e | e
        · rw [e]; simp
        · rw [e]; exact List.mem_cons_of_mem _ h1
      · intro a ha
        rcases List.mem_cons.1 ha with rfl | ha
        · exact le_max_left _ _
        · exact (h2 a ha).trans (le_max_right _ _)

/-- The smallest of a list that is not empty is in it and bounds it (R9). -/
theorem smallest_spec (l : List Int) (h : l ≠ []) : smallest l ∈ l ∧ ∀ a ∈ l, smallest l ≤ a := by
  induction l with
  | nil => simp at h
  | cons x xs ih =>
    cases xs with
    | nil => simp [smallest]
    | cons y ys =>
      obtain ⟨h1, h2⟩ := ih (by simp)
      simp only [smallest] at *
      constructor
      · rcases min_choice x (smallest (y :: ys)) with e | e
        · rw [e]; simp
        · rw [e]; exact List.mem_cons_of_mem _ h1
      · intro a ha
        rcases List.mem_cons.1 ha with rfl | ha
        · exact min_le_left _ _
        · exact (min_le_right _ _).trans (h2 a ha)

/-- Largest less smallest is within a band just when every two values are (R9). -/
theorem spread_iff (l : List Int) (b : Int) (h : l ≠ []) :
    largest l - smallest l ≤ b ↔ ∀ x ∈ l, ∀ y ∈ l, x - y ≤ b := by
  obtain ⟨a1, a2⟩ := largest_spec l h
  obtain ⟨b1, b2⟩ := smallest_spec l h
  constructor
  · intro hh x hx y hy
    have := a2 x hx; have := b2 y hy; omega
  · intro hh; exact hh _ a1 _ b1

end Sys2Proof.Machine
end

