-- ==== Sys2Proof/Tests/Slice0.lean ====
section
/-! SUPPORT. Small tests: the smoke tests of WellFormed, the worked examples of the manual, one step of a command on a
small state, and for every statement a concrete state that meets its hypotheses (`witness_…`). Expected values are the
manual's own or worked by hand from its rules. -/

namespace Sys2Proof.Tests

open Sys2Proof.Machine

set_option Elab.async false

/-! ### Small states -/

/-- The state a command leaves. -/
def after (i : Instr) (s : State) : State :=
  match exec i s with
  | .next t => t
  | .fault _ => s
  | .refused _ => s

/-- The status of the reply a command forms. -/
def statusAfter (i : Instr) (s : State) : Option Status := (after i s).link.reply.map Reply.status

/-- Bytes of a text. -/
def word (t : String) : List Byte := textOf t

/-- A 32-bit field. -/
def wide (v : Int) : Wide := BitVec.ofInt 32 v

/-- The platter record of sections 1.11 and 2.6. -/
def platterRecord : CalRecord :=
  { calZero := some 102400, span := some { counts := 3000000, loadT := 100000 }, profile := some .a, calCount := 1 }

/-- A bag record: 10 counts a tenth. -/
def bagRecord : CalRecord :=
  { calZero := some 1000, span := some { counts := 1000000, loadT := 100000 }, profile := none, calCount := 1 }

/-- Short rings, as in section 1.11. -/
def shortRings : Settings :=
  { Settings.defaults with platterFilterLen := 4, platterStableLen := 4, bagFilterLen := 4, bagStableLen := 4 }

/-- A READY channel held at one value. -/
def steadyChannel (r : CalRecord) (zero value fine : Int) : Channel :=
  { condition := .ready, converterOn := true, settling := 0, filterRing := List.replicate 4 value
    filterSum := 4 * value
    latest := some { filtered := value, fineGross := some fine, saturated := .no, stable := true }
    stabilityRing := List.replicate 4 fine, zeroRef := some zero, powerUpZero := some zero, trackingCount := 0
    record := r }

/-- A part with the platter at 45,774 tenths (section 2.6) and the bag at 400 tenths. -/
def lane : State :=
  { State.reset with
    platter := steadyChannel platterRecord 102400 1475611 45774
    bag := steadyChannel bagRecord 1000 5000 400
    settledS := some 20
    store := { State.reset.store with live := shortRings } }

/-- A record with one SCANNED entry that is not bagged, and one that is PENDING. -/
def record305 : SaleRecord :=
  { number := 305
    basket :=
      [{ number := 1, kind := .scanned, description := word "MILK 1L", amount := 129, voided := false, voids := none
         weighing := none, expected := none, tolerance := none, status := .none }]
    total := 129
    tenders := [] }

/-- The record with its entry PENDING at 20 g. -/
def record305Pending : SaleRecord :=
  { record305 with basket := record305.basket.map fun e => { e with expected := some 20, status := .pending } }

/-- A lane with the sale OPEN. -/
def openLane : State := { lane with sale := { current := .opened record305, closed := none } }

/-- A lane with the sale in TENDER. -/
def tenderLane : State := { lane with sale := { current := .tender record305, closed := none } }

/-- A card of twelve digits. -/
def card : CardData :=
  { numeric := { status := .good, chars := [4, 2], direction := some .forward }
    alpha := { status := .absent, chars := [], direction := none }
    digits := [5, 1, 1, 1, 1, 1, 1, 1, 1, 1, 1, 4]
    source := .numeric }

/-- Its masked account. -/
def mask : MaskedAccount := maskedOf card.digits

/-- A lane in TENDER with the card HELD, and with it ATTACHED to a PENDING tender. -/
def heldLane : State := { tenderLane with reader := { tenderLane.reader with slot := .held card mask 60000 } }

/-- The record with a PENDING card tender of 100. -/
def record305Card : SaleRecord :=
  { record305 with tenders := [{ kind := .card, amount := 100, state := .pending, masked := some mask }] }

/-- A lane with that tender PENDING. -/
def attachedLane : State :=
  { lane with
    sale := { current := .tender record305Card, closed := none }
    reader := { lane.reader with slot := .attached card mask } }

/-- A lane with an attendant. -/
def attended (s : State) : State := { s with attendant := true }

/-- An exception. -/
def unexpected : BagException := { id := 1, kind := .unexpectedItem, entry := none, delta := some 20 }

/-- An add-expectation of 20 g for entry 1. -/
def expectation : Expectation :=
  { entry := 1, direction := .add, weight := 20, tolerance := 15, createdAt := 0, order := 0, timer := some 15000 }

/-- A lane that waits for entry 1 in the bag. -/
def expecting : State :=
  { lane with
    sale := { current := .opened record305Pending, closed := none }
    monitor := { lane.monitor with expectations := [expectation] } }

/-! ### WellFormed refuses an ill-formed term at each of its checks -/

theorem test_wf_text_record : LineArg.wellFormed (.text (List.replicate 256 0x41) 0 0 0 0) = false := by decide +kernel
theorem test_wf_unknown_record : LineArg.wellFormed (.unknown 2) = false := by decide +kernel
theorem test_wf_setting_form : (Instr.set 0 24 (.number 5)).wellFormed = false := by decide +kernel
theorem test_wf_setting_text : (Instr.set 0 23 (.text [])).wellFormed = false := by decide +kernel
theorem test_wf_description : (Request.weighItem (List.replicate 256 0x41) 1 none).fieldsFit = false := by decide +kernel
theorem test_wf_item : (Request.addItem (List.replicate 256 0x41) 1 none none).fieldsFit = false := by decide +kernel
theorem test_wf_line_inside : (Instr.printText 0 [.cut, .unknown 1]).wellFormed = false := by decide +kernel
theorem test_wf_line_count : (Request.printText (List.replicate 256 .cut)).fieldsFit = false := by decide +kernel
theorem test_wf_body_length : (Instr.printText 0 (List.replicate 248 .cut)).wellFormed = false := by decide +kernel
theorem test_wf_sample : (Instr.sampleArrival .bag 8388608).wellFormed = false := by decide +kernel
theorem test_wf_entry_number : (Instr.bagTimerExpiry 121).wellFormed = false := by decide +kernel
theorem test_wf_known_kind : (Instr.unknownRequest 0x2D 0 []).wellFormed = false := by decide +kernel
theorem test_wf_unknown_body : (Instr.unknownRequest 0x2E 0 (List.replicate 249 0)).wellFormed = false := by decide +kernel
theorem test_wf_frame_length : (Instr.receiveFrame (List.replicate 255 0)).wellFormed = false := by decide +kernel
theorem test_wf_accepts :
    (Instr.addCash 0x17 1000).wellFormed = true ∧ (Instr.sampleArrival .bag (-8388608)).wellFormed = true ∧
      (Instr.bagTimerExpiry 120).wellFormed = true ∧ (Instr.unknownRequest 0x2E 0 []).wellFormed = true := by
  decide +kernel

/-! ### The start -/

/-- The reset state is what a start gives from a store that was never written, at nominal levels (log 4). -/
theorem test_reset_is_a_start :
    State.reset = endEvent (startPart .powerOn nominalLevels
      { State.reset with store :=
        { live := Settings.defaults, image := .neverWritten, platterCopy := .neverWritten, bagCopy := .neverWritten
          write := none } }) := rfl

/-- The table spells no command (log 37). -/
theorem test_no_word : decodeTableWord 8 0x10 = none ∧ State.reset.withFetchWord 8 0x10 = State.reset := ⟨rfl, rfl⟩

/-! ### The manual's worked examples -/

/-- Section 1.11: the filtered values and fine grosses of samples 4 to 7. -/
theorem test_filter_example :
    [410200, 410280, 410160, 410250].map (fun s => roundAway s 4) = [102550, 102570, 102540, 102563] ∧
      [102550, 102570, 102540, 102563].map (fun v => fineGrossOf .platter platterRecord (some 102400) v) =
        [some 5, some 6, some 5, some 5] := by
  decide +kernel

/-- Section 1.11: the power-up zero and its re-basing, by the sample 102,650. -/
theorem test_power_up_zero :
    (after (.sampleArrival .platter 102650)
      { lane with platter :=
        { lane.platter with
          condition := .starting, filterRing := [102560, 102520, 102610, 102470], filterSum := 410160
          stabilityRing := [5, 6, 5], latest := none, zeroRef := some 102400, powerUpZero := none } }).platter =
      { lane.platter with
        condition := .ready, filterRing := [102520, 102610, 102470, 102650], filterSum := 410250
        stabilityRing := [0, 1, 0, 0], zeroRef := some 102563, powerUpZero := some 102563
        latest := some { filtered := 102563, fineGross := some 0, saturated := .no, stable := true } } := by
  decide +kernel

/-- Section 1.12: a settled change of 485 g moves S, and 5 g does not reach the monitor. -/
theorem test_bag_gross : bagGross 17450 = 1745 ∧ bagGross 12570 = 1255 ∧ bagGross (-25) = -5 := by decide +kernel

/-- Sections 2.6 and 2.8: displayed gross and legal net under profile A. -/
theorem test_legal_round :
    legalRound .a 45774 = 45780 ∧ legalRound .a 45654 = 45660 ∧ legalRound .a 60005 = 60000 ∧
      legalRound .a 59995 = 60000 ∧ legalRound .a (-15) = -20 ∧ legalRound .a (-10) = -20 ∧
      legalRound .a 60130 = 60150 ∧ legalRound .a 59930 = 59940 ∧ legalRound .a 10 = 20 ∧ legalRound .a (-30) = -40 := by
  decide +kernel

/-- Sections 2.6 to 2.8: prices. -/
theorem test_prices :
    priceOf 4566 349 = 1594 ∧ priceOf 936 429 = 402 ∧ priceOf 15000 999999 = 14999985 ∧ priceOf 15000 666666 = 9999990 ∧
      priceOf 15000 666667 = 10000005 := by
  decide +kernel

/-- Section 4: the tolerances of section 3.11's events 3 and 5. -/
theorem test_tolerances : computedTolerance Settings.defaults 1040 = 52 ∧ computedTolerance Settings.defaults 4566 = 228 := by
  decide +kernel

/-- Section 5.8: locking the clock at 401, then the bits 0, 1, 1, 0 and CLOCK_LOST with the period 399. -/
theorem test_card_clock :
    ([900, 410, 402, 398, 405, 399].foldl (fun t i => Track.interval i t) Track.blank).decoder = .locked 401 none ∧
      [404, 198, 206, 195, 203, 396, 205, 310].foldl (fun t i => Track.interval i t)
          { Track.blank with decoder := .locked 401 none } =
        { Track.blank with decoder := .clockLost 399, bits := [false, true, true, false] } := by
  decide +kernel

/-- The 25 bits of the short track of section 5.8 between its zeros. -/
def shortTrack : List Bool :=
  (List.replicate 10 0 ++ [1, 1, 0, 1, 0, 0, 0, 1, 0, 0, 0, 1, 0, 0, 0, 1, 1, 1, 1, 1, 0, 1, 0, 0, 0] ++
    List.replicate 10 0).map (· == 1)

/-- Section 5.8: the short track parsed both ways, and with a bit misread. -/
theorem test_card_parse :
    parseTrack (trackFormat .numeric) shortTrack = (.good [4, 2], .forward) ∧
      parseTrack (trackFormat .numeric) shortTrack.reverse = (.good [4, 2], .reverse) ∧
      (parseTrack (trackFormat .numeric) (shortTrack.set 18 true)).1 = .failed .parity := by
  decide +kernel

/-- Section 5.8: the mod-10 check, and its failure for one digit. -/
theorem test_card_check :
    checkSum false [9, 4, 1, 2, 7, 5, 0, 6, 3, 1, 4, 2, 5, 6, 7, 8].reverse = 70 ∧
      modTenPasses [9, 4, 1, 2, 7, 5, 0, 7, 3, 1, 4, 2, 5, 6, 7, 8] = false := by
  decide +kernel

/-- Section 9.8: strobe times and step periods. -/
theorem test_print_times :
    newDotTime .c 100 = 640 ∧ historyDotTime .c 100 = 480 ∧
      (List.range 8).map stepPeriod = [2500, 1800, 1400, 1200, 1050, 950, 880, 830] ∧ bandOf 25 = .c := by
  decide +kernel

/-- Section 10.6: the request frame, received byte by byte, and the reply frame. -/
theorem test_frame_bytes :
    (requestFrame 0x17 (.addCash 1000)).bytes = [0xA5, 0x06, 0x10, 0x17, 0xE8, 0x03, 0x00, 0x00, 0xEA, 0x5A] ∧
      ({ kind := 0x90, tag := 0x17, status := .ok, fields := .positionSum 2 3000 } : Reply).bytes =
        [0xA5, 0x08, 0x90, 0x17, 0x00, 0x02, 0xB8, 0x0B, 0x00, 0x00, 0x3E, 0x5A] := by
  decide +kernel

/-- Section 10.6: the frame with E8 received as E9 ends with CHECK and its KIND and TAG. -/
theorem test_frame_check :
    (after (.receiveFrame [0xA5, 0x06, 0x10, 0x17, 0xE9, 0x03, 0x00, 0x00, 0xEA, 0x5A]) lane).link.reports.getLast? =
      some { lostBefore := false, report := .linkError .check (some 0x10) (some 0x17) } := by
  decide +kernel

/-- Sale 305 of sections 3.11 and 8.6, as closed. -/
def sale305 : ClosedSale :=
  let item (n : Nat) (k : EntryKind) (d : String) (a : Int) (voided : Bool) (w : Option WeighingPart) : Entry :=
    { number := n, kind := k, description := word d, amount := a, voided := voided, voids := none, weighing := w
      expected := none, tolerance := none, status := .none }
  { record :=
      { number := 305
        basket :=
          [item 1 .scanned "MILK 1L" 129 false none,
            item 2 .weighed "APPLES" 1594 false
              (some { netG := 4566, tareG := 12, divisionG := 2, unitPrice := 349, profile := .a }),
            item 3 .scanned "CHOCOLATE" 199 true none, item 4 .void "CHOCOLATE" (-199) false none,
            item 5 .scanned "COFFEE 500G" 899 false none]
        total := 2622
        tenders :=
          [{ kind := .card, amount := 2000, state := .approved, masked := some { length := 16, last4 := [5, 6, 7, 8] } },
            { kind := .cash, amount := 1000, state := .accepted, masked := none }] }
    changeDue := 378
    receipt := .pending }

/-- The settings of section 8.6. -/
def settings305 : ReceiptSettings :=
  { decimals := 2, headers := [word "MARKET HALL NORTH", [], word "TILL 4", []]
    trailers := [word "THANK YOU FOR SHOPPING", [], [], []] }

/-- The characters of a receipt line. -/
def lineText : LineRecord → List Byte
  | .text c _ _ _ _ => c
  | _ => []

/-- Section 8.6: the receipt has 18 lines, with these texts, and a COPY has 19. -/
theorem test_receipt_lines :
    (receiptLines .original settings305 sale305).length = 18 ∧ (receiptLines .copy settings305 sale305).length = 19 ∧
      [3, 4, 5, 6, 8, 11, 12, 14].map (fun i => ((receiptLines .original settings305 sale305)[i]?).map lineText) =
        ["MILK 1L                     1.29", "APPLES                     15.94", "  4.566 kg @ 3.49/kg",
          "  tare 0.012 kg", "VOID CHOCOLATE             -1.99", "TOTAL                      26.22",
          "CARD ****5678              20.00", "CHANGE                      3.78"].map fun t => some (word t) := by
  decide +kernel

/-- Section 8.6: the total is DOUBLE height, the last lines are a feed of 4 rows and a CUT. -/
theorem test_receipt_ends :
    (receiptLines .original settings305 sale305).drop 16 = [.feed 4, .cut] ∧
      ((receiptLines .original settings305 sale305)[11]?).map glyphRows = some 48 ∧
      layoutCells (word "MARKET HALL NORTH") false .centre = word "       MARKET HALL NORTH        " := by
  decide +kernel

/-- Section 7.7: a kick that does not fit the units free waits. -/
theorem test_kick_waits :
    (after (.noSale 1) (attended { lane with supply :=
      { lane.supply with budget := 16, granted := { drawer := 0, cutter := 0, motor := 0, head := 4 } } })).drawer.state =
      .waitSupply := by
  decide +kernel

/-! ### One step of each command -/

/-- Section 2.6 whole: the completion at 4,566 g with a tare of 12 g. -/
theorem test_sampleArrival_completes :
    let t := after (.sampleArrival .platter 1475611) { openLane with scale :=
      { tareT := 120, occupancy := .empty, weigh := some { description := word "APPLES", unitPrice := 349, timer := 10 } } }
    t.basket.map Entry.amount = [129, 1594] ∧
      (t.basket[1]?).map Entry.weighing =
        some (some { netG := 4566, tareG := 12, divisionG := 2, unitPrice := 349, profile := .a }) ∧
      t.scale = { tareT := 0, occupancy := .locked, weigh := none } ∧
      t.monitor.expectations.map Expectation.weight = [4566] := by
  decide +kernel

/-- R3: a channel that settles discards a sample. -/
theorem test_sampleArrival_settles :
    (after (.sampleArrival .bag 98012) State.reset).bag = { State.reset.bag with settling := 1 } := by
  decide +kernel

/-- R26: the displayed gross of 45,774 tenths is 4,578 g. -/
theorem test_readWeight :
    (after (.readWeight 1 0) lane).link.reply.map Reply.fields =
      some (.weightPlatter .ready true (some 4578) 0 (some 4578) .empty) := by
  decide +kernel

theorem test_zero_far : statusAfter (.zero 1 0) lane = some .badValue := by decide +kernel
theorem test_calZero_disabled : statusAfter (.calZero false 1 1) lane = some .calDisabled := by decide +kernel
theorem test_calSpan_writes :
    (after (.calSpan true 1 1 (wide 3000))
      { lane with bag := steadyChannel bagRecord 1000 301000 30000 }).store.write =
      some (.record .bag { bagRecord with span := some { counts := 300000, loadT := 30000 }, calCount := 2 }) := by
  decide +kernel
theorem test_setProfile_bad : statusAfter (.setProfile true 1 3) lane = some .badValue := by decide +kernel

/-- Section 2.3: 13 g gives 14 g and 11 g gives 12 g. -/
theorem test_setTare :
    (after (.setTare 1 (wide 13)) lane).scale.tareT = 140 ∧ (after (.setTare 1 (wide 11)) lane).scale.tareT = 120 := by
  decide +kernel

theorem test_takeTare : (after (.takeTare 1) lane).scale.tareT = 45780 := by decide +kernel
theorem test_clearTare :
    (after (.clearTare 1) { lane with scale := { lane.scale with tareT := 140 } }).scale.tareT = 0 := by
  decide +kernel
theorem test_weighItem :
    (after (.weighItem 1 (word "PEARS") (wide 429) (some (wide 12))) openLane).scale.weigh =
      some { description := word "PEARS", unitPrice := 429, timer := 10000 } := by
  decide +kernel
theorem test_cancelWeigh_none : statusAfter (.cancelWeigh 1) openLane = some .badState := by decide +kernel
theorem test_openSale_range :
    statusAfter (.openSale 1 (wide 9999999)) lane = some .ok ∧
      statusAfter (.openSale 1 (wide 10000000)) lane = some .badValue := by
  decide +kernel
theorem test_addItem_total :
    ((after (.addItem 1 (word "COFFEE") (wide 899) none none) openLane).sale.current.record?.map SaleRecord.total) =
      some 1028 := by
  decide +kernel
theorem test_addItem_tolerance_alone :
    statusAfter (.addItem 1 [] (wide 1) none (some 20)) openLane = some .badValue := by
  decide +kernel
theorem test_voidEntry :
    ((after (.voidEntry 1 1) (attended openLane)).sale.current.record?.map fun r => (r.total, r.basket.length)) =
      some (0, 2) := by
  decide +kernel

/-- Section 3.11, event 11. -/
theorem test_beginTender_pending : statusAfter (.beginTender 1) expecting = some .exceptionPending := by decide +kernel
theorem test_resumeSale : (after (.resumeSale 1) tenderLane).sale.current = .opened record305 := by decide +kernel
theorem test_addCash :
    (after (.addCash 1 (wide 1000)) tenderLane).link.reply.map Reply.fields = some (.positionSum 1 1000) := by
  decide +kernel
theorem test_addCardTender_over : statusAfter (.addCardTender 1 (wide 130)) heldLane = some .badValue := by decide +kernel
theorem test_cardDecision :
    (after (.cardDecision 1 0) attachedLane).sale.current.record?.map (fun r => r.tenders.map Tender.state) =
      some [.approved] := by
  decide +kernel

/-- Section 3.11, event 16. -/
theorem test_closeSale_pending : statusAfter (.closeSale 1) attachedLane = some .badState := by decide +kernel
theorem test_abandonSale : (after (.abandonSale 1) (attended openLane)).sale.current = .idle := by decide +kernel
theorem test_reprint_empty : statusAfter (.reprint 1) lane = some .badState := by decide +kernel
theorem test_readSale_idle :
    (after (.readSale 1) lane).link.reply.map Reply.fields = some (.sale .idle false none none none) := by
  decide +kernel
theorem test_readEntry_none : statusAfter (.readEntry 1 2) openLane = some .notFound := by decide +kernel
theorem test_readTender_zero : statusAfter (.readTender 1 0) attachedLane = some .notFound := by decide +kernel
theorem test_clearException :
    (after (.clearException 1 1)
      (attended { openLane with monitor := { lane.monitor with exceptions := [unexpected] } })).monitor.exceptions =
      [] := by
  decide +kernel
theorem test_waiveBagging :
    (after (.waiveBagging 1 1) (attended expecting)).basket.map Entry.status = [.waived] := by
  decide +kernel
theorem test_bagResync : (after (.bagResync 1) (attended expecting)).settledS = some 40 := by decide +kernel
theorem test_readBagging_position : statusAfter (.readBagging 1 2) expecting = some .notFound := by decide +kernel
theorem test_releaseCard : (after (.releaseCard 1) attachedLane).reader.slot = .released .numeric mask := by
  decide +kernel
theorem test_discardCard_bound : statusAfter (.discardCard 1) attachedLane = some .badState := by decide +kernel
theorem test_readCard :
    (after (.readCard 1) heldLane).link.reply.map Reply.fields =
      some (.cardSlot 1 (some mask) (some .numeric) (some 60000) .swipe true) := by
  decide +kernel
theorem test_noSale : (after (.noSale 1) (attended lane)).supply.granted.drawer = 14 := by decide +kernel
theorem test_drawerReset :
    (after (.drawerReset 1) (attended { lane with drawer := { lane.drawer with state := .jammed } })).drawer.state =
      .closed := by
  decide +kernel
theorem test_readDrawer :
    (after (.readDrawer 1) lane).link.reply.map Reply.fields = some (.drawer .closed 0 false true none 0) := by
  decide +kernel

/-- R133: 2,500 Hz has a half-period of 200. -/
theorem test_beep : (after (.beep 1 2500 100 1) lane).tone.halfPeriod = 200 := by decide +kernel
theorem test_readSupply :
    (after (.readSupply 1) lane).link.reply.map Reply.fields =
      some (.supply false 24 none 24 { drawer := 0, cutter := 0, motor := 0, head := 0 }
        { drawer := none, cutter := none, motor := none, head := none }) := by
  decide +kernel

/-- R151: a CUT is added where none stands. -/
theorem test_printText :
    (after (.printText 1 [.feed 1]) lane).link.reply.map Reply.fields = some (.printText 1 2 94) := by
  decide +kernel
theorem test_printerClear : statusAfter (.printerClear 1) lane = some .ok := by decide +kernel
theorem test_readPrintQueue :
    (after (.readPrintQueue 1) lane).link.reply.map Reply.fields = some (.printQueue [] false 96 1) := by
  decide +kernel
theorem test_readPrinter :
    (after (.readPrinter 1) lane).link.reply.map Reply.fields =
      some (.printer .idle Causes.none false 25 .c 0 2500 .rest none none none 0 0 0) := by
  decide +kernel

/-- R198: `drawer_alarm_s` takes 5 for 3, and `bag_band` takes 10 for 11. -/
theorem test_set :
    (after (.set 1 21 (.number 3)) lane).link.reply.map Reply.status = some .adjusted ∧
      (after (.set 1 21 (.number 3)) lane).store.live.drawerAlarmS = 5 ∧
      (after (.set 1 6 (.number 11)) lane).store.live.bagBand = 10 := by
  decide +kernel
theorem test_get :
    (after (.get 1 34) lane).link.reply.map Reply.fields = some (.setting 34 (.number 38400)) := by
  decide +kernel
theorem test_saveSettings : (after (.saveSettings 1) lane).link.dispatch = .writing 0x2B 1 := by decide +kernel
theorem test_restart : (after (.restart 1) lane).link.restart = .asked := by decide +kernel
theorem test_identify : statusAfter (.identify 1) lane = some .ok := by decide +kernel
theorem test_unknownRequest :
    (after (.unknownRequest 0x40 9 []) lane).link.reply.map (fun r => (r.kind, r.status)) =
      some (0x80, .unknownRequest) := by
  decide +kernel

/-- A lane whose engine prints the last rows of a FEED line of a TEXT job. -/
def printingLane : State :=
  { lane with
    queue :=
      { jobs :=
          [{ id := 30, kind := .text, state := .printing, reasons := Causes.none, lineCount := 2, cursor := 1
             records := [.feed 2, .cut], saleNumber := none, settings := none }]
        nextJobId := 31 }
    engine :=
      { lane.engine with
        condition := .printing
        line := some { record := .feed 2, rowsDone := 0, spacing := 6, interrupted := false }
        row := some
          { dots := 0, newLeft := 0, histLeft := 0, newTime := 640, histTime := 480, pauseMark := false, stepsDone := 1 }
        stepRunning := some 2500 }
    supply := { lane.supply with granted := { drawer := 0, cutter := 0, motor := 3, head := 0 } } }

/-- A lane whose cutter is cutting the last line of that job. -/
def cuttingLane : State :=
  { printingLane with
    queue := { jobs := printingLane.queue.jobs.map fun j => { j with cursor := 2 }, nextJobId := 31 }
    engine :=
      { printingLane.engine with
        cutter := .cutting, cutTimer := some 1000, seenAway := true, row := none, stepRunning := none
        line := some { record := .cut, rowsDone := 64, spacing := 6, interrupted := false } }
    supply := { lane.supply with granted := { drawer := 0, cutter := 8, motor := 0, head := 0 } } }

theorem test_excitationLost : (after (.excitationLost .bag) lane).bag.condition = .fault := by decide +kernel
theorem test_excitationReturn :
    (after (.excitationReturn .bag) { lane with bag := { lane.bag with condition := .fault } }).bag.condition =
      .starting := by
  decide +kernel
/-- A lane with a weigh request in flight. -/
def weighing : State :=
  { openLane with
    scale := { lane.scale with weigh := some { description := word "APPLES", unitPrice := 349, timer := 10000 } } }

theorem test_weighTimerExpiry :
    (after .weighTimerExpiry weighing).link.reports.getLast? =
      some { lostBefore := false, report := .weighDone .timeout none none none } := by
  decide +kernel
theorem test_attendantSwitch : (after (.attendantSwitch true) lane).attendant = true := by decide +kernel
theorem test_bagTimerExpiry :
    (after (.bagTimerExpiry 1) expecting).monitor.exceptions.map BagException.kind = [.itemNotBagged] := by
  decide +kernel
/-- A lane with 20 g unclaimed. -/
def unclaimedLane : State :=
  { openLane with monitor := { lane.monitor with unclaimed := some { amount := 20, grace := 0 } } }

theorem test_graceTimerExpiry : (after .graceTimerExpiry unclaimedLane).monitor.exceptions = [unexpected] := by
  decide +kernel
theorem test_swipeBegin_idle :
    (after (.swipeBegin .alpha) { lane with reader := { lane.reader with gap := .armed } }).reader.decoded = false := by
  decide +kernel
theorem test_fluxTransition :
    (after (.fluxTransition .numeric 404) { openLane with reader :=
      { lane.reader with
        decoded := true
        numeric := { timer := 0, seen := true, decoder := .locked 401 none, bits := [] } } }).reader.numeric =
      { timer := 0, seen := true, decoder := .locked 401 none, bits := [false] } := by
  decide +kernel
theorem test_swipeEnd_arms : (after .swipeEnd lane).reader.gap = .armed := by decide +kernel
theorem test_holdTimerExpiry : (after .holdTimerExpiry heldLane).reader.slot = .empty := by decide +kernel
theorem test_senseChange_forced : (after (.senseChange true) lane).drawer.state = .opened := by decide +kernel
theorem test_pullInEnd :
    (after .pullInEnd (after (.noSale 1) (attended lane))).supply.granted.drawer = 5 := by
  decide +kernel
theorem test_holdEnd :
    (after .holdEnd (after .pullInEnd (after (.noSale 1) (attended lane)))).drawer.state = .cool := by
  decide +kernel
theorem test_pwmPeriodBoundary :
    (after .pwmPeriodBoundary { lane with drawer :=
      { lane.drawer with state := .hold, pendingDuty := 100 } }).drawer.dutyInForce = 100 := by
  decide +kernel
theorem test_coolEnd :
    (after .coolEnd { lane with drawer := { lane.drawer with state := .cool, attempts := 1 } }).drawer.attempts = 2 := by
  decide +kernel
theorem test_alarmTimerExpiry :
    (after .alarmTimerExpiry { lane with drawer :=
      { lane.drawer with state := .opened, alarmTimer := some 0 } }).tone.owner = .drawerAlarm := by
  decide +kernel
theorem test_toggleCounterExpiry :
    (after .toggleCounterExpiry (after (.beep 1 2500 100 1) lane)).tone.level = true := by
  decide +kernel
theorem test_patternStepEnd :
    (after .patternStepEnd (after (.beep 1 2500 100 1) lane)).tone.sounding = false := by
  decide +kernel
theorem test_supplyLow : (after .supplyLow printingLane).engine.condition = .paused := by decide +kernel
theorem test_supplyRecovery :
    (after .supplyRecovery (after .supplyLow lane)).engine.causes = Causes.none := by
  decide +kernel
theorem test_paperSensor : (after (.paperSensor true) printingLane).engine.causes.paperOut = true := by decide +kernel
theorem test_coverSensor : (after (.coverSensor true) printingLane).engine.condition = .paused := by decide +kernel
theorem test_paperLowSensor : (after (.paperLowSensor true) lane).engine.paperLow = true := by decide +kernel
theorem test_headTemperature :
    (after (.headTemperature 65) lane).engine.causes.headHot = true ∧
      (after (.headTemperature 64) lane).engine.causes.headHot = false := by
  decide +kernel
theorem test_phaseEnd_none : (after .phaseEnd printingLane).engine = printingLane.engine := by decide +kernel

/-- Section 9.8: the index after a row that printed is 1, and the next row steps at 1,800 µs. -/
theorem test_stepEnd :
    (after .stepEnd printingLane).engine.speedIndex = 1 ∧
      (after .stepEnd printingLane).engine.stepRunning = some 1800 := by
  decide +kernel
theorem test_homeSensorReturn : (after .homeSensorReturn cuttingLane).queue.jobs = [] := by decide +kernel

/-- Section 9.9: an expired cut timer releases the 8 units and jams the cutter. -/
theorem test_cutTimerExpiry :
    (after .cutTimerExpiry cuttingLane).supply.granted.cutter = 0 ∧
      (after .cutTimerExpiry cuttingLane).engine.condition = .fault := by
  decide +kernel
theorem test_homeSensorAway : (after .homeSensorAway cuttingLane).inputs.cutterHome = false := by decide +kernel

/-- A lane in the middle of a frame of ADD_CASH. -/
def midFrame : State :=
  { lane with link := { lane.link with
    receiver :=
      { phase := .body, len := 6, kind := some 0x10, tag := some 0x17, body := [], check := 0x01, chk := 0 }
    gapTimer := some 20 } }

theorem test_frameGap :
    (after .frameGap midFrame).link.reports.getLast? =
      some { lostBefore := false, report := .linkError .frameGap (some 0x10) (some 0x17) } := by
  decide +kernel
theorem test_lineBreak : (after .lineBreak midFrame).link.receiver.phase = .hunt := by decide +kernel

/-- A good character of a line without parity. -/
def good (b : Byte) : LineChar :=
  charOfLevels .none (sentCharacter .none b)

theorem test_characterReceived : (after (.characterReceived (good 0xA5)) lane).link.receiver.phase = .len := by
  decide +kernel
theorem test_characterReceived_noise :
    (after (.characterReceived { good 0xE8 with data := (good 0xE8).data.set 0 ⟨false, true, false⟩ }) midFrame).link.reports.getLast? =
      some { lostBefore := false, report := .linkError .noise (some 0x10) (some 0x17) } := by
  decide +kernel
theorem test_receiveFrame :
    (after (.receiveFrame [0xA5, 0x02, 0x2D, 0x01, 0x2E, 0x5A]) lane).link.reply.map Reply.kind = some 0xAD := by
  decide +kernel
theorem test_writeEnd : (after .writeEnd (after (.saveSettings 1) lane)).link.dispatch = .free := by decide +kernel

/-- A lane whose reply to a request is being sent. -/
def replying : State :=
  { lane with link := { lane.link with
    reply := some { kind := 0xAD, tag := 1, status := .ok, fields := .empty }, transmitter := .sendingReply } }

theorem test_replySent : (after .replySent replying).link.reply = none := by decide +kernel
theorem test_reportSent :
    (after .reportSent lane).link.transmitter =
      .sendingReport { lostBefore := false, report := .settingsState } := by
  decide +kernel

/-- A lane whose line change is due. -/
def changing (l : State) : State :=
  { l with link := { l.link with lineChangeDue := true, pendingLine := some { rate := 9600, parity := .even } } }

theorem test_lineSettingsChange : (after .lineSettingsChange (changing lane)).link.line.rate = 9600 := by decide +kernel

/-- A lane whose restart is due. -/
def restarting : State := { openLane with link := { lane.link with restart := .due } }

theorem test_restartCarriedOut : (after (.restartCarriedOut nominalLevels) restarting).sale.current = .idle := by
  decide +kernel
theorem test_powerOn_sense : (after (.powerOn { nominalLevels with drawerOpen := true }) lane).drawer.state = .opened := by
  decide +kernel
theorem test_powerLoss : (after .powerLoss (after (.saveSettings 1) lane)).store.image = .cutOff := by decide +kernel

/-- A command that waits is the one step takes. -/
theorem test_step : step { lane with pending := [.attendantSwitch true] } = .next (attended lane) := by rfl

/-- The bits of a good numeric track with twelve digits, and of one with two. -/
def trackBits (digits : List Nat) : List Bool :=
  let bits (v : Nat) : List Bool :=
    let d := (List.range 4).map fun i => v.testBit i
    d ++ [!oddParity d]
  let chars := 11 :: digits ++ [13, 15]
  (chars ++ [chars.foldl (· ^^^ ·) 0]).flatMap bits

/-- A lane at the end of a swipe of a numeric track. -/
def swiped (digits : List Nat) : State :=
  { openLane with reader := { openLane.reader with
    gap := .swipe, decoded := true
    numeric := { timer := 0, seen := true, decoder := .locked 400 none, bits := trackBits digits } } }

/-- A lane with the drawer in a state. -/
def drawerIn (d : DrawerState) (l : State) : State := { l with drawer := { l.drawer with state := d } }

/-- A lane with this many units granted to the head. -/
def headHolds (n : Nat) (l : State) : State :=
  { l with supply := { l.supply with granted := { l.supply.granted with head := n } } }

/-! ### Witnesses: the start and the invariants -/

theorem witness_IdleStepIsOneMillisecond :
    lane.pending = [] ∧ lane.powered = true ∧ (after .powerLoss lane).pending = [] ∧
      (after .powerLoss lane).powered = false := by
  decide +kernel

/-- A lane whose store holds passing copies. -/
def storedLane : State :=
  { lane with store :=
    { lane.store with
      image := .written shortRings shortRings.checkByte
      platterCopy := .written platterRecord platterRecord.checkByte
      bagCopy := .written bagRecord bagRecord.checkByte } }

theorem witness_PowerOnLoadsStore :
    storedLane.store.write = none ∧ storedLane.store.image = .written shortRings shortRings.checkByte ∧
      storedLane.store.platterCopy = .written platterRecord platterRecord.checkByte ∧
      storedLane.store.bagCopy = .written bagRecord bagRecord.checkByte :=
  ⟨rfl, rfl, rfl, rfl⟩

theorem witness_StartWithFailingImage :
    (restarting.store.write = none ∧ ∀ v c, restarting.store.image = .written v c → v.checkByte ≠ c) ∧
      restarting.powered = true ∧ restarting.link.restart = .due :=
  ⟨⟨rfl, fun _ _ h => nomatch h⟩, rfl, rfl⟩

/-- A lane whose store writes. -/
def writing (w : StoreWrite) : State :=
  { lane with store := { lane.store with write := some w }, link := { lane.link with dispatch := .writing 0x2B 1 } }

theorem witness_PowerLossCutsWrite :
    (lane.powered = true ∧ lane.store.write = none) ∧
      (writing (.image shortRings)).store.write = some (.image shortRings) ∧
      (writing (.record .platter platterRecord)).store.write = some (.record .platter platterRecord) ∧
      (writing (.record .bag bagRecord)).store.write = some (.record .bag bagRecord) := by
  decide +kernel

/-- A lane at the bounds: 24 reports, two frames, every unit granted; a report is due. -/
def fullLane : State :=
  { lane with
    pending := [.paperLowSensor true]
    link :=
      { lane.link with
        reports := List.replicate 24 { lostBefore := false, report := .settingsState }
        slots := List.replicate 2 { kind := 0x0E, tag := 1, body := [] } }
    supply :=
      { lane.supply with budget := 24, granted := { drawer := 14, cutter := 0, motor := 3, head := 7 } }
    drawer := { lane.drawer with state := .pullIn } }

theorem witness_StepKeepsBounds :
    fullLane.queuesBounded ∧ fullLane.budgetKept ∧
      (match step fullLane with | .next t => t.link.lost | _ => false) = true := by
  decide +kernel

/-- A command in front of a state's queue. -/
def before (c : Instr) (s : State) : State := { s with pending := [c] }

/-- The next state of a step, or the state itself. -/
def stepped (s : State) : State :=
  match step s with
  | .next t => t
  | _ => s

theorem witness_StepKeepsTotals :
    openLane.totalsAgree ∧ openLane.basketsNumbered ∧
      step (before (.addItem 1 [] (wide 899) none none) openLane) =
        .next (after (.addItem 1 [] (wide 899) none none) openLane) ∧
      (stepped (before (.addItem 1 [] (wide 899) none none) openLane)).basket.length = 2 :=
  ⟨by decide +kernel, by decide +kernel, rfl, by decide +kernel⟩

theorem witness_StepKeepsTenders :
    attachedLane.tendersLawful ∧ attachedLane.closeSound ∧
      (stepped (before (.cardDecision 1 0) attachedLane)).sale ≠ attachedLane.sale := by
  decide +kernel

theorem witness_StepKeepsSlotBound :
    attachedLane.slotBound ∧ (stepped (before (.cardDecision 1 0) attachedLane)).reader.slot = .empty := by
  decide +kernel

theorem witness_StepKeepsHeldTones :
    unclaimedLane.drawerUnits ∧ unclaimedLane.alertFollows ∧ unclaimedLane.alarmFollows ∧
      (stepped (before .graceTimerExpiry unclaimedLane)).tone.bagAlertHeld = true ∧
      (let s := { after (.senseChange true) lane with pending := [.alarmTimerExpiry] }
      s.drawerUnits ∧ s.alertFollows ∧ s.alarmFollows ∧ (stepped s).tone.drawerAlarmHeld = true) := by
  decide +kernel

theorem witness_StepKeepsChannelsSound :
    lane.channelsSound ∧ (stepped (before (.excitationLost .bag) lane)).bag.converterOn = false := by
  decide +kernel

theorem witness_StepKeepsJobs :
    lane.jobsLawful ∧ (stepped (before (.printText 1 [.cut]) lane)).queue.textAndCopy = 1 := by
  decide +kernel

theorem witness_StepKeepsEngineAndDrawer :
    cuttingLane.engineSound ∧ cuttingLane.drawerUnits ∧
      (stepped (before .cutTimerExpiry cuttingLane)).engine.condition = .fault := by
  decide +kernel

/-- A lane with the platter LOCKED and its ring one sample before an empty stable output. -/
def lockedLane : State :=
  { lane with
    platter := steadyChannel platterRecord 102400 102400 0
    scale := { lane.scale with occupancy := .locked } }

theorem witness_LockedPlatterLaw :
    lockedLane.scale.occupancy = .locked ∧
      exec (.sampleArrival .platter 102400) lockedLane = .next (after (.sampleArrival .platter 102400) lockedLane) ∧
      (after (.sampleArrival .platter 102400) lockedLane).scale.occupancy = .empty ∧
      (after (.powerOn nominalLevels) lockedLane).scale.occupancy ≠ .locked :=
  ⟨rfl, rfl, by decide +kernel, by decide +kernel⟩

theorem witness_CardDataLeavesOnce :
    exec (.releaseCard 5) attachedLane = .next (after (.releaseCard 5) attachedLane) ∧
      (after (.releaseCard 5) attachedLane).link.reply =
        some { kind := 0x9D, tag := 5, status := .ok, fields := .cardRelease card mask } ∧
      attachedLane.link.reply = none :=
  ⟨rfl, by decide +kernel, rfl⟩

theorem witness_RefusalChangesNothing :
    handleRequest .beginTender lane = (lane, .reply .badState .empty) ∧ Status.badState ≠ .ok ∧
      Status.badState ≠ .adjusted :=
  ⟨rfl, by decide, by decide⟩

theorem witness_MovedByTheirEventsOnly :
    (after (.attendantSwitch true) lane).attendant ≠ lane.attendant ∧
      (after .writeEnd (writing (.image shortRings))).store.image ≠ (writing (.image shortRings)).store.image ∧
      (after .writeEnd (writing (.record .bag bagRecord))).store.bagCopy ≠ lane.store.bagCopy ∧
      (after .powerLoss (writing (.record .platter platterRecord))).store.platterCopy ≠ lane.store.platterCopy := by
  refine ⟨by decide +kernel, ?_, ?_, by decide +kernel⟩ <;> exact fun h => nomatch h

theorem witness_ChannelsAreIndependent :
    (after (.sampleArrival .platter 1475611) lane).platter ≠ lane.platter ∧
      (after (.sampleArrival .bag 5010) lane).bag ≠ lane.bag ∧
      (after (.excitationLost .platter) lane).platter ≠ lane.platter ∧
      (after (.excitationLost .bag) lane).bag ≠ lane.bag ∧
      (after (.excitationReturn .platter) (after (.excitationLost .platter) lane)).platter.condition = .starting ∧
      (after (.excitationReturn .bag) (after (.excitationLost .bag) lane)).bag.condition = .starting := by
  decide +kernel

/-! ### Witnesses: the link and the settings -/

theorem witness_RequestFrameRoundTrip :
    (Request.addCash 1000).wellFormed = true ∧
      (Request.weighItem (List.replicate 238 0x41) 1 (some 0)).wellFormed = true ∧
      (requestBody (.weighItem (List.replicate 238 0x41) 1 (some 0))).length = 248 := by
  decide +kernel

theorem witness_ReceivedFrameIsTheRequest :
    (Instr.addCash 0x17 1000).request? = some (0x17, .addCash 1000) ∧ (Request.addCash 1000).wellFormed = true ∧
      tenderLane.accepts ∧ tenderLane.link.receiver = Receiver.hunting ∧ tenderLane.link.gapTimer = none ∧
      tenderLane.link.choose = tenderLane.link ∧ (Instr.addCash 0x17 1000).calLevel? = none ∧
      (Instr.calZero false 1 0).calLevel? = some tenderLane.inputs.calEnable := by
  decide +kernel

/-- A lane whose reply is being sent, with frames waiting. -/
def waitingFrames (n : Nat) : State :=
  { replying with link :=
    { replying.link with slots := List.replicate n { kind := 0x0E, tag := 1, body := [] } } }

theorem witness_RequestWaitsOrIsLost :
    (Instr.beginTender 1).request? = some (1, .beginTender) ∧ (Instr.beginTender 1).calLevel? = none ∧
      (Instr.calZero false 2 0).request? = some (2, .calZero 0) ∧
      (Instr.calZero false 2 0).calLevel? = some (waitingFrames 1).inputs.calEnable ∧
      (∀ s ∈ [waitingFrames 0, waitingFrames 1, waitingFrames 2],
        s.powered = true ∧ s.link.dispatchOpen = false ∧ s.link.choose = s.link) ∧
      (waitingFrames 0).link.slots.length < 2 ∧ (waitingFrames 1).link.slots.length < 2 ∧
      (waitingFrames 2).link.slots.length = 2 := by
  decide +kernel

theorem witness_UnknownAndMisfitFramesAnswered :
    lane.accepts ∧ (∀ k ∈ [0x00, 0x2E, 0x3F, 0x40, 0xFF], parseRequest k [] = .unknown) ∧
      parseRequest 0x10 [1, 2, 3] = .badLength ∧ parseRequest 0x2D [0] = .badLength := by
  decide +kernel

/-- A lane whose receiver is in a phase. -/
def inPhase (p : RxPhase) : State :=
  { midFrame with link := { midFrame.link with receiver := { midFrame.link.receiver with phase := p } } }

/-- A lane in the BODY of that frame, with so many bytes of it taken. -/
def inBody (n : Nat) : State :=
  { midFrame with link := { midFrame.link with receiver :=
    { midFrame.link.receiver with body := List.replicate n 0 } } }

/-- A lane in a place of a frame of BEGIN_TENDER with TAG 3, with this CHK. -/
def shortFrame (p : RxPhase) (chk : Byte) (s : State) : State :=
  { s with link := { s.link with receiver :=
    { phase := p, len := 2, kind := some 0x0E, tag := some 3, body := [], check := 0x0D, chk := chk } } }

theorem witness_GoodCharacterIsTaken :
    lane.powered = true ∧ lane.link.choose = lane.link ∧ lane.link.line.parity = .none ∧
      (∀ b ∈ [(0xA5 : Byte), 0x5A, 2, 250, 0x0D], judgeChar .none (good b) = .ok b) ∧
      lane.link.receiver.phase = .hunt ∧
      (∀ p ∈ [RxPhase.len, .kind, .tag, .chk], (inPhase p).link.receiver.phase = p ∧ (inPhase p).powered = true ∧
        (inPhase p).link.choose = (inPhase p).link ∧ (inPhase p).link.line.parity = .none ∧
        (inPhase p).link.receiver.len ≠ 2) ∧
      (inBody 0).link.receiver.body.length + 1 ≠ (inBody 0).link.receiver.len - 2 ∧
      (inBody 3).link.receiver.body.length + 1 = (inBody 3).link.receiver.len - 2 ∧
      (∀ n ∈ [0, 3], (inBody n).link.choose = (inBody n).link ∧ (inBody n).link.receiver.phase = .body) ∧
      (shortFrame .tag 0 lane).link.receiver.len = 2 ∧ (shortFrame .tag 0 lane).link.choose = (shortFrame .tag 0 lane).link := by
  decide +kernel

theorem witness_GoodCharacterIsTaken_end :
    (∀ s ∈ [shortFrame .eof 0x0D lane, shortFrame .eof 0x0D (waitingFrames 1), shortFrame .eof 0x0D (waitingFrames 2)],
      s.powered = true ∧ s.link.choose = s.link ∧ s.link.receiver.phase = .eof ∧
        s.link.receiver.chk = s.link.receiver.check ∧ s.link.receiver.kind = some 0x0E ∧
        s.link.receiver.tag = some 3 ∧ judgeChar s.link.line.parity (good 0x5A) = .ok 0x5A) ∧
      (∀ p ∈ [Parity.even, .odd], judgeChar p (charOfLevels p (sentCharacter p 0xA7)) = .ok 0xA7) ∧
      (shortFrame .eof 0x0D lane).link.dispatchOpen = true ∧ (shortFrame .eof 0x0D lane).link.slots = [] ∧
      (shortFrame .eof 0x0D (waitingFrames 1)).link.dispatchOpen = false ∧
      (shortFrame .eof 0x0D (waitingFrames 1)).link.slots.length < 2 ∧
      (shortFrame .eof 0x0D (waitingFrames 2)).link.dispatchOpen = false ∧
      (shortFrame .eof 0x0D (waitingFrames 2)).link.slots.length = 2 := by
  decide +kernel

theorem witness_FrameEndsInError :
    midFrame.powered = true ∧ midFrame.link.choose = midFrame.link ∧ midFrame.link.receiver.phase ≠ .hunt ∧
      judgeChar midFrame.link.line.parity { good 0xE8 with data := (good 0xE8).data.set 0 ⟨false, true, false⟩ } =
        .error .noise ∧
      judgeChar lane.link.line.parity { good 0 with stop := ⟨false, false, false⟩ } = .error .framing ∧
      lane.link.choose = lane.link ∧ lane.link.receiver.phase = .hunt ∧
      (inPhase .len).link.receiver.phase = .len ∧ (inPhase .len).link.choose = (inPhase .len).link ∧
      (∀ b ∈ [(1 : Byte), 251, 0x5A, 0x5B], judgeChar .none (good b) = .ok b) ∧
      (shortFrame .eof 0x0C lane).link.receiver.chk ≠ (shortFrame .eof 0x0C lane).link.receiver.check ∧
      (shortFrame .eof 0x0D lane).link.receiver.chk = (shortFrame .eof 0x0D lane).link.receiver.check ∧
      (∀ c ∈ [(0x0C : Byte), 0x0D], (shortFrame .eof c lane).link.choose = (shortFrame .eof c lane).link) := by
  decide +kernel

theorem witness_WriteEndAnswersDeferred :
    ∀ w ∈ [StoreWrite.image shortRings, .record .platter platterRecord, .record .bag bagRecord],
      (writing w).powered = true ∧ (writing w).link.dispatch = .writing 0x2B 1 ∧ (writing w).link.reply = none ∧
        (writing w).link.lineChangeDue = false ∧ (writing w).link.restart = .none ∧ (writing w).store.write = some w := by
  decide +kernel

/-- A lane that sends with these reports, frames, restart stage, pending line and reply. -/
def sending (t : Transmitter) (reply : Option Reply) (reports : List QueuedReport) (slots : List Frame)
    (restart : RestartStage) (line : Option LineSettings) : State :=
  { lane with link :=
    { lane.link with
      transmitter := t, reply := reply, reports := reports, slots := slots, restart := restart, pendingLine := line } }

/-- A report. -/
def queued : QueuedReport := { lostBefore := false, report := .settingsState }

theorem witness_SendingEnds :
    lane.powered = true ∧ lane.link.lineChangeDue = false ∧
      (sending .sendingReply none [] [] .none none).link.slots = [] ∧
      (sending .sendingReply none [queued] [] .none none).link.reports = [queued] ∧
      (sending .sendingReply none [] [{ kind := 0x0E, tag := 1, body := [] }] .none none).link.dispatch = .free ∧
      (sending .sendingReply none [] [] .asked none).link.restart = .asked ∧
      (sending .sendingReply none [] [] .none (some { rate := 9600, parity := .even })).link.pendingLine =
        some { rate := 9600, parity := .even } ∧
      (sending (.sendingReport queued) replying.link.reply [] [] .none none).link.transmitter = .sendingReport queued ∧
      (sending (.sendingReport queued) none [] [] .none none).link.reply = none ∧
      (sending (.sendingReport queued) none [queued] [] .none none).link.reports = [queued] := by
  decide +kernel

theorem witness_LineChangesAfterReply :
    ∀ s ∈ [changing lane, changing midFrame],
      s.powered = true ∧ s.link.lineChangeDue = true ∧ s.link.pendingLine = some { rate := 9600, parity := .even } ∧
        s.link.slots = [] ∧ s.link.restart = .none := by
  decide +kernel

theorem witness_LineChangesAfterReply_phases :
    (changing lane).link.receiver.phase = .hunt ∧ (changing midFrame).link.receiver.phase ≠ .hunt := by
  decide +kernel

/-- A lane with a SET taken from what the setting holds. -/
def witnessSet (id : Nat) (v x : Int) : Bool :=
  (match settingKind id with
    | some k => takenNumber k v == some x
    | none => false) && lane.store.live.get id != some (.number x)

theorem witness_SetAndGet :
    lane.accepts ∧
      (∀ y ∈ [(6, 0, 1), (6, 11, 10), (21, 3, 5), (21, 121, 120), (33, 24, 24), (14, 0, 0), (16, 0, 0), (20, 100, 100),
        (22, 15, 16), (22, 41, 40), (34, 9600, 9600), (35, 1, 1)], witnessSet y.1 y.2.1 y.2.2 = true) ∧
      settingKind 0 = some (.member [50, 100, 200] 100) ∧ lane.store.live.get 22 = some (.number 24) ∧
      lane.reader.gap = .swipe ∧ (swiped []).reader.decoded = true ∧ (swiped []).accepts ∧
      (∀ d ∈ [DrawerState.opened, .openAlarm, .closed], (drawerIn d lane).drawer.state = d ∧
        (drawerIn d lane).accepts) ∧
      lane.supply.granted.total = 0 ∧ (16 : Int) ≠ lane.supply.budget ∧ (headHolds 1 lane).supply.granted.total ≠ 0 ∧
      lane.supply.waiting = { drawer := none, cutter := none, motor := none, head := none } ∧
      (List.replicate 32 (0x41 : Byte)).length ≤ 32 ∧ 32 < (List.replicate 33 (0x41 : Byte)).length ∧
      36 ≤ (36 : Byte).toNat ∧ (35 : Byte).toNat < 36 := by
  decide +kernel

theorem witness_SetAndGet_senseOn :
    (let s : State := { lane with
      drawer := { lane.drawer with senseOpen := true }
      store := { lane.store with live := { shortRings with drawerSensePresent := false } } }
    s.accepts ∧ s.store.live.get 16 ≠ some (.number 1) ∧ (settingKind 16).bind (takenNumber · 1) = some 1 ∧
      s.drawer.senseOpen = true ∧ s.drawer.state = .closed) := by
  decide +kernel

theorem witness_StoreRequests : lane.accepts := by decide +kernel

theorem witness_SetRestartsChannel :
    lane.accepts ∧
      (∀ y ∈ [(0, 50, 50), (1, 200, 200), (2, 8, 8), (3, 32, 32), (4, 32, 32), (5, 3, 4)],
        ((settingKind y.1).bind (takenNumber · y.2.1)) = some y.2.2) ∧
      (∀ y ∈ [(0, 50), (1, 200), (2, 8), (3, 32), (4, 32), (5, 32)],
        lane.store.live.get y.1 ≠ some (.number y.2)) ∧
      lane.store.live.get 5 = some (.number 4) ∧ lane.platter.condition ≠ .fault ∧ lane.bag.condition ≠ .fault ∧
      (after (.excitationLost .platter) lane).accepts ∧
      (after (.excitationLost .platter) lane).platter.condition = .fault := by
  decide +kernel

/-! ### Witnesses: scale and sale -/

/-- A lane with no calibration. -/
def bareLane : State := { State.reset with store := { State.reset.store with live := shortRings } }

theorem witness_ReadsOfScaleAndSale :
    lane.accepts ∧ lane.platter.condition = .ready ∧
      lane.platter.latest = some { filtered := 1475611, fineGross := some 45774, saturated := .no, stable := true } ∧
      bareLane.accepts ∧ bareLane.platter.condition ≠ .ready ∧ bareLane.bag.condition ≠ .ready ∧
      lane.bag.condition = .ready ∧
      lane.bag.latest = some { filtered := 5000, fineGross := some 400, saturated := .no, stable := true } ∧
      lane.sale.current = .idle ∧ openLane.accepts ∧ openLane.sale.current = .opened record305 ∧
      attachedLane.accepts ∧ attachedLane.sale.current = .tender record305Card ∧
      (findEntry 1 record305.basket).isSome = true ∧ findEntry 2 record305.basket = none ∧
      (record305Card.tenders[(1 : Byte).toNat - 1]?).isSome = true ∧ record305Card.tenders.length < (2 : Byte).toNat := by
  decide +kernel

/-- A lane at an unstable output. -/
def shaking : State :=
  { lane with
    platter := { lane.platter with
      latest := some { filtered := 1475611, fineGross := some 45774, saturated := .no, stable := false } } }

theorem witness_TareRequests :
    weighing.accepts ∧ weighing.scale.weigh ≠ none ∧ lane.scale.weigh = none ∧
      lane.platter.record.profileInForce = .a ∧ roundAway ((wide 7500).toInt * 10) 20 * 20 = 75000 ∧
      75000 ≤ Profile.a.max / 2 ∧ Profile.a.max / 2 < roundAway ((wide 7501).toInt * 10) 20 * 20 ∧
      (wide (-1)).toInt < 0 ∧ bareLane.scale.weigh = none ∧ bareLane.platter.condition ≠ .ready ∧
      shaking.accepts ∧ (shaking.platter.latest.map FilterOutput.stable) = some false ∧
      (roundAway 45774 20 * 20 = 45780 ∧ 0 < roundAway 45774 20 * 20 ∧ 45780 ≤ Profile.a.max / 2) ∧
      roundAway 9 20 * 20 ≤ 0 ∧ Profile.a.max / 2 < roundAway 75010 20 * 20 := by
  decide +kernel

/-- A lane whose platter drifted by 10 tenths and whose bag drifted by 40. -/
def drifted : State :=
  { lane with
    platter := { steadyChannel platterRecord 102400 102700 10 with powerUpZero := some 102400 }
    bag := { steadyChannel bagRecord 1000 1400 40 with powerUpZero := some 1000 } }

/-- A lane whose platter found no zero at power-up, at this many counts from cal_zero. -/
def zeroless (counts : Int) : State :=
  { lane with platter :=
    { steadyChannel platterRecord 102400 (102400 + counts) (counts / 30) with
      condition := .noZero, powerUpZero := none } }

theorem witness_ZeroTakesReading :
    drifted.accepts ∧ drifted.platter.condition = .ready ∧ drifted.platter.powerUpZero = some 102400 ∧
      drifted.platter.record.valid .platter = true ∧
      ((102700 - 102400 : Int).natAbs : Int) * 100000 ≤ channelMax .platter platterRecord / 50 * 3000000 ∧
      drifted.scale.weigh = none ∧ drifted.scale.tareT = 0 ∧ drifted.bag.condition = .ready ∧
      drifted.bag.record.valid .bag = true ∧
      ((1400 - 1000 : Int).natAbs : Int) * 100000 ≤ channelMax .bag bagRecord / 50 * 1000000 ∧
      channelMax .bag bagRecord / 50 * 1000000 < ((1000 + 60001 - 1000 : Int).natAbs : Int) * 100000 ∧
      (zeroless 450000).accepts ∧ (zeroless 450000).platter.record.calZero = some 102400 ∧
      ((450000 : Int).natAbs : Int) * 100000 ≤ channelMax .platter platterRecord / 10 * 3000000 ∧
      channelMax .platter platterRecord / 10 * 3000000 < ((450001 : Int).natAbs : Int) * 100000 := by
  decide +kernel

theorem witness_ZeroTakesReading_refused :
    bareLane.accepts ∧ bareLane.platter.condition ∈ [ChannelCondition.uncalibrated, .starting, .fault] ∧
      weighing.accepts ∧ weighing.platter.condition = .ready ∧ weighing.scale.weigh ≠ none ∧ shaking.accepts ∧
      (shaking.platter.latest.map FilterOutput.stable) = some false ∧ shaking.scale.weigh = none ∧
      shaking.scale.tareT = 0 ∧
      (let s : State := { lane with scale := { lane.scale with tareT := 20 } }
      s.accepts ∧ s.scale.weigh = none ∧ s.scale.tareT ≠ 0) ∧ 2 ≤ (2 : Byte).toNat := by
  decide +kernel

theorem witness_CalibrationSteps :
    lane.accepts ∧ lane.bag.condition ≠ .fault ∧ lane.platter.condition ≠ .fault ∧ lane.scale.weigh = none ∧
      lane.bag.latest = some { filtered := 5000, fineGross := some 400, saturated := .no, stable := true } ∧
      lane.platter.latest = some { filtered := 1475611, fineGross := some 45774, saturated := .no, stable := true } ∧
      lane.bag.record.calZero = some 1000 ∧ lane.platter.record.calZero = some 102400 ∧
      50000 ≤ (1475611 : Int) - 102400 ∧ (5000 : Int) - 1000 < 50000 ∧
      channelMax .bag bagRecord ≤ 10 * ((wide 3000).toInt * 10) ∧
      (wide 30000).toInt * 10 ≤ channelMax .bag bagRecord ∧
      10 * ((wide 2999).toInt * 10) < channelMax .bag bagRecord ∧
      channelMax .bag bagRecord < (wide 30001).toInt * 10 := by
  decide +kernel

theorem witness_CalibrationSteps_refused :
    weighing.accepts ∧ weighing.scale.weigh ≠ none ∧ (after (.excitationLost .bag) lane).accepts ∧
      (after (.excitationLost .bag) lane).bag.condition = .fault ∧
      (after (.excitationLost .platter) lane).accepts ∧
      (after (.excitationLost .platter) lane).platter.condition = .fault ∧
      (after (.excitationLost .platter) lane).scale.weigh = none ∧ shaking.accepts ∧
      (shaking.platter.latest.map FilterOutput.stable) = some false ∧ bareLane.accepts ∧
      bareLane.platter.record.calZero = none ∧ bareLane.platter.condition ≠ .fault ∧ bareLane.scale.weigh = none ∧
      (2 : Byte).toNat ≤ 2 ∧ 2 ≤ (2 : Byte).toNat ∧ 3 ≤ (3 : Byte).toNat := by
  decide +kernel

theorem witness_WeighRequestLife :
    openLane.accepts ∧ openLane.sale.current = .opened record305 ∧ openLane.platter.condition = .ready ∧
      openLane.scale.weigh = none ∧ 1 ≤ (wide 1).toInt ∧ (wide 999999).toInt ≤ 999999 ∧
      (List.replicate 24 (0x41 : Byte)).length ≤ 24 ∧ record305.basket.length < 120 ∧ 0 ≤ (wide 0).toInt ∧
      roundAway ((wide 7500).toInt * 10) 20 * 20 ≤ Profile.a.max / 2 ∧
      ({ bareLane with sale := openLane.sale } : State).platter.condition = .uncalibrated ∧
      ({ bareLane with sale := openLane.sale } : State).accepts ∧ weighing.accepts ∧ weighing.scale.weigh.isSome = true := by
  decide +kernel

/-- A lane whose platter is in a condition. -/
def conditioned (k : ChannelCondition) : State :=
  { lane with platter :=
    { lane.platter with
      condition := k, powerUpZero := if k = .starting then none else lane.platter.powerUpZero } }

theorem witness_SamplesFillTheRing :
    lane.powered = true ∧ (after (.excitationLost .bag) lane).bag.converterOn = false ∧
      State.reset.bag.converterOn = true ∧ 0 < State.reset.bag.settling ∧
      ({ State.reset.bag with settling := 0, filterRing := List.replicate 30 0 } : Channel).filterRing.length + 1 <
        filterLen Settings.defaults .bag ∧
      (∀ s ∈ [conditioned .starting, conditioned .ready, conditioned .noZero, conditioned .uncalibrated],
        s.powered = true ∧ s.platter.converterOn = true ∧ s.platter.settling = 0 ∧
          s.platter.filterRing.length = filterLen s.store.live .platter ∧ 0 < filterLen s.store.live .platter ∧
          s.platter.filterSum = sumOf s.platter.filterRing ∧ 0 < stableLen s.store.live .platter ∧
          s.platter.stabilityRing.length ≤ stableLen s.store.live .platter ∧ s.scale.weigh = none ∧
          s.platter.record.valid .platter = true ∧ s.platter.zeroRef = some 102400) ∧
      (conditioned .starting).platter.powerUpZero = none ∧ (conditioned .ready).platter.powerUpZero ≠ none ∧
      lane.bag.filterRing.length = filterLen lane.store.live .bag ∧ lane.bag.condition = .ready ∧
      lane.sale.current = .idle := by
  decide +kernel

/-- Each way a platter output can go is met: READY, OVERLOAD and UNDERLOAD by the range test, the power-up zero, NO_ZERO,
and a correction by zero tracking. -/
theorem witness_SamplesFillTheRing_outputs :
    (after (.sampleArrival .platter 1475611) (conditioned .ready)).platter.condition = .ready ∧
      (after (.sampleArrival .platter 1475611) (conditioned .ready)).scale.occupancy = .loaded ∧
      (after (.sampleArrival .platter 8388607) (conditioned .ready)).platter.condition = .overload ∧
      (after (.sampleArrival .platter (-8388608)) (conditioned .ready)).platter.condition = .underload ∧
      (after (.sampleArrival .platter 1475611) (conditioned .starting)).platter.condition = .noZero ∧
      (let s : State := { conditioned .starting with platter :=
        { steadyChannel platterRecord 102400 102700 10 with condition := .starting, powerUpZero := none } }
      (after (.sampleArrival .platter 102700) s).platter.powerUpZero = some 102700) ∧
      (let s : State := { lane with platter :=
        { steadyChannel platterRecord 102400 102700 10 with powerUpZero := some 102400, trackingCount := 31 } }
      (after (.sampleArrival .platter 102700) s).platter.zeroRef = some 102700) ∧
      (after (.sampleArrival .bag 5000) lane).settledS = some 40 := by
  decide +kernel

/-- A lane with the platter at 400 tenths, the minimum. -/
def minimumLane : State :=
  { weighing with platter := steadyChannel platterRecord 102400 114400 400 }

theorem witness_WeighCompletes :
    minimumLane.powered = true ∧ minimumLane.steady .platter 114400 400 ∧ minimumLane.scale.weigh.isSome = true ∧
      minimumLane.sale.current = .opened record305 ∧ minimumLane.scale.occupancy ≠ .locked ∧
      minimumLane.monitor.unclaimed = none ∧ (∀ e ∈ record305.basket, e.number ≠ record305.basket.length + 1) ∧
      record305.basket.length < 120 ∧ minimumLane.platter.record.profileInForce = .a ∧
      legalRound .a (400 - 0) = 400 ∧ 10 * Profile.a.e1 < 400 ∧ 20 * Profile.a.e1 ≤ 400 ∧ (400 : Int) ≤ Profile.a.max ∧
      (40 * 349 + 500) / 1000 ≤ 9999999 ∧ record305.total + (40 * 349 + 500) / 1000 ≤ 99999999 := by
  decide +kernel

/-- The lane at the minimum with another scale, another total and another price. -/
def minimumWith (occupancy : Occupancy) (tare total price : Int) : State :=
  { minimumLane with
    scale := { tareT := tare, occupancy := occupancy, weigh := some { description := [], unitPrice := price, timer := 1 } }
    sale := { current := .opened { record305 with total := total }, closed := none } }

/-- A weigh request of 15,000 g at 9,999.99 a kilogram. -/
def dearLane : State :=
  { minimumWith .empty 0 0 999999 with platter := steadyChannel platterRecord 102400 4602400 150000 }

/-- The request stays for a LOCKED load and below the minimum; a price or a total too large ends it. -/
theorem witness_WeighCompletes_otherwise :
    (∀ s ∈ [minimumWith .locked 0 0 349, minimumWith .empty 20 0 349, minimumWith .empty 0 99999986 349],
      s.powered = true ∧ s.steady .platter 114400 400 ∧ s.scale.weigh.isSome = true) ∧
      (after (.sampleArrival .platter 114400) (minimumWith .locked 0 0 349)).scale.weigh.isSome = true ∧
      legalRound .a (400 - 20) < 20 * Profile.a.e1 ∧ dearLane.steady .platter 4602400 150000 ∧
      9999999 < (15000 * (999999 : Int) + 500) / 1000 ∧ legalRound .a 150000 = 150000 ∧
      99999999 < (99999986 : Int) + (40 * 349 + 500) / 1000 := by
  decide +kernel

/-- A lane that waits for entry 1, with the bag 20 g above what was settled. -/
def arriving : State := { expecting with settledS := some 20 }

/-- A lane with entry 1 in a status, these exceptions and expectations, this unclaimed delta and this S. -/
def holding (st : BaggingStatus) (xs : List BagException) (es : List Expectation) (u : Option Unclaimed) (sOld : Int) :
    State :=
  { expecting with
    sale := { expecting.sale with
      current := .opened { record305Pending with basket := record305Pending.basket.map fun e => { e with status := st } } }
    monitor := { lane.monitor with expectations := es, exceptions := xs, unclaimed := u }
    settledS := some sOld }

/-- A lane with `bag_grace` 0 and so many exceptions held. -/
def graceless (n : Nat) : State :=
  { holding .none (List.replicate n { unexpected with kind := .itemNotBagged }) [] none 20 with
    store := { lane.store with live := { shortRings with bagGrace := 0 } } }

theorem witness_BagChangeMeetsExpectation :
    lane.powered = true ∧ lane.steady .bag 5000 400 ∧ roundAway 400 50 * 5 = 40 ∧ lane.settledS = some 20 ∧
      lane.sale.current = .idle ∧ (40 - 30 : Int).natAbs ≤ lane.store.live.bagThreshold ∧
      arriving.steady .bag 5000 400 ∧ arriving.sale.current = .opened record305Pending ∧
      arriving.monitor.suspended = false ∧ arriving.monitor.exceptions = [] ∧
      arriving.monitor.expectations = [expectation] ∧ expectation.direction = .add ∧
      (findEntry expectation.entry record305Pending.basket).isSome = true ∧
      arriving.store.live.bagThreshold < (40 - 20 : Int).natAbs ∧
      ((40 - 20 - expectation.weight : Int)).natAbs ≤ expectation.tolerance := by
  decide +kernel

/-- Each candidate of R80 is met: ITEM_REMOVED, UNKNOWN_REMOVAL, an expectation, the unclaimed delta, UNEXPECTED_ITEM of
a `bag_grace` of 0, and SUSPENDED with eight exceptions held. -/
theorem witness_BagChangeMeetsExpectation_up :
    (∀ s ∈ [holding .removed [{ unexpected with kind := .itemRemoved, entry := some 1 }] [] none 20,
        holding .none [{ unexpected with kind := .unknownRemoval, delta := some (-20) }] [] none 20,
        holding .pending [{ unexpected with kind := .itemNotBagged, entry := some 1, delta := none }] [expectation]
          none 20],
      s.powered = true ∧ s.steady .bag 5000 400 ∧ s.monitor.suspended = false ∧
        (after (.sampleArrival .bag 5000) s).monitor.exceptions = []) ∧
      ((after (.sampleArrival .bag 5000) (holding .none [] [] none 20)).monitor.unclaimed.map Unclaimed.amount) =
        some 20 ∧
      ((after (.sampleArrival .bag 5000)
        (holding .none [] [] (some { amount := 65530, grace := 1 }) 20)).monitor.unclaimed.map Unclaimed.amount) =
        some 65535 ∧
      (after (.sampleArrival .bag 5000)
        (holding .pending [] [{ expectation with weight := 100 }] (some { amount := 80, grace := 1 })
          20)).monitor.expectations = [] ∧
      (after (.sampleArrival .bag 5000) (graceless 7)).monitor.exceptions.length = 8 ∧
      (after (.sampleArrival .bag 5000) (graceless 8)).monitor.suspended = true := by
  decide +kernel

/-- Each candidate of R83 is met: the unclaimed delta, UNEXPECTED_ITEM, a REMOVE expectation, a BAGGED entry and
UNKNOWN_REMOVAL. -/
theorem witness_BagChangeMeetsExpectation_down :
    (∀ s ∈ [holding .none [] [] (some { amount := 20, grace := 1 }) 60, holding .none [unexpected] [] none 60,
        holding .awaitRemoval [] [{ expectation with direction := .remove }] none 60],
      s.powered = true ∧ s.steady .bag 5000 400 ∧
        (let m := (after (.sampleArrival .bag 5000) s).monitor
        m.unclaimed = none ∧ m.exceptions = [] ∧ m.expectations = [])) ∧
      ((after (.sampleArrival .bag 5000) (holding .bagged [] [] none 60)).monitor.exceptions.map
        fun x => (x.kind, x.entry, x.delta)) = [(.itemRemoved, some 1, some (-20))] ∧
      ((after (.sampleArrival .bag 5000) (holding .none [] [] none 60)).monitor.exceptions.map
        fun x => (x.kind, x.entry, x.delta)) = [(.unknownRemoval, none, some (-20))] := by
  decide +kernel

theorem witness_ExcitationRules :
    lane.powered = true ∧ lane.platter.condition ≠ .fault ∧ lane.bag.condition ≠ .fault ∧ lane.scale.weigh = none ∧
      weighing.platter.condition ≠ .fault ∧ weighing.scale.weigh ≠ none ∧
      (after (.excitationLost .platter) lane).platter.condition = .fault ∧
      (after (.excitationLost .bag) lane).bag.condition = .fault := by
  decide +kernel

theorem witness_SaleOpensAndMoves :
    lane.accepts ∧ lane.sale.current = .idle ∧ 1 ≤ (wide 1).toInt ∧ (wide 9999999).toInt ≤ 9999999 ∧
      lane.store.live.drawerCloseRequired = false ∧
      (let s : State := { lane with
        store := { lane.store with live := { shortRings with drawerCloseRequired := true } }
        drawer := { lane.drawer with state := .opened } }
      s.store.live.drawerSensePresent = true ∧ s.drawer.state ≠ .closed ∧ s.accepts) ∧
      (wide 0).toInt < 1 ∧ 9999999 < (wide 10000000).toInt ∧ openLane.sale.current = .opened record305 ∧
      openLane.monitor.outstanding = false ∧ 0 ≤ record305.total ∧ expecting.monitor.outstanding = true ∧
      ({ record305 with total := -1 } : SaleRecord).total < 0 ∧ tenderLane.sale.current = .tender record305 ∧
      record305.tenders = [] ∧ record305Card.tenders ≠ [] ∧ tenderLane.sale.current ≠ .idle := by
  decide +kernel

theorem witness_SaleOpensAndMoves_elsewhere :
    (∀ x, tenderLane.sale.current ≠ .opened x) ∧ (∀ x, openLane.sale.current ≠ .tender x) :=
  ⟨fun _ h => (nomatch h), fun _ h => (nomatch h)⟩

theorem witness_ItemsAppendedAndVoided :
    openLane.accepts ∧ openLane.sale.current = .opened record305 ∧ record305.basket.length < 120 ∧
      (List.replicate 24 (0x41 : Byte)).length ≤ 24 ∧ -9999999 ≤ (wide (-9999999)).toInt ∧
      (wide 9999999).toInt ≤ 9999999 ∧ record305.total + (wide 9999999).toInt ≤ 99999999 ∧
      1 ≤ (1 : Half).toNat ∧ (30000 : Half).toNat ≤ 30000 ∧ (2000 : Half).toNat ≤ 2000 ∧
      openLane.monitor.unclaimed = none ∧ (∀ e ∈ record305.basket, e.number ≠ record305.basket.length + 1) ∧
      unclaimedLane.accepts ∧ unclaimedLane.monitor.unclaimed = some { amount := 20, grace := 0 } ∧
      (attended openLane).attendant = true ∧
      ((findEntry (1 : Byte).toNat record305.basket).map fun e => (e.kind, e.voided, e.status)) =
        some (.scanned, false, .none) ∧ openLane.attendant = false := by
  decide +kernel

/-- An entry. -/
def entry305 : Entry :=
  { number := 1, kind := .scanned, description := [], amount := 1, voided := false, voids := none, weighing := none
    expected := none, tolerance := none, status := .none }

/-- The refusals are met, and a void of an entry in each status. -/
theorem witness_ItemsAppendedAndVoided_rest :
    (let full := { record305 with basket := List.replicate 120 entry305 }
    let s : State := attended { openLane with sale := { current := .opened full, closed := none } }
    s.accepts ∧ statusAfter (.addItem 1 [] (wide 1) none none) s = some .queueFull ∧
      statusAfter (.voidEntry 1 1) s = some .queueFull) ∧
      (let s : State := attended
        { openLane with sale := { current := .opened { record305 with total := 99999999 }, closed := none } }
      statusAfter (.addItem 1 [] (wide 1) none none) s = some .limit) ∧
      statusAfter (.addItem 1 [] (wide 1) none (some 5)) openLane = some .badValue ∧
      statusAfter (.addItem 1 [] (wide 1) none none) lane = some .badState ∧
      statusAfter (.voidEntry 1 2) (attended openLane) = some .notFound ∧
      (∀ y ∈ [(BaggingStatus.pending, BaggingStatus.cleared), (.overdue, .cleared), (.removed, .cleared),
          (.bagged, .awaitRemoval), (.waived, .waived)],
        let s := attended (holding y.1 [{ unexpected with
          kind := if y.1 = .removed then .itemRemoved else .itemNotBagged, entry := some 1 }] [] none 20)
        s.accepts ∧ statusOf 1 (after (.voidEntry 1 1) s) = y.2 ∧
          (after (.voidEntry 1 1) s).monitor.exceptions.isEmpty = (y.2 == .cleared)) := by
  decide +kernel

theorem witness_TendersTaken :
    tenderLane.accepts ∧ tenderLane.sale.current = .tender record305 ∧ record305.tenders.length < 8 ∧
      1 ≤ (wide 1).toInt ∧ (wide 99999999).toInt ≤ 99999999 ∧ (wide 0).toInt < 1 ∧
      99999999 < (wide 100000000).toInt ∧
      8 ≤ (List.replicate 8 ({ kind := .cash, amount := 1, state := .accepted, masked := none } : Tender)).length ∧
      heldLane.accepts ∧ heldLane.reader.slot = .held card mask 60000 ∧ record305.cardPending = false ∧
      (wide 129).toInt ≤ record305.total - sumOf (record305.tenders.map Tender.amount) ∧
      record305.total - sumOf (record305.tenders.map Tender.amount) < (wide 130).toInt ∧
      tenderLane.reader.slot.isHeld = false ∧ attachedLane.accepts ∧ record305Card.cardPending = true ∧
      2 ≤ (2 : Byte).toNat := by
  decide +kernel

theorem witness_TendersTaken_elsewhere : ∀ x, openLane.sale.current ≠ .tender x := fun _ h => nomatch h

/-- A lane in TENDER whose sale is paid in cash. -/
def paidLane : State :=
  { lane with sale :=
    { current := .tender { record305 with
        tenders := [{ kind := .cash, amount := 129, state := .accepted, masked := none }] }
      closed := some { sale305 with receipt := .done } } }

theorem witness_SaleEnds :
    paidLane.accepts ∧ paidLane.sale.current.state = .tender ∧
      (paidLane.sale.current.record?.map fun r =>
        (r.cardPending, decide (r.total ≤ sumOf (r.tenders.map Tender.amount)), r.tenders.any fun x => x.kind == .cash)) =
        some (false, true, true) ∧
      paidLane.monitor.outstanding = false ∧ (∀ c ∈ paidLane.sale.closed.toList, c.receipt ≠ .pending) ∧
      (∀ j ∈ paidLane.queue.jobs, j.kind ≠ .copy) ∧ paidLane.queue.jobs = [] ∧
      paidLane.engine.causes.held = false ∧
      paidLane.supply.waiting = { drawer := none, cutter := none, motor := none, head := none } ∧
      paidLane.drawer.state = .closed ∧ (drawerIn .opened paidLane).accepts ∧
      (drawerIn .opened paidLane).drawer.state ≠ .closed ∧ (attended tenderLane).accepts ∧
      (attended tenderLane).attendant = true ∧ record305.tenders = [] ∧ (attended openLane).accepts ∧
      lane.sale.current = .idle := by
  decide +kernel

theorem witness_SaleEnds_refused :
    statusAfter (.closeSale 1) openLane = some .badState ∧ attachedLane.accepts ∧ record305Card.cardPending = true ∧
      statusAfter (.closeSale 1) { paidLane with monitor := { lane.monitor with exceptions := [unexpected] } } =
        some .exceptionPending ∧
      statusAfter (.closeSale 1) tenderLane = some .badValue ∧
      statusAfter (.closeSale 1) { paidLane with sale :=
        { paidLane.sale with closed := some { sale305 with receipt := .pending } } } = some .printerBacklog ∧
      statusAfter (.abandonSale 1) openLane = some .notAttended ∧
      statusAfter (.abandonSale 1) (attended paidLane) = some .badState ∧
      statusAfter (.abandonSale 1) lane = some .badState := by
  decide +kernel

/-- A lane whose closed slot holds sale 305 with this receipt state. -/
def closedLane (r : ReceiptState) : State :=
  { lane with sale := { current := .idle, closed := some { sale305 with receipt := r } } }

/-- A TEXT job. -/
def textJob30 : Job :=
  { id := 30, kind := .text, state := .queued, reasons := Causes.none, lineCount := 1, cursor := 1, records := [.cut]
    saleNumber := none, settings := none }

theorem witness_ReprintByReceiptState :
    lane.accepts ∧ lane.sale.closed = none ∧ (closedLane .pending).accepts ∧
      (closedLane .pending).sale.closed.map ClosedSale.receipt = some .pending ∧
      (closedLane .done).sale.closed.map ClosedSale.receipt = some .done ∧ (closedLane .done).queue.textAndCopy < 3 ∧
      3 ≤ ({ jobs := List.replicate 3 textJob30, nextJobId := 31 } : PrintQueue).textAndCopy ∧
      (closedLane .aborted).accepts ∧
      (closedLane .aborted).sale.closed.map ClosedSale.receipt = some .aborted := by
  decide +kernel

/-- The closed sale of the manual's example meets the bounds, and a receipt job of it has receipt settings. -/
theorem witness_ReprintByReceiptState_lines :
    (∀ a ∈ sale305.record.total :: sale305.changeDue :: sale305.record.tenders.map Tender.amount ++
        sale305.record.basket.map Entry.amount, a.natAbs ≤ 799999992) ∧ sale305.record.number ≤ 9999999 ∧
      (∀ e ∈ sale305.record.basket, ∀ w ∈ e.weighing,
        w.netG.natAbs ≤ 799999992 ∧ w.tareG.natAbs ≤ 799999992 ∧ w.unitPrice.natAbs ≤ 799999992) ∧
      (receiptJob .copy sale305 lane).settings.isSome = true := by
  decide +kernel

/-! ### Witnesses: bagging, card, drawer, tone, supply, printer -/

theorem witness_ReadsOfBlocks :
    expecting.accepts ∧ 1 ≤ (1 : Byte).toNat ∧ (1 : Byte).toNat ≤ expecting.monitor.expectations.length ∧
      lane.monitor.expectations.length = 0 ∧ lane.accepts ∧ (0 : Byte).toNat = 0 ∧
      expecting.monitor.expectations.length < (2 : Byte).toNat := by
  decide +kernel

/-- A lane with an exception held and the alert sounding. -/
def excepted (n : Nat) : State :=
  { attended expecting with
    monitor := { expecting.monitor with exceptions := List.replicate n unexpected }
    tone := { expecting.tone with bagAlertHeld := true } }

theorem witness_BaggingRequests :
    expecting.accepts ∧ expecting.attendant = false ∧ expecting.sale.current = .opened record305Pending ∧
      (excepted 1).accepts ∧ (excepted 1).attendant = true ∧
      ((excepted 1).monitor.exceptions.find? fun y => y.id == (1 : Byte).toNat) = some unexpected ∧
      unexpected.kind ≠ .itemNotBagged ∧
      ((excepted 1).monitor.exceptions.find? fun y => y.id == (2 : Byte).toNat) = none ∧
      (excepted 1).sale.current = .opened record305Pending ∧
      ((findEntry (1 : Byte).toNat record305Pending.basket).map fun e => e.status.waivable) = some true ∧
      (excepted 1).bag.condition = .ready ∧ (attended bareLane).accepts ∧ (attended bareLane).bag.condition ≠ .ready := by
  decide +kernel

/-- A lane whose entry 1 awaits removal. -/
def removing : State :=
  { expecting with
    sale := { expecting.sale with
      current := .opened { record305 with basket := record305.basket.map fun e => { e with status := .awaitRemoval } } }
    monitor := { expecting.monitor with expectations := [{ expectation with direction := .remove }] } }

theorem witness_BagTimers :
    lane.powered = true ∧ (lane.monitor.expectations.all fun x => x.entry != 1 || x.timer.isNone) = true ∧
      expectation ∈ expecting.monitor.expectations ∧ expectation.entry = 1 ∧ expectation.timer.isSome = true ∧
      expecting.sale.current = .opened record305Pending ∧
      ((findEntry 1 record305Pending.basket).map Entry.status) = some .pending ∧
      (removing.basket.map Entry.status) = [.awaitRemoval] ∧
      (removing.monitor.expectations.map fun x => (x.entry, x.timer.isSome)) = [(1, true)] ∧
      expecting.monitor.exceptions.length < 8 ∧ (excepted 7).monitor.exceptions.length < 8 ∧
      8 ≤ (excepted 8).monitor.exceptions.length ∧ lane.monitor.unclaimed = none ∧
      unclaimedLane.monitor.unclaimed = some { amount := 20, grace := 0 } := by
  decide +kernel

theorem witness_CardSlotRequests :
    attachedLane.accepts ∧ attachedLane.reader.slot = .attached card mask ∧ heldLane.accepts ∧
      heldLane.reader.slot = .held card mask 60000 ∧ (after (.releaseCard 1) attachedLane).powered = true ∧
      (after (.releaseCard 1) attachedLane).reader.slot = .released .numeric mask ∧
      (let s : State := { attachedLane with reader := { attachedLane.reader with slot := .released .numeric mask } }
      s.accepts) ∧ lane.accepts ∧ lane.reader.slot = .empty := by
  decide +kernel

/-- A lane in a decoded swipe with the decoder of one head in a state and so many bits held. -/
def track (h : HeadId) (d : Decoder) (n : Nat) : State :=
  let x : Track := { timer := 0, seen := true, decoder := d, bits := List.replicate n false }
  { swiped [] with reader :=
    { (swiped []).reader with
      numeric := if h = .numeric then x else (swiped []).reader.numeric
      alpha := if h = .alpha then x else (swiped []).reader.alpha } }

theorem witness_SwipeRules :
    lane.powered = true ∧ (after .swipeEnd lane).reader.gap = .armed ∧ lane.reader.gap = .swipe ∧
      lane.reader.decoded = false ∧ (swiped []).reader.decoded = true ∧ (swiped []).reader.numeric.seen = true ∧
      (swiped []).reader.numeric.decoder = .locked 400 none ∧ (swiped []).reader.numeric.timer = 0 ∧
      (swiped []).reader.numeric.bits.length < 1024 ∧ (swiped card.digits).reader.slot.takesCard = true ∧
      (∀ d ∈ [Decoder.seeking [], .seeking [1, 1, 40, 40, 40], .seeking [1, 1, 65535, 1, 1], .locked 400 (some 200),
          .clockLost 400, .tooLong 400],
        (track .numeric d 1024).reader.numeric.decoder = d ∧ (track .alpha d 1023).reader.alpha.decoder = d ∧
          (track .alpha d 1023).reader.alpha.seen = true ∧ (track .alpha d 1023).reader.decoded = true ∧
          (track .numeric d 1024).reader.numeric.bits.length = 1024) := by
  decide +kernel

theorem witness_SwipeRules_verdicts :
    accountOf ((swiped card.digits).reader.numeric.result .numeric) ((swiped card.digits).reader.alpha.result .alpha) =
        .good card.digits .numeric ∧
      accountOf ((swiped [4, 2]).reader.numeric.result .numeric) ((swiped [4, 2]).reader.alpha.result .alpha) =
        .bad .accountLength (some .numeric) ∧
      (let s : State := { swiped card.digits with reader :=
        { (swiped card.digits).reader with slot := .attached card mask } }
      s.powered = true ∧ s.reader.slot.takesCard = false ∧
        accountOf (s.reader.numeric.result .numeric) (s.reader.alpha.result .alpha) = .good card.digits .numeric) := by
  decide +kernel

theorem witness_DrawerIsKicked :
    lane.accepts ∧ lane.attendant = false ∧ (attended openLane).attendant = true ∧ (attended openLane).accepts ∧
      (attended openLane).sale.current ≠ .idle ∧ (attended lane).sale.current = .idle ∧ (attended lane).quietSupply ∧
      (attended lane).drawer.state = .closed ∧
      14 ≤ (headHolds 10 (attended lane)).supply.budget - (headHolds 10 (attended lane)).supply.granted.total ∧
      (headHolds 11 (attended lane)).supply.budget - (headHolds 11 (attended lane)).supply.granted.total < 14 ∧
      (∀ d ∈ [DrawerState.opened, .openAlarm, .waitSupply, .pullIn, .hold, .cool, .jammed],
        (drawerIn d (attended lane)).drawer.state = d ∧ (drawerIn d (attended lane)).accepts) := by
  decide +kernel

/-- A lane whose drawer drives: the state, the attempts, the sense and the units. -/
def driving (d : DrawerState) (attempts : Nat) (isOpen : Bool) (units : Nat) : State :=
  { lane with
    drawer := { lane.drawer with state := d, attempts := attempts, senseOpen := isOpen, phaseTimer := some 0 }
    supply := { lane.supply with granted := { lane.supply.granted with drawer := units } } }

theorem witness_DriveRunsItsPhases :
    (∀ s ∈ [driving .pullIn 1 false 14, driving .hold 1 false 5, driving .hold 2 false 5, driving .hold 1 true 5,
        driving .cool 1 false 0],
      s.powered = true ∧ s.quietSupply) ∧
      (driving .pullIn 1 false 14).drawer.senseOpen = false ∧ lane.store.live.drawerHoldMs ≠ 0 ∧
      lane.store.live.drawerSensePresent = true ∧ (driving .hold 1 false 5).drawer.attempts = 1 ∧
      (driving .hold 2 false 5).drawer.attempts ≠ 1 ∧ (driving .cool 1 false 0).supply.granted.drawer = 0 ∧
      14 ≤ (headHolds 10 (driving .cool 1 false 0)).supply.budget -
        (headHolds 10 (driving .cool 1 false 0)).supply.granted.total ∧
      ({ shortRings with drawerSensePresent := false } : Settings).drawerSensePresent = false ∧
      (driving .cool 1 false 0).drawer.state ≠ .pullIn ∧ (driving .cool 1 false 0).drawer.state ≠ .hold ∧
      (driving .hold 1 false 5).drawer.state ≠ .cool := by
  decide +kernel

theorem witness_SenseAndAlarm :
    lane.powered = true ∧ lane.drawer.senseOpen = false ∧ lane.store.live.drawerSensePresent = true ∧
      lane.drawer.state = .closed ∧ (driving .opened 0 true 0).drawer.senseOpen = true ∧
      (driving .opened 0 true 0).drawer.state = .opened ∧ (driving .opened 0 true 0).powered = true ∧
      (after (.senseChange true) lane).drawer.alarmTimer ≠ none ∧ lane.tone.owner ≠ .drawerAlarm ∧
      lane.tone.sounding = false ∧ lane.drawer.state ≠ .opened := by
  decide +kernel

/-- A tone that sounds for an owner. -/
def sounding (o : ToneOwner) (pending : Option Nat) : Tone :=
  { lane.tone with
    owner := o, sounding := true, position := some { step := 0, remaining := 0 }, pendingHalf := pending }

theorem witness_ToneIsSounded :
    lane.powered = true ∧ lane.accepts ∧ lane.tone.drawerAlarmHeld = false ∧ lane.tone.bagAlertHeld = false ∧
      lane.tone.owner = .none ∧ lane.tone.sounding = false ∧ 500 ≤ (500 : Half).toNat ∧ (4000 : Half).toNat ≤ 4000 ∧
      10 ≤ (10 : Half).toNat ∧ (2000 : Half).toNat ≤ 2000 ∧ 1 ≤ (1 : Byte).toNat ∧ (5 : Byte).toNat ≤ 5 ∧
      (excepted 1).accepts ∧ (excepted 1).tone.bagAlertHeld = true ∧ (sounding .cardBeep none).owner = .cardBeep ∧
      (sounding .cardBeep none).pendingHalf = none ∧ (sounding .cardBeep (some 200)).pendingHalf = some 200 ∧
      (sounding .cardBeep none).position = some { step := 0, remaining := 0 } ∧
      (sounding .drawerAlarm none).owner = .drawerAlarm ∧
      (sounding .drawerAlarm none).position = some { step := 0, remaining := 0 } := by
  decide +kernel

/-- A lane in SUPPLY_LOW; with a drawer that waits. -/
def lowLane (d : DrawerState) (w : Option Nat) : State :=
  { drawerIn d (after .supplyLow lane) with supply :=
    { (after .supplyLow lane).supply with waiting := { drawer := w, cutter := none, motor := none, head := none } } }

theorem witness_SupplyFallsAndRecovers :
    lane.powered = true ∧ lane.engine.condition = .idle ∧ lane.supply.low = false ∧
      lane.engine.causes.supplyLow = false ∧ (lowLane .closed none).powered = true ∧
      (lowLane .closed none).engine.condition = .idle ∧ (lowLane .closed none).supply.low = true ∧
      (lowLane .closed none).engine.causes.supplyLow = true ∧ (lowLane .closed none).drawer.state ≠ .waitSupply ∧
      (lowLane .waitSupply (some 14)).drawer.state = .waitSupply ∧
      (lowLane .waitSupply (some 14)).supply.waiting =
        { drawer := some 14, cutter := none, motor := none, head := none } ∧
      14 ≤ (headHolds 10 (lowLane .waitSupply (some 14))).supply.budget -
        (headHolds 10 (lowLane .waitSupply (some 14))).supply.granted.total := by
  decide +kernel

/-- A lane whose cleared line has a phase running on 4 units under a pending budget of 32; with a drawer that waits. -/
def pendingBudget (d : DrawerState) (w : Option Nat) (cutter : Nat) : State :=
  { drawerIn d lane with
    engine := { lane.engine with phase := some { dots := 0, duration := 640 }, abandoned := true }
    store := { lane.store with live := { shortRings with supplyBudget := 32 } }
    supply := { lane.supply with
      granted := { drawer := 0, cutter := cutter, motor := 0, head := 4 }
      waiting := { drawer := w, cutter := none, motor := none, head := none } } }

theorem witness_SupplyFallsAndRecovers_budget :
    (∀ s ∈ [pendingBudget .closed none 0, pendingBudget .closed none 8, pendingBudget .waitSupply (some 14) 0],
      s.powered = true ∧ s.engine.condition = .idle ∧ s.engine.phase.isSome = true ∧ s.engine.abandoned = true ∧
        s.engine.line = none ∧ s.store.live.supplyBudget = 32 ∧ 32 ≠ s.supply.budget ∧ s.supply.low = false) ∧
      (after .phaseEnd (pendingBudget .closed none 0)).supply.budget = 32 ∧
      (after .phaseEnd (pendingBudget .closed none 8)).supply.budget = 24 ∧
      (after .phaseEnd (pendingBudget .waitSupply (some 14) 0)).drawer.state = .pullIn := by
  decide +kernel

/-- A lane in FAULT with the cutter JAMMED. -/
def jammedLane : State := after .cutTimerExpiry cuttingLane

theorem witness_PrintTextAndClear :
    lane.accepts ∧ linesOfArgs [.feed 1] = some [.feed 1] ∧ ([LineRecord.feed 1].getLast? = some .cut) = False ∧
      linesOfArgs (List.replicate 48 .cut) = some (List.replicate 48 .cut) ∧
      (List.replicate 48 LineRecord.cut).length ≤ 48 ∧ lane.queue.jobs = [] ∧ lane.engine.condition = .idle ∧
      lane.engine.causes.held = false ∧ jammedLane.accepts ∧ jammedLane.engine.condition = .fault ∧
      3 ≤ ({ jobs := List.replicate 3 textJob30, nextJobId := 31 } : PrintQueue).textAndCopy ∧
      jammedLane.inputs.cutterHome = true ∧ (after .homeSensorAway jammedLane).inputs.cutterHome = false := by
  refine ⟨by decide +kernel, by decide +kernel, by simp, ?_⟩
  decide +kernel

theorem witness_PrinterSensors :
    printingLane.powered = true ∧ printingLane.engine.condition = .printing ∧
      printingLane.engine.causes.paperOut = false ∧ printingLane.queue.jobs.length = 1 ∧ lane.powered = true ∧
      lane.engine.causes.coverOpen = false ∧ lane.engine.condition = .idle ∧ lane.engine.causes.headHot = false ∧
      (after (.coverSensor true) lane).engine.causes.coverOpen = true ∧
      (after (.coverSensor true) lane).engine.condition = .idle ∧
      (after (.headTemperature 65) lane).engine.causes.headHot = true ∧ (55 : Int) < 56 ∧ (64 : Int) < 65 ∧
      lane.engine.paperLow ≠ true := by
  decide +kernel

/-- A lane stopped by these causes in a line, or with its row still in progress. -/
def stopped (c : Causes) (l : LineProgress) (inRow : Bool) : State :=
  { lane with
    queue :=
      { jobs :=
          [{ id := 30, kind := .text, state := .paused, reasons := c, lineCount := 2, cursor := 1
             records := [l.record, .cut], saleNumber := none, settings := none }]
        nextJobId := 31 }
    engine :=
      { lane.engine with
        condition := .paused, causes := c, line := some l
        row := if inRow then printingLane.engine.row else none } }

/-- The cover open alone. -/
def coverAlone : Causes := { Causes.none with coverOpen := true }

/-- A TEXT line after its third row, interrupted or not. -/
def textLine (interrupted : Bool) : LineProgress :=
  { record := .text [] false false false .left, rowsDone := 3, spacing := 6, interrupted := interrupted }

theorem witness_PrinterSensors_resumption :
    (∀ s ∈ [stopped coverAlone (textLine true) false, stopped coverAlone (textLine false) false,
        stopped coverAlone { textLine false with rowsDone := 0 } false,
        stopped coverAlone { textLine false with record := .cut, rowsDone := 64 } false,
        headHolds 0 (stopped coverAlone (textLine false) true)],
      s.powered = true ∧ s.engine.condition = .paused ∧ (s.queue.jobs.map Job.state) = [.paused] ∧
        s.engine.causes = coverAlone ∧ s.engine.cutter = .rest ∧ s.engine.abandoned = false ∧ s.quietSupply ∧
        s.drawer.state ≠ .waitSupply ∧ s.supply.granted.total = 0 ∧
        (after (.coverSensor false) s).engine.condition = .printing) ∧
      ((after (.coverSensor false) (stopped coverAlone (textLine true) false)).engine.line.map
        LineProgress.rowsDone) = some 0 ∧
      ((after (.coverSensor false) (stopped coverAlone (textLine false) false)).engine.line.map
        LineProgress.rowsDone) = some 3 ∧
      8 ≤ lane.supply.budget - lane.supply.granted.drawer := by
  decide +kernel

theorem witness_PrinterSensors_paused :
    (∀ s ∈ [stopped { Causes.none with headHot := true } (textLine false) false,
        stopped { Causes.none with headHot := true } (textLine false) true],
      s.powered = true ∧ s.engine.condition = .paused ∧ s.engine.causes.coverOpen = false) ∧
      ((after (.coverSensor true)
        (stopped { Causes.none with headHot := true } (textLine false) false)).engine.line.map
        LineProgress.interrupted) = some true ∧
      (stopped { coverAlone with headHot := true } (textLine false) false).engine.causes.coverOpen = true ∧
      ({ Causes.none with headHot := true } : Causes).held = true ∧
      (let s : State := { stopped coverAlone { textLine false with record := .cut, rowsDone := 64 } false with
        supply := { lane.supply with budget := 16, granted := { drawer := 14, cutter := 0, motor := 0, head := 0 } }
        store := { lane.store with live := { shortRings with supplyBudget := 16 } } }
      s.quietSupply ∧ s.supply.budget - s.supply.granted.drawer < 8 ∧
        (after (.coverSensor false) s).engine.cutter = .waiting) := by
  decide +kernel

/-- The printing lane at its last strobe phase, and at its first step. -/
def phaseLane : State :=
  { printingLane with
    engine := { printingLane.engine with
      phase := some { dots := 0, duration := 640 }, stepRunning := none
      row := printingLane.engine.row.map fun r => { r with stepsDone := 0 } }
    supply := { lane.supply with granted := { drawer := 0, cutter := 0, motor := 0, head := 4 } } }

theorem witness_RowRunsToItsEnd :
    (∀ s ∈ [phaseLane, printingLane],
      s.powered = true ∧ s.quietSupply ∧ s.drawer.state ≠ .waitSupply ∧ s.engine.abandoned = false ∧
        s.engine.row.isSome = true ∧ s.engine.line.isSome = true ∧
        3 ≤ s.supply.budget - (s.supply.granted.drawer + s.supply.granted.cutter)) ∧
      phaseLane.engine.phase.isSome = true ∧ phaseLane.supply.granted.motor = 0 ∧
      (phaseLane.engine.row.map fun r => (r.newLeft, r.histLeft)) = some (0, 0) ∧
      printingLane.engine.stepRunning = some 2500 ∧ printingLane.supply.granted.motor = 3 ∧
      printingLane.supply.granted.head = 0 ∧ (printingLane.engine.row.map RowProgress.stepsDone) = some 1 ∧
      0 + 1 < lineRows (.feed 2) 6 ∧ printingLane.engine.condition = .printing ∧ printingLane.engine.cutter = .rest ∧
      (printingLane.engine.row.map RowProgress.pauseMark) = some false ∧ printingLane.engine.phase = none ∧
      phaseLane.engine.stepRunning = none := by
  decide +kernel

/-- The printing lane at the end of a phase with these dots left and these units held by the drawer and the cutter. -/
def dotsLeft (new hist : Dots) (drawer cutter budget : Nat) : State :=
  { phaseLane with
    engine := { phaseLane.engine with
      row := phaseLane.engine.row.map fun r => { r with newLeft := new, histLeft := hist } }
    supply := { phaseLane.supply with
      budget := budget, granted := { drawer := drawer, cutter := cutter, motor := 0, head := 2 } }
    store := { lane.store with live := { shortRings with supplyBudget := budget } } }

/-- The example of section 7.7: 80 history dots find 2 units free and 64 of them are strobed; with none free the head
waits. -/
theorem witness_RowRunsToItsEnd_dots :
    (∀ s ∈ [dotsLeft 0 ((1 <<< 80) - 1) 14 0 16, dotsLeft 1 0 5 0 24, dotsLeft 1 1 14 8 22, dotsLeft 0 1 14 8 22,
        dotsLeft 0 0 14 0 16],
      s.powered = true ∧ s.quietSupply ∧ s.drawer.state ≠ .waitSupply ∧ s.engine.abandoned = false ∧
        s.engine.phase.isSome = true ∧ s.engine.line.isSome = true) ∧
      (after .phaseEnd (dotsLeft 0 ((1 <<< 80) - 1) 14 0 16)).supply.granted.head = 2 ∧
      ((after .phaseEnd (dotsLeft 0 ((1 <<< 80) - 1) 14 0 16)).engine.phase.map fun p => countDots p.dots) = some 64 ∧
      (after .phaseEnd (dotsLeft 1 0 5 0 24)).supply.granted.head = 1 ∧
      (after .phaseEnd (dotsLeft 1 1 14 8 22)).supply.waiting.head = some 1 ∧
      (after .phaseEnd (dotsLeft 0 1 14 8 22)).supply.waiting.head = some 1 ∧
      (after .phaseEnd (dotsLeft 0 0 14 0 16)).supply.waiting.motor = some 3 := by
  decide +kernel

/-- The printing lane paused by its head, before its row has ended. -/
def pausedLane : State := after (.headTemperature 65) printingLane

theorem witness_RowRunsToItsEnd_paused :
    pausedLane.engine.condition = .paused ∧ (pausedLane.engine.row.map RowProgress.pauseMark) = some true ∧
      pausedLane.engine.causes.paperOut = false ∧ pausedLane.engine.causes.coverOpen = false ∧ pausedLane.quietSupply ∧
      pausedLane.supply.granted.motor = 3 ∧ pausedLane.engine.stepRunning = some 2500 := by
  decide +kernel

theorem witness_CutCycleEnds :
    cuttingLane.powered = true ∧ cuttingLane.quietSupply ∧ cuttingLane.drawer.state ≠ .waitSupply ∧
      cuttingLane.engine.cutter = .cutting ∧ cuttingLane.engine.seenAway = true ∧
      cuttingLane.engine.condition = .printing ∧ cuttingLane.engine.abandoned = false ∧
      (cuttingLane.queue.jobs.map fun j => (j.kind, j.cursor, j.lineCount)) = [(.text, 2, 2)] ∧
      lane.engine.cutter ≠ .cutting ∧ lane.engine.condition ≠ .fault ∧ lane.quietSupply ∧
      (let s := after (.printerClear 1) (after .homeSensorAway jammedLane)
      s.engine.condition = .fault ∧ s.engine.clearTaken = true ∧ s.queue.jobs = [] ∧ s.quietSupply ∧
        s.powered = true) := by
  decide +kernel

/-! ### Witnesses: the clauses that widen the statements above -/

/-- The minimum is met while an unclaimed delta of so many grams is held. -/
def unclaimedMinimum (g : Nat) : State :=
  { minimumLane with monitor := { minimumLane.monitor with unclaimed := some { amount := g, grace := 5 } } }

theorem witness_WeighCompletes_unclaimed :
    (unclaimedMinimum 55).powered = true ∧ (unclaimedMinimum 55).steady .platter 114400 400 ∧
      max lane.store.live.bagTolAbs (40 * lane.store.live.bagTolPct / 100) = 15 ∧
      (after (.sampleArrival .platter 114400) (unclaimedMinimum 55)).monitor.unclaimed = none ∧
      ((after (.sampleArrival .platter 114400) (unclaimedMinimum 55)).basket.map Entry.status) = [.none, .bagged] ∧
      ((after (.sampleArrival .platter 114400) (unclaimedMinimum 56)).basket.map Entry.status) = [.none, .pending] ∧
      (after (.sampleArrival .platter 114400) (unclaimedMinimum 56)).monitor.unclaimed.isSome = true := by
  decide +kernel

/-- An exception that names entry 1. -/
def overdue1 : BagException := { id := 1, kind := .itemNotBagged, entry := some 1, delta := none }

/-- The attended lane with entry 1 in a status in OPEN or TENDER, and the exceptions given. -/
def baggingIn (inTender : Bool) (st : BaggingStatus) (xs : List BagException) : State :=
  let r : SaleRecord := { record305Pending with
    basket := record305Pending.basket.map fun e => { e with status := st } }
  { attended (excepted 0) with
    sale := { current := if inTender then .tender r else .opened r, closed := none }
    monitor := { expecting.monitor with exceptions := xs } }

theorem witness_BaggingRequests_all :
    (∀ s ∈ [baggingIn false .pending [overdue1], baggingIn true .overdue [overdue1], baggingIn true .pending []],
      s.accepts ∧ s.attendant = true ∧ (after (.waiveBagging 1 1) s).monitor.exceptions = [] ∧
        ((after (.waiveBagging 1 1) s).basket.map Entry.status) = [.waived]) ∧
      ((baggingIn false .overdue [overdue1]).monitor.exceptions.find? fun y => y.id == (1 : Byte).toNat) =
        some overdue1 ∧
      (findEntry 1 (baggingIn false .overdue [overdue1]).basket).isSome = true ∧
      ((after (.clearException 1 1) (baggingIn false .overdue [overdue1])).basket.map Entry.status) = [.waived] ∧
      statusAfter (.waiveBagging 1 1) (baggingIn false .bagged []) = some .badState ∧
      statusAfter (.waiveBagging 1 2) (baggingIn true .pending []) = some .notFound ∧
      statusAfter (.waiveBagging 1 1) lane = some .badState ∧
      statusAfter (.waiveBagging 1 1) expecting = some .notAttended := by
  decide +kernel

/-- A driving lane with other settings of the drawer. -/
def drivingWith (d : DrawerState) (attempts : Nat) (isOpen : Bool) (units holdMs : Nat) (present : Bool) : State :=
  { driving d attempts isOpen units with store :=
    { lane.store with live := { shortRings with drawerHoldMs := holdMs, drawerSensePresent := present } } }

theorem witness_DriveRunsItsPhases_ends :
    (∀ x ∈ [(drivingWith .pullIn 1 false 14 0 true, DrawerState.cool), (drivingWith .pullIn 2 false 14 0 true, .jammed),
        (drivingWith .pullIn 1 true 14 200 true, .opened), (drivingWith .pullIn 1 true 14 0 false, .closed),
        (drivingWith .pullIn 1 true 14 200 false, .hold)],
      x.1.powered = true ∧ x.1.quietSupply ∧ (after .pullInEnd x.1).drawer.state = x.2) ∧
      (∀ x ∈ [(drivingWith .hold 1 false 5 200 false, DrawerState.closed), (drivingWith .hold 2 true 5 200 true, .opened)],
        x.1.powered = true ∧ x.1.quietSupply ∧ (after .holdEnd x.1).drawer.state = x.2) ∧
      (∀ x ∈ [(drivingWith .cool 1 false 0 200 false, DrawerState.closed),
          (headHolds 11 (drivingWith .cool 1 false 0 200 true), .waitSupply),
          (headHolds 10 (drivingWith .cool 1 false 0 200 true), .pullIn)],
        x.1.powered = true ∧ x.1.quietSupply ∧ (after .coolEnd x.1).drawer.state = x.2) := by
  decide +kernel

/-- A drawer that waits for supply, alone or with the motor behind it. -/
def waitingDrawer (motor : Option Nat) : State :=
  { driving .waitSupply 1 false 0 with supply :=
    { lane.supply with waiting := { drawer := some 14, cutter := none, motor := motor, head := none } } }

/-- An OPEN_ALARM drawer with a tone. -/
def alarming (x : Tone) : State :=
  { driving .openAlarm 0 true 0 with tone := { x with drawerAlarmHeld := true } }

theorem witness_SenseAndAlarm_states :
    (∀ s ∈ [driving .cool 1 false 0, driving .jammed 2 false 0, waitingDrawer none, waitingDrawer (some 3),
        driving .hold 1 false 5],
      s.powered = true ∧ s.drawer.senseOpen = false ∧ (after (.senseChange true) s).drawer.state = .opened ∧
        (after (.senseChange true) s).supply.waiting.drawer = none ∧
        (after (.senseChange true) s).supply.granted.drawer = 0) ∧
      (after (.senseChange true) (waitingDrawer (some 3))).supply.granted.motor = 3 ∧
      (after (.senseChange true) (driving .pullIn 1 false 14)).drawer.state = .pullIn ∧
      (∀ x ∈ [(sounding .cardBeep none, ToneOwner.cardBeep), (sounding .drawerAlarm none, .none),
          ({ sounding .drawerAlarm none with bagAlertHeld := true }, .bagAlert),
          ({ sounding .drawerAlarm none with bagAlertHeld := true, sounding := false }, .bagAlert)],
        (alarming x.1).powered = true ∧ (alarming x.1).drawer.state = .openAlarm ∧
          (after (.senseChange false) (alarming x.1)).drawer.state = .closed ∧
          (after (.senseChange false) (alarming x.1)).tone.owner = x.2) ∧
      (after (.senseChange false) (driving .hold 1 true 5)).drawer.state = .hold ∧
      ({ after (.senseChange true) lane with tone := sounding .bagAlert none } : State).tone.sounding = true ∧
      (after .alarmTimerExpiry
        { after (.senseChange true) lane with tone := sounding .bagAlert none }).tone.pendingHalf = some 250 := by
  decide +kernel

/-- A PAUSED printing lane with a row whose head phase waits, in SUPPLY_LOW. -/
def lowRow : State :=
  let s := after .supplyLow printingLane
  { s with
    engine := { s.engine with
      stepRunning := none, row := s.engine.row.map fun r => { r with newLeft := 1, stepsDone := 0 } }
    supply := { s.supply with
      granted := { drawer := 0, cutter := 0, motor := 0, head := 0 }
      waiting := { drawer := none, cutter := none, motor := none, head := some 1 } } }

theorem witness_SupplyFallsAndRecovers_printing :
    (after .supplyLow printingLane).engine.condition = .paused ∧ printingLane.supply.low = false ∧
      printingLane.engine.causes.supplyLow = false ∧
      (after .supplyLow printingLane).supply.granted.motor ≤ printingLane.supply.granted.motor ∧
      (after .supplyLow jammedLane).engine.condition = .fault ∧ pausedLane.engine.causes.supplyLow = false ∧
      (after .supplyLow pausedLane).engine.condition = .paused ∧
      (after .supplyRecovery (after .supplyLow pausedLane)).engine.condition = .paused ∧
      ((after .supplyLow pausedLane).queue.jobs.map Job.state) = [.paused] ∧
      (after .supplyLow jammedLane).engine.causes.supplyLow = true ∧
      lowRow.powered = true ∧ lowRow.supply.low = true ∧ lowRow.engine.condition = .paused ∧
      lowRow.drawer.state ≠ .waitSupply ∧ (lowRow.queue.jobs.map Job.state) = [.paused] ∧
      ({ lowRow.engine.causes with supplyLow := false } : Causes).held = false ∧
      (after .supplyRecovery lowRow).engine.condition = .printing ∧
      (after .supplyRecovery lowRow).engine.phase.isSome = true := by
  decide +kernel

/-- A lane in SUPPLY_LOW with a step about to end. -/
def lowStep : State := { after .supplyLow printingLane with pending := [.stepEnd] }

/-- A command whose step ends in SUPPLY_LOW with units granted before it and none after it. -/
theorem witness_SupplyFallsAndRecovers_law :
    step lowStep = .next (after .stepEnd { lowStep with pending := [] }) ∧
      (after .stepEnd { lowStep with pending := [] }).supply.low = true ∧ lowStep.supply.granted.motor = 3 ∧
      (after .stepEnd { lowStep with pending := [] }).supply.granted.motor = 0 :=
  ⟨rfl, by decide +kernel⟩

/-- The causes of the three sensors, in every condition. -/
theorem witness_PrinterSensors_causes :
    (∀ i ∈ [Instr.paperSensor true, .coverSensor true, .headTemperature 65],
      (after i printingLane).engine.condition = .paused ∧ ((after i printingLane).queue.jobs.map Job.state) = [.paused] ∧
        (after i lane).engine.condition = .idle ∧ (after i lane).engine.causes.held = true ∧
        (after i jammedLane).engine.condition = .fault ∧ (after i jammedLane).engine.causes.held = true ∧
        (after i (after .supplyLow printingLane)).engine.condition = .paused) ∧
      (∀ x ∈ [(Instr.paperSensor true, Instr.paperSensor false), (.coverSensor true, .coverSensor false),
          (.headTemperature 65, .headTemperature 55)],
        (after x.2 (after x.1 printingLane)).engine.condition = .printing ∧
          (after x.2 (after x.1 (after .supplyLow printingLane))).engine.condition = .paused ∧
          (after x.2 (after x.1 jammedLane)).engine.causes.held = false ∧
          (after x.2 (after x.1 lane)).engine.causes.held = false) ∧
      ((after (.headTemperature 65) (stopped { Causes.none with paperOut := true } (textLine false) false)).engine.line.map
        LineProgress.interrupted) = some true ∧
      ((after (.headTemperature 65) (stopped { Causes.none with supplyLow := true } (textLine false) false)).engine.line.map
        LineProgress.interrupted) = some false := by
  decide +kernel

/-- A jammed lane whose clear is taken, with a QUEUED job listed and these causes held. -/
def clearedJam (c : Causes) : State :=
  let s := after (.printerClear 1) (after .homeSensorAway jammedLane)
  { s with
    queue := { s.queue with jobs := [{ textJob30 with state := .queued, records := [.feed 2, .cut], lineCount := 2 }] }
    engine := { s.engine with causes := c } }

theorem witness_CutCycleEnds_next :
    (∀ c ∈ [Causes.none, coverAlone],
      (clearedJam c).powered = true ∧ (clearedJam c).quietSupply ∧ (clearedJam c).engine.condition = .fault ∧
        (clearedJam c).engine.clearTaken = true ∧ ((clearedJam c).queue.jobs.map Job.state) = [.queued] ∧
        (clearedJam c).drawer.state ≠ .waitSupply ∧ (clearedJam c).engine.row = none ∧
        (clearedJam c).engine.abandoned = false ∧
        ((clearedJam c).queue.jobs.map fun j => jobLine (clearedJam c) j) = [some (.feed 2)]) ∧
      (after .homeSensorReturn (clearedJam coverAlone)).engine.condition = .paused ∧
      (after .homeSensorReturn (clearedJam Causes.none)).engine.condition = .printing ∧
      (after .homeSensorReturn (clearedJam Causes.none)).engine.row.isSome = true := by
  decide +kernel

/-- Every way a pass ends is met on either format. -/
theorem witness_SwipeRules_passes :
    stripePasses .numeric [] .noStart [] ∧ stripePasses .alpha [false, true, false] .noStart [] ∧
      stripePasses .numeric [true, false, false, false, false] .noStart [] ∧
      stripePasses .numeric [true, true, false, true, true] .parity [] ∧
      stripePasses .numeric (stripe 5 11 0 [4] [true, false, false, false, true]) .parity [] ∧
      stripePasses .alpha (stripe 7 5 1 [16, 17] [false]) .noEnd [] ∧
      stripePasses .numeric (stripe 5 11 0 (List.replicate 39 4) [true]) .tooLong [] ∧
      stripePasses .numeric (stripe 5 11 0 (List.replicate 38 4) (charBits 5 15 ++ [true])) .noEnd [] ∧
      stripePasses .numeric (stripe 5 11 0 [4, 2] (charBits 5 15 ++ [false, false, false, false, true] ++ [])) .lrc [] ∧
      stripePasses .alpha (stripe 7 5 3 [33, 21]
        (charBits 7 31 ++ charBits 7 (lrcOf 5 31 [33, 21]) ++ [false, true])) .good [33, 21] := by
  refine ⟨.blank 0, .short 1 [false] (by decide), .otherStart 0 [false, false, false, false] (by decide) (by decide),
    .startParity 0 [], .parity 0 [4] [true, false, false, false] [] (by unfold ordinary; decide) (by decide) (by decide),
    .noEnd 1 [16, 17] [false] (by unfold ordinary; decide) (by decide) (by decide),
    .tooLong 0 (List.replicate 39 4) [true] (by unfold ordinary; decide) (by decide),
    .noLrc 0 (List.replicate 38 4) [true] (by unfold ordinary; decide) (by decide) (by decide),
    .lrc 0 [4, 2] [false, false, false, false, true] [] (by unfold ordinary; decide) (by decide) (by decide) (by decide),
    .good 3 [33, 21] [false, true] (by unfold ordinary; decide) (by decide)⟩

/-- A track that is read backwards: its bits from the last on are a GOOD pass. -/
def backwards : List Bool := (stripe 5 11 2 [4, 2] (charBits 5 15 ++ charBits 5 (lrcOf 11 15 [4, 2]) ++ [])).reverse

/-- An account of twelve digits that passes the sum, and what each check refuses. -/
theorem witness_SwipeRules_account :
    (let y : Track := { timer := 0, seen := true, decoder := .clockLost 400, bits := backwards }
    y.result .numeric = { status := .good, chars := [4, 2], direction := some .reverse }) ∧
      (let n : TrackData := { status := .good, chars := card.digits ++ [13, 4], direction := some .forward }
      let gone : TrackData := { status := .absent, chars := [], direction := none }
      accountOf n gone = .good card.digits .numeric ∧
        accountOf { n with chars := card.digits } gone = .good card.digits .numeric ∧
        accountOf { n with chars := [4, 2] } gone = .bad .accountLength (some .numeric) ∧
        accountOf { n with chars := List.replicate 11 0 ++ [1] } gone = .bad .accountCheck (some .numeric) ∧
        accountOf { n with chars := [4, 10] } gone = .bad .accountCharacter (some .numeric) ∧
        accountOf gone { n with chars := 34 :: (card.digits.map fun d => d + 16) ++ [62, 33] } =
          .good card.digits .alpha ∧
        accountOf gone gone = .bad .noGoodTrack none) ∧
      maskedOf card.digits = { length := 12, last4 := [1, 1, 1, 4] } := by
  decide +kernel

/-- A lane with these jobs listed and this next job id. -/
def listing (jobs : List Job) (next : Nat) : State := { lane with queue := { jobs := jobs, nextJobId := next } }

/-- The reports queued behind the one that `lane` holds, oldest first. -/
def reportsOf (s : State) : List Report := (s.link.reports.drop 1).map QueuedReport.report

/-- A line record given and the record that R149 to R151 store for it. -/
def stored (x : LineArg) (r : LineRecord) : Prop :=
  match x with
  | .text chars w h b a =>
    chars.length ≤ 32 ∧ w.toNat ≤ 1 ∧ h.toNat ≤ 1 ∧ b.toNat ≤ 1 ∧ a.toNat ≤ 2 ∧ r = .text
      ((chars.take (if w = 1 then 16 else 32)).map fun c => if 0x20 ≤ c.toNat ∧ c.toNat ≤ 0x7E then c else 0x3F)
      (w == 1) (h == 1) (b == 1) (if a = 0 then .left else if a = 1 then .centre else .right)
  | .feed n => 1 ≤ n.toNat ∧ r = .feed n.toNat
  | .cut => r = .cut
  | .unknown _ => False

/-- Each check of R151, the acceptance behind another job and each start on an empty list (R147, R151, R152, R167). -/
theorem witness_PrintTextAndClear_text :
    List.Forall₂ stored [.text [65, 10] 1 0 1 2, .feed 255, .cut]
        [.text [65, 0x3F] true false true .right, .feed 255, .cut] ∧
      (∀ x ∈ [[], List.replicate 49 .cut, [.feed 0], [.cut, .unknown 9], [.text [] 2 0 0 0], [.text [] 0 0 0 3],
          [.text (List.replicate 33 65) 0 0 0 0]],
        statusAfter (.printText 1 x) lane = some .badValue ∧ statusAfter (.printText 1 x) jammedLane = some .badValue) ∧
      statusAfter (.printText 1 [.cut]) jammedLane = some .badState ∧
      (∀ s ∈ [listing (List.replicate 3 textJob30) 31, listing [{ textJob30 with records := List.replicate 96 .cut }] 31],
        s.accepts ∧ s.engine.condition ≠ .fault ∧ statusAfter (.printText 1 [.cut]) s = some .queueFull) ∧
      (let s := listing [{ textJob30 with records := List.replicate 95 .cut }] 29
      s.accepts ∧ statusAfter (.printText 1 [.cut]) s = some .ok ∧
        statusAfter (.printText 1 [.feed 1]) s = some .queueFull ∧
        ((after (.printText 1 [.cut]) s).queue.jobs.map Job.id) = [30, 29] ∧
        (after (.printText 1 [.cut]) s).queue.nextJobId = 31) ∧
      (after (.printText 1 [.cut]) (listing [textJob30] 255)).queue.nextJobId = 1 ∧
      (let s := after (.printText 1 [.feed 1]) (after (.coverSensor true) lane)
      s.engine.condition = .paused ∧ (s.queue.jobs.map Job.state) = [.paused] ∧ s.engine.row = none) ∧
      (let s := after (.printText 1 [.feed 1]) { lane with engine := { lane.engine with abandoned := true } }
      s.engine.condition = .printing ∧ s.engine.line.isSome = true ∧ s.engine.row = none) ∧
      (let s := after (.printText 1 [.feed 1]) lane
      s.engine.condition = .printing ∧ (s.engine.row.map RowProgress.dots) = some (rowDots (.feed 1) 0) ∧
        0 < lineRows (.feed 1) lane.store.live.lineSpacing ∧ lane.quietSupply ∧
        lane.drawer.state ≠ .waitSupply ∧ lane.engine.abandoned = false ∧ lane.engine.row = none ∧
        lane.engine.cutter = .rest) := by
  refine ⟨.cons (by unfold stored; decide) (.cons (by unfold stored; decide) (.cons rfl .nil)), ?_⟩
  decide +kernel

/-- A clear with each request of the engine waiting, alone or behind a drawer that does not fit, and in FAULT with the
blade away and home (R155, R179, R180). -/
theorem witness_PrintTextAndClear_clear :
    (∀ w ∈ [({ drawer := none, cutter := some 8, motor := none, head := none } : Needs),
        { drawer := none, cutter := none, motor := some 3, head := none },
        { drawer := none, cutter := none, motor := none, head := some 1 },
        { drawer := none, cutter := none, motor := none, head := none }],
      let s := { cuttingLane with supply := { cuttingLane.supply with waiting := w } }
      s.accepts ∧ s.engine.condition ≠ .fault ∧ s.drawer.state ≠ .waitSupply ∧
        (after (.printerClear 1) s).supply.waiting = { drawer := none, cutter := none, motor := none, head := none } ∧
        (after (.printerClear 1) s).engine.abandoned = true ∧
        reportsOf (after (.printerClear 1) s) = [.printJob 30 .text .aborted (some .printing) .cleared none none 1 2]) ∧
      (let s := headHolds 12 { waitingDrawer (some 3) with
        queue := pausedLane.queue
        engine := { pausedLane.engine with cutter := .waiting, stepRunning := none } }
      s.accepts ∧ (s.supply.low = true ∨ s.supply.budget - s.supply.granted.total < 14) ∧
        (after (.printerClear 1) s).supply.waiting.drawer = some 14 ∧
        (after (.printerClear 1) s).supply.waiting.motor = none ∧
        (after (.printerClear 1) s).engine.cutter = .rest ∧ (after (.printerClear 1) s).engine.condition = .idle ∧
        reportsOf (after (.printerClear 1) s) =
          [.printJob 30 .text .aborted (some .paused) .cleared none none 0 2,
            .printerState .idle .paused s.engine.causes false .jobEnded none]) ∧
      (∀ s ∈ [jammedLane, after .homeSensorAway jammedLane], s.accepts ∧ s.engine.condition = .fault) ∧
      reportsOf (after (.printerClear 1) jammedLane) =
        [.printerState .fault .printing Causes.none false .jammed none,
          .printJob 30 .text .aborted (some .printing) .cleared none none 1 2,
          .printerState .idle .fault Causes.none false .faultLeft none] := by
  decide +kernel

/-- A lane whose tone output stands in step `k` of a requester's pattern: on in the even steps. -/
def inStep (o : ToneOwner) (b : Option BeepParams) (k : Nat) : State :=
  { lane with tone := { lane.tone with
    owner := o, beep := b, position := some { step := k, remaining := 0 }, sounding := k % 2 == 0 } }

/-- Three beeps of 150 ms at 1,000 Hz (R134). -/
def threeBeeps : BeepParams := { frequency := 1000, onTime := 150, count := 3 }

/-- The step that follows each step of a pattern, with its length in ms, by the table of R134; none at a one-shot's end. -/
theorem witness_ToneIsSounded_patterns :
    (let next : ToneOwner → Option BeepParams → Nat → Option (Nat × Nat) := fun o b k =>
      (after .patternStepEnd (inStep o b k)).tone.position.map fun p => (p.step, p.remaining)
    ([0, 1].map (next .drawerAlarm none)) = [some (1, 500), some (0, 500)] ∧
      ([0, 1, 2, 3, 4, 5].map (next .bagAlert none)) =
        [some (1, 200), some (2, 200), some (3, 200), some (4, 200), some (5, 4000), some (0, 200)] ∧
      ([0, 1, 2, 3, 4].map (next .beep (some threeBeeps))) =
        [some (1, 100), some (2, 150), some (3, 100), some (4, 150), none] ∧
      next .cardBeep none 0 = none) ∧
      (after .patternStepEnd (inStep .bagAlert none 1)).tone.halfPeriod = 167 ∧
      (after .patternStepEnd (inStep .beep (some threeBeeps) 1)).tone.halfPeriod = 500 ∧
      (inStep .beep (some threeBeeps) 4).tone.drawerAlarmHeld = false ∧
      (inStep .beep (some threeBeeps) 4).tone.bagAlertHeld = false := by
  decide +kernel

/-- Each check of R136, and a BEEP that replaces a BEEP in an on part and in a gap. -/
theorem witness_ToneIsSounded_beep :
    (∀ c ∈ [Instr.beep 1 499 100 1, .beep 1 4001 100 1, .beep 1 1000 9 1, .beep 1 1000 2001 1, .beep 1 1000 100 0,
        .beep 1 1000 100 6],
      statusAfter c lane = some .badValue ∧ statusAfter c (excepted 1) = some .badValue) ∧
      statusAfter (.beep 1 1000 100 1) (excepted 1) = some .busy ∧
      (inStep .beep (some threeBeeps) 2).accepts ∧
      (after (.beep 1 800 100 1) (inStep .beep (some threeBeeps) 2)).tone.pendingHalf = some 625 ∧
      (after (.beep 1 1000 100 1) (inStep .beep (some threeBeeps) 2)).tone.pendingHalf = none ∧
      (after (.beep 1 800 100 1) (inStep .beep (some threeBeeps) 1)).tone.halfPeriod = 625 := by
  decide +kernel

/-- A lane with a pending budget of 32; the drawer may wait for its 14 units. -/
def budgetWaits (waits : Bool) (l : State) : State :=
  { l with
    drawer := if waits then { l.drawer with state := .waitSupply } else l.drawer
    store := { l.store with live := { shortRings with supplyBudget := 32 } }
    supply := { l.supply with waiting := { l.supply.waiting with drawer := if waits then some 14 else none } } }

/-- A lane whose line was cleared. -/
def cleared (l : State) : State := { l with engine := { l.engine with abandoned := true, row := none, line := none } }

/-- Every release that empties the grants brings a pending budget into force, and one that leaves units does not (R142). -/
theorem witness_SupplyFallsAndRecovers_releases :
    (∀ x ∈ [(Instr.stepEnd, cleared printingLane), (.stepEnd, pausedLane), (.homeSensorReturn, cuttingLane),
        (.homeSensorReturn, cleared cuttingLane), (.cutTimerExpiry, cuttingLane), (.holdEnd, driving .hold 1 false 5)],
      (budgetWaits false x.2).powered = true ∧ 32 ≠ (budgetWaits false x.2).supply.budget ∧
        (budgetWaits false x.2).drawer.state ≠ .waitSupply ∧
        (after x.1 (budgetWaits false x.2)).supply.budget = 32 ∧
        (after x.1 (budgetWaits false (headHolds 1 x.2))).supply.budget = 24) ∧
      (∀ x ∈ [(Instr.stepEnd, cleared printingLane), (.stepEnd, pausedLane), (.homeSensorReturn, cuttingLane),
          (.homeSensorReturn, cleared cuttingLane), (.cutTimerExpiry, cuttingLane)],
        (after x.1 (budgetWaits true x.2)).supply.budget = 32 ∧
          (after x.1 (budgetWaits true x.2)).drawer.state = .pullIn) ∧
      pausedLane.engine.abandoned = false ∧ cuttingLane.engine.condition = .printing ∧
      (cleared cuttingLane).engine.line = none ∧ (driving .hold 1 false 5).drawer.state = .hold := by
  decide +kernel

/-- The printing lane in the second step of row `n + 1` of a line of its job, in a condition, with the mark or not. -/
def rowOf (r : LineRecord) (n : Nat) (k : PrinterCondition) (c : Causes) (mark : Bool) : State :=
  { printingLane with
    queue := { printingLane.queue with jobs := printingLane.queue.jobs.map fun j => { j with records := [r, .cut] } }
    engine := { printingLane.engine with
      condition := k, causes := c, speedIndex := 7, pendingPeriod := 830
      line := some { record := r, rowsDone := n, spacing := 6, interrupted := false }
      row := printingLane.engine.row.map fun w => { w with pauseMark := mark } } }

/-- The last row of a TEXT or FEED line, row 64 of a CUT, a marked row that ends while PRINTING, and a stop in a TEXT line
with PAPER_OUT held (R153, R169, R174, R176, R177). -/
theorem witness_RowRunsToItsEnd_last :
    (∀ s ∈ [rowOf (.feed 2) 1 .printing Causes.none false, rowOf (.feed 2) 1 .printing Causes.none true,
        rowOf (.text [] false false false .left) 29 .printing Causes.none false],
      s.powered = true ∧ s.quietSupply ∧ ((after .stepEnd s).queue.jobs.map Job.cursor) = [2] ∧
        ((after .stepEnd s).engine.line.map LineProgress.record) = some .cut ∧
        (after .stepEnd s).engine.row.isSome = true) ∧
      (let s := rowOf (.feed 2) 1 .paused coverAlone true
      ((after .stepEnd s).queue.jobs.map Job.cursor) = [2] ∧ (after .stepEnd s).engine.row = none) ∧
      (after .stepEnd (rowOf .cut 63 .printing Causes.none false)).engine.cutter = .cutting ∧
      (let s := { rowOf .cut 63 .printing Causes.none false with
        supply := { lane.supply with granted := { drawer := 14, cutter := 0, motor := 3, head := 0 }, budget := 21 }
        store := { lane.store with live := { shortRings with supplyBudget := 21 } } }
      s.quietSupply ∧ (after .stepEnd s).engine.cutter = .waiting) ∧
      (after .stepEnd (rowOf .cut 63 .paused coverAlone true)).engine.cutter = .rest ∧
      (after .stepEnd (rowOf (.feed 9) 1 .printing Causes.none true)).engine.speedIndex = 7 ∧
      (after .stepEnd (rowOf (.feed 9) 1 .printing Causes.none true)).engine.row.isSome = true ∧
      ([22, 23].map fun n => (after .stepEnd (rowOf (.text [] false false false .left) n .paused
        { Causes.none with paperOut := true } true)).engine.line.map LineProgress.interrupted) =
        [some true, some false] := by
  decide +kernel

/-- The cutting lane with a job of a kind at the last line, or at the first of two, in a condition, with jobs behind it. -/
def cuttingJob (kind : JobKind) (cursor : Nat) (k : PrinterCondition) (c : Causes) (behind : List Job) : State :=
  { cuttingLane with
    sale := { current := .idle, closed := some { sale305 with receipt := .pending } }
    queue := { cuttingLane.queue with
      jobs := (cuttingLane.queue.jobs.map fun j =>
        { j with kind := kind, cursor := cursor, records := [.cut, .cut] }) ++ behind }
    engine := { cuttingLane.engine with condition := k, causes := c } }

/-- The end of a cycle for each kind of job, with a job behind, and in mid-list, while PRINTING and PAUSED (R152, R153). -/
theorem witness_CutCycleEnds_jobs :
    (let receipt : JobKind → Option ReceiptState := fun k =>
      (after .homeSensorReturn (cuttingJob k 2 .printing Causes.none [])).sale.closed.map ClosedSale.receipt
    receipt .original = some .done ∧ receipt .copy = some .pending ∧ receipt .text = some .pending) ∧
      (∀ x ∈ [(PrinterCondition.printing, Causes.none), (.paused, coverAlone)],
        (cuttingJob .copy 2 x.1 x.2 [textJob30]).powered = true ∧ (cuttingJob .copy 2 x.1 x.2 [textJob30]).quietSupply ∧
          (cuttingJob .copy 2 x.1 x.2 [textJob30]).engine.row = none ∧
          (cuttingJob .copy 2 x.1 x.2 [textJob30]).engine.abandoned = false ∧
          (after .homeSensorReturn (cuttingJob .copy 2 x.1 x.2 [])).engine.condition = .idle ∧
          (after .homeSensorReturn (cuttingJob .copy 2 x.1 x.2 [textJob30])).engine.condition = x.1 ∧
          ((after .homeSensorReturn (cuttingJob .copy 2 x.1 x.2 [textJob30])).queue.jobs.map Job.state) =
            [if x.1 = .paused then .paused else .printing] ∧
          ((after .homeSensorReturn (cuttingJob .text 1 x.1 x.2 [])).queue.jobs.map Job.cursor) = [2] ∧
          ((after .homeSensorReturn (cuttingJob .text 1 x.1 x.2 [])).engine.line.map LineProgress.rowsDone) = some 0 ∧
          (after .homeSensorReturn (cuttingJob .text 1 x.1 x.2 [])).engine.row.isSome = (x.1 == .printing)) := by
  decide +kernel

end Sys2Proof.Tests
end

section
namespace Sys2Proof.Machine

/-! ### What a change of a channel's condition does -/

/-- All that a change of condition does: the condition, and one CHANNEL_STATE when it is another one (R16). -/
theorem setCondition_eq (ch : ChannelId) (k : ChannelCondition) (s : State) :
    setCondition ch k s = { s.withChannel ch { s.channel ch with condition := k } with
      link := if (s.channel ch).condition = k then s.link
        else s.link.push (.channelState ch k (s.channel ch).condition) } := by
  unfold setCondition
  by_cases h : (s.channel ch).condition = k
  · subst h
    rw [if_pos rfl, if_pos rfl]
    cases ch <;> rfl
  · rw [if_neg h, if_neg h]
    cases ch <;> rfl

/-- A channel written and written again holds the second value. -/
@[simp] theorem withChannel_withChannel (ch : ChannelId) (c c' : Channel) (s : State) :
    (s.withChannel ch c).withChannel ch c' = s.withChannel ch c' := by
  cases ch <;> rfl

/-- Writing back what stands in a channel changes nothing. -/
@[simp] theorem withChannel_self (ch : ChannelId) (s : State) : s.withChannel ch (s.channel ch) = s := by
  cases ch <;> rfl

/-- A converter started: rings and output gone, two samples to settle, STARTING or UNCALIBRATED by the record (R3,
R14, R15). -/
theorem startChannel_eq (ch : ChannelId) (s : State) :
    startChannel ch s = { s.withChannel ch { s.channel ch with
        condition := startCondition ch (s.channel ch).record
        converterOn := true, settling := 2, filterRing := [], filterSum := 0, latest := none
        stabilityRing := [], trackingCount := 0 } with
      link := if (s.channel ch).condition = startCondition ch (s.channel ch).record then s.link
        else s.link.push (.channelState ch (startCondition ch (s.channel ch).record) (s.channel ch).condition) } := by
  unfold startChannel
  rw [setCondition_eq]
  cases ch <;> rfl

end Sys2Proof.Machine
end

section
namespace Sys2Proof.Machine

/-! ### What the requests and events of the other blocks leave unchanged -/

/-- What `reportAborted` leaves unchanged. -/
@[simp] theorem reportAborted_frame (js : List Job) (s : State) :
    (reportAborted js s).attendant = s.attendant ∧ (reportAborted js s).platter = s.platter ∧
      (reportAborted js s).bag = s.bag ∧ (reportAborted js s).store = s.store := by
  rw [reportAborted_eq]; exact ⟨rfl, rfl, rfl, rfl⟩

/-- What `printerClear` leaves unchanged. -/
@[simp] theorem printerClear_frame (s : State) :
    (printerClear s).attendant = s.attendant ∧ (printerClear s).platter = s.platter ∧
      (printerClear s).bag = s.bag ∧ (printerClear s).store = s.store := by
  unfold printerClear
  dsimp only
  split_ifs <;> simp

/-- What `closeSale` leaves unchanged. -/
@[simp] theorem closeSale_frame (r : SaleRecord) (s : State) :
    (closeSale r s).attendant = s.attendant ∧ (closeSale r s).platter = s.platter ∧
      (closeSale r s).bag = s.bag ∧ (closeSale r s).store = s.store := by
  unfold closeSale emptyHeld
  dsimp only
  split_ifs <;> simp

/-- What `abandonSale` leaves unchanged. -/
@[simp] theorem abandonSale_frame (r : SaleRecord) (s : State) :
    (abandonSale r s).attendant = s.attendant ∧ (abandonSale r s).platter = s.platter ∧
      (abandonSale r s).bag = s.bag ∧ (abandonSale r s).store = s.store := by
  simp [abandonSale]

/-- What `voidTaken` leaves unchanged. -/
@[simp] theorem voidTaken_frame (n : Nat) (e : Entry) (s : State) :
    (voidTaken n e s).attendant = s.attendant ∧ (voidTaken n e s).platter = s.platter ∧
      (voidTaken n e s).bag = s.bag ∧ (voidTaken n e s).store = s.store := by
  simp [voidTaken]

/-- What `decideCard` leaves unchanged. -/
@[simp] theorem decideCard_frame (b : Bool) (s : State) :
    (decideCard b s).attendant = s.attendant ∧ (decideCard b s).platter = s.platter ∧
      (decideCard b s).bag = s.bag ∧ (decideCard b s).store = s.store := by
  simp [decideCard]

/-- What `afterRow` leaves unchanged. -/
@[simp] theorem afterRow_frame (s : State) :
    (afterRow s).attendant = s.attendant ∧ (afterRow s).platter = s.platter ∧ (afterRow s).bag = s.bag ∧
      (afterRow s).store = s.store := by
  unfold afterRow
  split
  · simp
  · split_ifs <;> simp

/-- The attendant switch, the two channels and the Settings Store are as they were. -/
structure Apart (s t : State) : Prop where
  attendant : t.attendant = s.attendant
  platter : t.platter = s.platter
  bag : t.bag = s.bag
  store : t.store = s.store

theorem Apart.refl (s : State) : Apart s s := ⟨rfl, rfl, rfl, rfl⟩

/-- The requests that move a channel or the Settings Store. -/
def movesScales : Request → Bool
  | .zero _ | .calZero _ | .calSpan _ _ | .setProfile _ | .set _ _ | .saveSettings => true
  | _ => false

/-- Every other request is apart from the channels, the switch and the store: each branch of its handler is a refusal
or a composition of operations whose frames say so. -/
theorem handleRequest_apart (r : Request) (s : State) (h : movesScales r = false) : Apart s (handleRequest r s).1 := by
  cases r with
  | zero | calZero | calSpan | setProfile | set | saveSettings => cases h
  | _ =>
    simp only [handleRequest, readWeightRequest, setTareRequest, takeTareRequest, clearTareRequest, weighItemRequest,
      cancelWeighRequest, openSaleRequest, addItemRequest, voidEntryRequest, beginTenderRequest, resumeSaleRequest,
      addCashRequest, addCardTenderRequest, cardDecisionRequest, closeSaleRequest, abandonSaleRequest, reprintRequest,
      readSaleRequest, readEntryRequest, readTenderRequest, clearExceptionRequest, waiveBaggingRequest,
      bagResyncRequest, readBaggingRequest, releaseCardRequest, discardCardRequest, readCardRequest, noSaleRequest,
      drawerResetRequest, readDrawerRequest, beepRequest, readSupplyRequest, printTextRequest, printerClearRequest,
      readPrintQueueRequest, readPrinterRequest, getRequest, restartRequest, identifyRequest, answer, done, refuse]
    repeat' split
    all_goals constructor <;> simp

/-! ### The events of the other blocks -/

theorem bagTimerExpires_apart (n : Nat) (s : State) : Apart s (bagTimerExpires n s) := by
  constructor <;> simp

theorem graceExpires_apart (s : State) : Apart s (graceExpires s) := by
  constructor <;> simp

theorem swipeBegins_apart (h : HeadId) (s : State) : Apart s (swipeBegins h s) := by
  unfold swipeBegins
  split <;> constructor <;> simp

theorem swipeEnds_apart (s : State) : Apart s (swipeEnds s) := by
  unfold swipeEnds
  repeat' split
  all_goals constructor <;> simp

theorem holdExpires_apart (s : State) : Apart s (holdExpires s) := by
  unfold holdExpires
  split <;> constructor <;> simp

theorem senseChanged_apart (b : Bool) (s : State) : Apart s (senseChanged b s) := by
  unfold senseChanged senseGiven
  dsimp only
  split_ifs <;> constructor <;> simp

theorem pullInEnds_apart (s : State) : Apart s (pullInEnds s) := by
  unfold pullInEnds
  split_ifs <;> constructor <;> simp

theorem holdEnds_apart (s : State) : Apart s (holdEnds s) := by
  unfold holdEnds
  split_ifs <;> constructor <;> simp

theorem pwmBoundary_apart (s : State) : Apart s (pwmBoundary s) := by
  unfold pwmBoundary
  split_ifs <;> constructor <;> simp

theorem coolEnds_apart (s : State) : Apart s (coolEnds s) := by
  unfold coolEnds
  split_ifs <;> constructor <;> simp

theorem alarmExpires_apart (s : State) : Apart s (alarmExpires s) := by
  unfold alarmExpires
  split_ifs <;> constructor <;> simp

theorem supplyFalls_apart (s : State) : Apart s (supplyFalls s) := by
  unfold supplyFalls
  split_ifs <;> constructor <;> simp

theorem supplyRecovers_apart (s : State) : Apart s (supplyRecovers s) := by
  unfold supplyRecovers
  split_ifs <;> constructor <;> simp

theorem causeFollows_apart (c : PauseCause) (b : Bool) (s : State) : Apart s (causeFollows c b s) := by
  unfold causeFollows
  split_ifs <;> constructor <;> simp

theorem paperLowChanges_apart (b : Bool) (s : State) : Apart s (paperLowChanges b s) := by
  unfold paperLowChanges
  split_ifs <;> constructor <;> simp

theorem headReads_apart (r : Int) (s : State) : Apart s (headReads r s) := by
  unfold headReads
  dsimp only
  split_ifs <;> constructor <;> simp

theorem phaseEnds_apart (s : State) : Apart s (phaseEnds s) := by
  unfold phaseEnds abandonedEnds
  dsimp only
  repeat' split
  all_goals constructor <;> simp

theorem stepEnds_apart (s : State) : Apart s (stepEnds s) := by
  unfold stepEnds abandonedEnds rowEnds
  dsimp only
  repeat' split
  all_goals constructor <;> simp

theorem homeReturns_apart (s : State) : Apart s (homeReturns s) := by
  unfold homeReturns cutEnds abandonedEnds
  dsimp only
  split_ifs <;> constructor <;> simp

theorem cutJams_apart (s : State) : Apart s (cutJams s) := by
  unfold cutJams
  dsimp only
  split_ifs <;> constructor <;> simp

theorem fluxArrives_apart (h : HeadId) (us : Nat) (s : State) : Apart s (fluxArrives h us s) := by
  unfold fluxArrives transitionInSwipe
  split <;> constructor <;> simp

theorem weighTimerExpires_apart (s : State) : Apart s (weighTimerExpires s) := by
  constructor <;> simp [weighTimerExpires]

theorem reportEnds_apart (s : State) : Apart s (reportEnds s) := by
  unfold reportEnds
  split <;> constructor <;> simp

theorem endFrameInside_apart (why : LinkErrorReason) (s : State) : Apart s (endFrameInside why s) := by
  unfold endFrameInside
  split <;> constructor <;> simp

end Sys2Proof.Machine
end

section
namespace Sys2Proof.Machine

/-! ### The channels stay sound -/

/-- The law of a channel looks at four of its fields. -/
theorem sound_congr {c d : Channel} (h : c.sound) (hk : d.condition = c.condition)
    (ho : d.converterOn = c.converterOn) (hr : d.filterRing = c.filterRing) (hs : d.filterSum = c.filterSum) :
    d.sound := by
  unfold Channel.sound at *
  rw [hk, ho, hr, hs]
  exact h

/-- A sound channel outside FAULT is sound in every other condition but FAULT. -/
theorem sound_withCondition {c : Channel} (h : c.sound) (hc : c.condition ≠ .fault) {k : ChannelCondition}
    (hk : k ≠ .fault) : ({ c with condition := k } : Channel).sound := by
  obtain ⟨hrun, hsum⟩ := h
  exact ⟨iff_of_false (fun ho => hc (hrun.1 ho)) hk, hsum⟩

/-- The running sum follows the ring at every push (R5). -/
theorem sumOf_ringPush (n : Nat) (v : Int) (r : List Int) :
    sumOf (ringPush n v r) = if r.length < n then sumOf r + v else sumOf r + (v - (r.head?).getD 0) := by
  unfold ringPush
  split
  · simp [sumOf_append, sumOf]
  · cases r with
    | nil => simp [sumOf]
    | cons a as => simp [sumOf, sumOf_append]; omega

theorem takeSample_sound {c : Channel} (h : c.sound) (n : Nat) (v : Int) : (c.takeSample n v).sound := by
  obtain ⟨hrun, hsum⟩ := h
  exact ⟨hrun, by simp only [Channel.takeSample, sumOf_ringPush, hsum]⟩

theorem formOutput_sound {c : Channel} (h : c.sound) (ch : ChannelId) (v : Settings) :
    (c.formOutput ch v).sound := sound_congr h rfl rfl rfl rfl

/-- A change of zero_ref moves nothing that the converter, the condition or the filter hold (R10). -/
theorem zeroAt_frame (ch : ChannelId) (v : Int) (c : Channel) :
    (c.zeroAt ch v).condition = c.condition ∧ (c.zeroAt ch v).converterOn = c.converterOn ∧
      (c.zeroAt ch v).settling = c.settling ∧ (c.zeroAt ch v).filterRing = c.filterRing ∧
      (c.zeroAt ch v).filterSum = c.filterSum ∧ (c.zeroAt ch v).record = c.record ∧
      (c.zeroAt ch v).powerUpZero = c.powerUpZero := by
  unfold Channel.zeroAt Channel.rebase
  dsimp only
  repeat' split
  all_goals simp

theorem zeroAt_sound {c : Channel} (h : c.sound) (ch : ChannelId) (v : Int) : (c.zeroAt ch v).sound := by
  obtain ⟨hk, ho, -, hr, hs, -, -⟩ := zeroAt_frame ch v c
  exact sound_congr h hk ho hr hs

theorem calibrated_sound {c : Channel} (h : c.sound) (ch : ChannelId) (b : Bool) (r : CalRecord) :
    (c.calibrated ch b r).sound := by
  unfold Channel.calibrated
  split <;> exact sound_congr h rfl rfl rfl rfl

theorem calibrated_condition (ch : ChannelId) (b : Bool) (r : CalRecord) (c : Channel) :
    (c.calibrated ch b r).condition = c.condition := by
  unfold Channel.calibrated
  split <;> rfl

theorem startCondition_ne_fault (ch : ChannelId) (r : CalRecord) : startCondition ch r ≠ .fault := by
  unfold startCondition
  split <;> simp

theorem rangeCondition_ne_fault (ch : ChannelId) (r : CalRecord) (sat : Saturation) (f : Int) :
    rangeCondition ch r sat f ≠ .fault := by
  unfold rangeCondition
  split_ifs <;> simp

/-! ### The switch and the copies stay, and the channels stay sound -/

/-- The attendant switch and the stored copies are as they were, and channels that were sound are sound. -/
structure KeepsScales (s t : State) : Prop where
  attendant : t.attendant = s.attendant
  image : t.store.image = s.store.image
  platterCopy : t.store.platterCopy = s.store.platterCopy
  bagCopy : t.store.bagCopy = s.store.bagCopy
  sound : s.channelsSound → t.channelsSound

namespace KeepsScales

theorem refl (s : State) : KeepsScales s s := ⟨rfl, rfl, rfl, rfl, id⟩

theorem trans {a b c : State} (h : KeepsScales a b) (h' : KeepsScales b c) : KeepsScales a c where
  attendant := h'.attendant.trans h.attendant
  image := h'.image.trans h.image
  platterCopy := h'.platterCopy.trans h.platterCopy
  bagCopy := h'.bagCopy.trans h.bagCopy
  sound := h'.sound ∘ h.sound

theorem of_apart {s t : State} (h : Apart s t) : KeepsScales s t where
  attendant := h.attendant
  image := by rw [h.store]
  platterCopy := by rw [h.store]
  bagCopy := by rw [h.store]
  sound := fun hs => by rw [State.channelsSound, h.platter, h.bag]; exact hs

/-- One channel replaced by one that is sound when it was. -/
theorem withChannel {ch : ChannelId} {c : Channel} {s : State} (h : (s.channel ch).sound → c.sound) :
    KeepsScales s (s.withChannel ch c) where
  attendant := by simp
  image := by simp
  platterCopy := by simp
  bagCopy := by simp
  sound := fun ⟨hp, hb⟩ => by
    cases ch with
    | platter => exact ⟨h hp, hb⟩
    | bag => exact ⟨hp, h hb⟩

/-- A state that differs from one that keeps the scales only in other blocks. -/
theorem apart {s t u : State} (h : KeepsScales s t) (h' : Apart t u) : KeepsScales s u := h.trans (of_apart h')

/-- A change of other blocks before one that keeps the scales. -/
theorem after {s t u : State} (h : KeepsScales t u) (h' : Apart s t) : KeepsScales s u := (of_apart h').trans h

end KeepsScales

theorem setCondition_keepsScales {ch : ChannelId} {k : ChannelCondition} {s : State} (hk : k ≠ .fault)
    (hs : (s.channel ch).condition ≠ .fault) : KeepsScales s (setCondition ch k s) := by
  rw [setCondition_eq]
  exact (KeepsScales.withChannel fun h => sound_withCondition h hs hk).apart ⟨rfl, rfl, rfl, rfl⟩

theorem startChannel_keepsScales (ch : ChannelId) (s : State) : KeepsScales s (startChannel ch s) := by
  rw [startChannel_eq]
  exact (KeepsScales.withChannel fun _ => ⟨iff_of_false (by simp) (startCondition_ne_fault _ _), rfl⟩).apart
    ⟨rfl, rfl, rfl, rfl⟩

theorem excitationLeaves_keepsScales (ch : ChannelId) (s : State) : KeepsScales s (excitationLeaves ch s) := by
  unfold excitationLeaves
  dsimp only
  split
  · exact .refl s
  · rw [setCondition_eq]
    have h : KeepsScales s (s.withChannel ch
        { (s.channel ch).emptied with converterOn := false, condition := .fault }) :=
      .withChannel fun _ => ⟨iff_of_true rfl rfl, rfl⟩
    cases ch with
    | platter => exact h.apart (by constructor <;> simp)
    | bag => exact h.apart ⟨rfl, rfl, rfl, rfl⟩

theorem excitationReturns_keepsScales (ch : ChannelId) (s : State) : KeepsScales s (excitationReturns ch s) := by
  unfold excitationReturns
  split
  · exact startChannel_keepsScales ch s
  · exact .refl s

/-! ### A filter output -/

/-- A reading taken as the power-up zero on the way to READY (R11, R22). -/
theorem zeroAndReady_keepsScales (ch : ChannelId) (v : Int) {s : State} (hs : (s.channel ch).condition ≠ .fault) :
    KeepsScales s (setCondition ch .ready
      (s.withChannel ch { (s.channel ch).zeroAt ch v with powerUpZero := some v })) := by
  refine .trans (.withChannel fun h => ?_) (setCondition_keepsScales (by simp) ?_)
  · exact sound_congr (zeroAt_sound h ch v) rfl rfl rfl rfl
  · simpa [zeroAt_frame] using hs

theorem leaveStarting_keepsScales {ch : ChannelId} (o : FilterOutput) {s : State}
    (hs : (s.channel ch).condition ≠ .fault) : KeepsScales s (leaveStarting ch o s) := by
  unfold leaveStarting
  dsimp only
  split
  · exact setCondition_keepsScales (rangeCondition_ne_fault _ _ _ _) hs
  · split
    · exact zeroAndReady_keepsScales ch o.filtered hs
    · exact setCondition_keepsScales (by simp) hs

theorem judgeCondition_keepsScales (ch : ChannelId) (o : FilterOutput) (s : State) :
    KeepsScales s (judgeCondition ch o s) := by
  unfold judgeCondition
  dsimp only
  split
  · next h =>
    split
    · exact leaveStarting_keepsScales o (by simp [h])
    · exact .refl s
  · split
    · next h =>
      exact setCondition_keepsScales (rangeCondition_ne_fault _ _ _ _) fun e => by simp [e, ChannelCondition.ranged] at h
    · exact .refl s

theorem trackZero_keepsScales (o : FilterOutput) (s : State) : KeepsScales s (trackZero o s) := by
  unfold trackZero
  split
  · exact .withChannel (ch := .platter) fun h => zeroAt_sound h _ _
  · exact .refl s

/-- The weigh request examined is apart from the channels (R40 to R43). -/
theorem examineWeigh_apart (o : FilterOutput) (k : Occupancy) (s : State) : Apart s (examineWeigh o k s) := by
  unfold examineWeigh completeWithEntry
  dsimp only
  repeat' split
  all_goals constructor <;> simp

theorem platterStages_keepsScales (s : State) : KeepsScales s (platterStages s) := by
  unfold platterStages
  split
  · exact .refl s
  · next o _ =>
    exact ((trackZero_keepsScales o s).apart (by constructor <;> simp)).apart (examineWeigh_apart _ _ _)

theorem bagStage_apart (s : State) : Apart s (bagStage s) := by
  unfold bagStage
  dsimp only
  repeat' split
  all_goals constructor <;> simp

theorem filterOutput_keepsScales (ch : ChannelId) (s : State) : KeepsScales s (filterOutput ch s) := by
  have hform : KeepsScales s (s.withChannel ch ((s.channel ch).formOutput ch s.live)) :=
    .withChannel fun h => formOutput_sound h ch s.live
  unfold filterOutput
  dsimp only
  split
  · exact hform
  · next o _ =>
    have hjudged := hform.trans (judgeCondition_keepsScales ch o _)
    cases ch with
    | platter => exact hjudged.trans (platterStages_keepsScales _)
    | bag => exact hjudged.apart (bagStage_apart _)

theorem sampleArrives_keepsScales (ch : ChannelId) (x : Int) (s : State) : KeepsScales s (sampleArrives ch x s) := by
  have htake : KeepsScales s (s.withChannel ch ((s.channel ch).takeSample (filterLen s.live ch) x)) :=
    .withChannel fun h => takeSample_sound h _ x
  unfold sampleArrives
  dsimp only
  split_ifs
  · exact .refl s
  · exact .withChannel fun h => sound_congr h rfl rfl rfl rfl
  · exact htake
  · exact htake.trans (filterOutput_keepsScales ch _)

/-! ### The requests that move a channel or the store -/

theorem zeroTaken_keepsScales (ch : ChannelId) (v : Int) {s : State} (hs : (s.channel ch).condition ≠ .fault) :
    KeepsScales s (zeroTaken ch v s) := by
  have hzero : KeepsScales s (s.withChannel ch ((s.channel ch).zeroAt ch v)) := .withChannel fun h => zeroAt_sound h ch v
  have hready := zeroAndReady_keepsScales ch v hs
  unfold zeroTaken
  dsimp only
  cases ch <;> dsimp only <;> split
  · exact hready
  · exact hzero
  · exact hready.apart ⟨rfl, rfl, rfl, rfl⟩
  · exact hzero.apart ⟨rfl, rfl, rfl, rfl⟩

theorem zeroRequest_keepsScales (n : Byte) (s : State) : KeepsScales s (zeroRequest n s).1 := by
  unfold zeroRequest zeroOn
  dsimp only [refuse, done]
  repeat' split
  any_goals exact .refl s
  next hk _ _ _ _ _ _ =>
    exact zeroTaken_keepsScales _ _ fun e => hk (by simp [e, ChannelCondition.ranged])

/-- A calibration step passes its shared checks only outside FAULT (R18). -/
theorem not_fault_of_calibrationCheck {ch : ChannelId} {s : State} (h : calibrationCheck ch s = none) :
    (s.channel ch).condition ≠ .fault := by
  unfold calibrationCheck at h
  split_ifs at h
  assumption

theorem calibrationStep_keepsScales {ch : ChannelId} (b : Bool) (r : CalRecord) {s : State}
    (hs : (s.channel ch).condition ≠ .fault) : KeepsScales s (calibrationStep ch b r s).1 := by
  have hcal : KeepsScales s (s.withChannel ch { (s.channel ch).calibrated ch b (r.stepped ch) with
      condition := startCondition ch (r.stepped ch) }) :=
    .withChannel fun h => sound_withCondition (calibrated_sound h ch b _)
      (by rw [calibrated_condition]; exact hs) (startCondition_ne_fault _ _)
  unfold calibrationStep
  dsimp only
  rw [setCondition_eq]
  cases ch with
  | platter => exact ⟨hcal.attendant, hcal.image, hcal.platterCopy, hcal.bagCopy, hcal.sound⟩
  | bag => exact ⟨hcal.attendant, hcal.image, hcal.platterCopy, hcal.bagCopy, hcal.sound⟩

theorem calZeroRequest_keepsScales (n : Byte) (s : State) : KeepsScales s (calZeroRequest n s).1 := by
  unfold calZeroRequest calZeroOn
  dsimp only [refuse]
  repeat' split
  any_goals exact .refl s
  exact calibrationStep_keepsScales _ _ (not_fault_of_calibrationCheck ‹_›)

theorem calSpanRequest_keepsScales (n : Byte) (load : Wide) (s : State) :
    KeepsScales s (calSpanRequest n load s).1 := by
  unfold calSpanRequest calSpanOn
  dsimp only [refuse]
  repeat' split
  any_goals exact .refl s
  exact calibrationStep_keepsScales _ _ (not_fault_of_calibrationCheck ‹_›)

theorem setProfileRequest_keepsScales (n : Byte) (s : State) : KeepsScales s (setProfileRequest n s).1 := by
  unfold setProfileRequest
  dsimp only [refuse]
  repeat' split
  any_goals exact .refl s
  exact calibrationStep_keepsScales _ _ (not_fault_of_calibrationCheck ‹_›)

theorem setLive_keepsScales (v : Settings) (s : State) : KeepsScales s (setLive v s) := ⟨rfl, rfl, rfl, rfl, id⟩

theorem sensePresentSet_apart (s : State) : Apart s (sensePresentSet s) := by
  unfold sensePresentSet senseGiven
  split_ifs <;> constructor <;> simp

theorem restartChannel_keepsScales (ch : ChannelId) (s : State) : KeepsScales s (restartChannel ch s) := by
  unfold restartChannel
  split
  · exact .refl s
  · exact startChannel_keepsScales ch s

theorem settingEffect_keepsScales (id : Nat) (s : State) : KeepsScales s (settingEffect id s) := by
  unfold settingEffect
  split
  any_goals exact restartChannel_keepsScales _ s
  all_goals refine .of_apart ?_
  · split_ifs <;> constructor <;> simp
  · exact sensePresentSet_apart s
  all_goals constructor <;> simp

theorem setRequest_keepsScales (id : Byte) (v : SettingArg) (s : State) : KeepsScales s (setRequest id v s).1 := by
  have hset (x : SettingValue) (b : Bool) : KeepsScales s (setAnswer id.toNat x b s).1 := by
    unfold setAnswer changeSetting
    dsimp only
    split
    · exact .refl s
    · exact (setLive_keepsScales _ s).trans (settingEffect_keepsScales _ _)
  unfold setRequest
  dsimp only [refuse]
  repeat' split
  all_goals first | exact .refl s | exact hset _ _

/-- No request moves the attendant switch or a stored copy, and none makes a channel unsound. -/
theorem handleRequest_keepsScales (r : Request) (s : State) : KeepsScales s (handleRequest r s).1 := by
  cases h : movesScales r with
  | false => exact .of_apart (handleRequest_apart r s h)
  | true =>
    cases r with
    | zero n => exact zeroRequest_keepsScales n s
    | calZero n => exact calZeroRequest_keepsScales n s
    | calSpan n load => exact calSpanRequest_keepsScales n load s
    | setProfile n => exact setProfileRequest_keepsScales n s
    | set id v => exact setRequest_keepsScales id v s
    | saveSettings => exact ⟨rfl, rfl, rfl, rfl, id⟩
    | _ => cases h

/-! ### Frames and commands -/

theorem settleAnswer_apart (kind tag : Byte) (x : State × Answer) : Apart x.1 (settleAnswer kind tag x) := by
  unfold settleAnswer
  split <;> exact ⟨rfl, rfl, rfl, rfl⟩

theorem takeRequest_keepsScales (tag : Byte) (r : Request) (s : State) : KeepsScales s (takeRequest tag r s) :=
  (handleRequest_keepsScales r s).apart (settleAnswer_apart _ _ _)

theorem takeFrame_keepsScales (f : Frame) (s : State) : KeepsScales s (takeFrame f s) := by
  refine KeepsScales.apart ?_ (settleAnswer_apart _ _ _)
  unfold handleFrame
  split
  · exact .refl s
  · exact .refl s
  · exact handleRequest_keepsScales _ s

theorem dispatchNext_keepsScales (s : State) : KeepsScales s (dispatchNext s) := by
  obtain h | ⟨f, rest, -, -, h⟩ := dispatchNext_cases s <;> rw [h]
  · exact .refl s
  · exact (takeFrame_keepsScales f (setSlots rest s)).after ⟨rfl, rfl, rfl, rfl⟩

theorem frameArrives_keepsScales (f : Frame) (s : State) : KeepsScales s (frameArrives f s) := by
  refine (dispatchNext_keepsScales _).after ?_
  obtain ⟨-, h⟩ | ⟨-, h⟩ := offerFrame_cases f s <;> rw [h] <;> exact ⟨rfl, rfl, rfl, rfl⟩

theorem requestArrives_keepsScales (tag : Byte) (r : Request) (s : State) : KeepsScales s (requestArrives tag r s) := by
  unfold requestArrives
  split
  · exact takeRequest_keepsScales tag r s
  · exact frameArrives_keepsScales _ s

theorem byteArrives_keepsScales (b : Byte) (s : State) : KeepsScales s (byteArrives b s) := by
  unfold byteArrives eofPlace
  dsimp only
  repeat' split
  case h_7.isFalse.isFalse => exact (frameArrives_keepsScales _ _).after ⟨rfl, rfl, rfl, rfl⟩
  all_goals exact .of_apart ⟨rfl, rfl, rfl, rfl⟩

theorem charArrives_keepsScales (c : LineChar) (s : State) : KeepsScales s (charArrives c s) := by
  unfold charArrives
  split
  · exact byteArrives_keepsScales _ s
  · exact .of_apart (endFrameInside_apart _ s)

theorem bytesArrive_keepsScales (bs : List Byte) (s : State) : KeepsScales s (bytesArrive bs s) := by
  induction bs generalizing s with
  | nil => exact .refl s
  | cons b bs ih => exact ((byteArrives_keepsScales b s).apart (by constructor <;> simp)).trans (ih _)

theorem replyEnds_keepsScales (s : State) : KeepsScales s (replyEnds s) := by
  unfold replyEnds
  repeat' split
  any_goals exact .of_apart ⟨rfl, rfl, rfl, rfl⟩
  exact (dispatchNext_keepsScales _).after ⟨rfl, rfl, rfl, rfl⟩

theorem lineChanges_keepsScales (s : State) : KeepsScales s (lineChanges s) := by
  unfold lineChanges
  split
  · refine .trans (.of_apart ?_) (dispatchNext_keepsScales _)
    obtain ⟨h1, h2, h3, h4⟩ := endFrameInside_apart .rateChange { s with link := s.link.lineChanged }
    exact ⟨h1, h2, h3, h4⟩
  · exact .refl s

/-- An event keeps what its meaning keeps in a powered part (R194, log 5). -/
theorem asEvent_keepsScales {f : State → State} {s : State} (h : KeepsScales s (f s)) : KeepsScales s (asEvent f s) := by
  unfold asEvent
  split
  · exact h.apart (by constructor <;> simp)
  · exact .refl s

/-- A request command takes its request as it arrives, a calibration command with the level it brings (log 1, log 6). -/
theorem exec_request {c : Instr} {tag : Byte} {r : Request} (h : c.request? = some (tag, r)) (s : State) :
    exec c s = .next (asRequest tag r s) ∨ ∃ e, exec c s = .next (asCalibration e tag r s) := by
  cases c with
  | calZero e _ _ | calSpan e _ _ _ | setProfile e _ _ => cases h; exact .inr ⟨e, rfl⟩
  | _ => cases h <;> exact .inl rfl

/-- The commands that move the attendant switch or a stored copy, or start the part. -/
def movesSwitchOrCopies : Instr → Bool
  | .powerOn _ | .restartCarriedOut _ | .attendantSwitch _ | .writeEnd | .powerLoss => true
  | _ => false

/-- Every other command keeps them, and keeps the channels sound. -/
theorem exec_keepsScales {c : Instr} {s t : State} (hc : movesSwitchOrCopies c = false) (h : exec c s = .next t) :
    KeepsScales s t := by
  suffices hk : ∃ u, exec c s = .next u ∧ KeepsScales s u by
    obtain ⟨u, hu, hk⟩ := hk
    rw [h] at hu
    cases hu
    exact hk
  cases hq : c.request? with
  | some q =>
    obtain ⟨tag, r⟩ := q
    have hr := requestArrives_keepsScales tag r
    obtain h' | ⟨e, h'⟩ := exec_request hq s
    · exact ⟨_, h', asEvent_keepsScales (hr s)⟩
    · exact ⟨_, h', asEvent_keepsScales ((hr _).after ⟨rfl, rfl, rfl, rfl⟩)⟩
  | none =>
    have event {f : State → State} (hf : KeepsScales s (f s)) :
        ∃ u, (.next (asEvent f s) : Host.Outcome State Fault Refusal) = .next u ∧ KeepsScales s u :=
      ⟨_, rfl, asEvent_keepsScales hf⟩
    cases c with
    | powerOn | restartCarriedOut | attendantSwitch | writeEnd | powerLoss => cases hc
    | unknownRequest kind tag body => exact event (frameArrives_keepsScales _ s)
    | sampleArrival ch x => exact event (sampleArrives_keepsScales ch x s)
    | excitationLost ch => exact event (excitationLeaves_keepsScales ch s)
    | excitationReturn ch => exact event (excitationReturns_keepsScales ch s)
    | weighTimerExpiry => exact event (.of_apart (weighTimerExpires_apart s))
    | bagTimerExpiry n => exact event (.of_apart (bagTimerExpires_apart n s))
    | graceTimerExpiry => exact event (.of_apart (graceExpires_apart s))
    | swipeBegin x => exact event (.of_apart (swipeBegins_apart x s))
    | swipeEnd => exact event (.of_apart (swipeEnds_apart s))
    | holdTimerExpiry => exact event (.of_apart (holdExpires_apart s))
    | fluxTransition x us => exact event (.of_apart (fluxArrives_apart x us s))
    | senseChange b => exact event (.of_apart (senseChanged_apart b s))
    | pullInEnd => exact event (.of_apart (pullInEnds_apart s))
    | holdEnd => exact event (.of_apart (holdEnds_apart s))
    | pwmPeriodBoundary => exact event (.of_apart (pwmBoundary_apart s))
    | coolEnd => exact event (.of_apart (coolEnds_apart s))
    | alarmTimerExpiry => exact event (.of_apart (alarmExpires_apart s))
    | toggleCounterExpiry | patternStepEnd => exact event (.of_apart ⟨rfl, rfl, rfl, rfl⟩)
    | supplyLow => exact event (.of_apart (supplyFalls_apart s))
    | supplyRecovery => exact event (.of_apart (supplyRecovers_apart s))
    | paperSensor b => exact event (.of_apart (causeFollows_apart .paperOut b s))
    | coverSensor b => exact event (.of_apart (causeFollows_apart .coverOpen b s))
    | paperLowSensor b => exact event (.of_apart (paperLowChanges_apart b s))
    | headTemperature x => exact event (.of_apart (headReads_apart x s))
    | phaseEnd => exact event (.of_apart (phaseEnds_apart s))
    | stepEnd => exact event (.of_apart (stepEnds_apart s))
    | homeSensorReturn => exact event (.of_apart (homeReturns_apart s))
    | homeSensorAway => exact event (.of_apart ⟨rfl, rfl, rfl, rfl⟩)
    | cutTimerExpiry => exact event (.of_apart (cutJams_apart s))
    | frameGap => exact event (.of_apart (endFrameInside_apart .frameGap s))
    | lineBreak => exact event (.of_apart (endFrameInside_apart .lineBreak s))
    | replySent => exact event (replyEnds_keepsScales s)
    | reportSent => exact event (.of_apart (reportEnds_apart s))
    | lineSettingsChange => exact event (lineChanges_keepsScales s)
    | characterReceived x => exact event (charArrives_keepsScales x s)
    | receiveFrame bs =>
      refine ⟨_, rfl, ?_⟩
      split
      · exact bytesArrive_keepsScales bs s
      · exact .refl s
    | _ => cases hq

end Sys2Proof.Machine
end

section
namespace Sys2Proof.Machine

/-! ### Starts and stops -/

/-- A start keeps the stored copies, sets the switch off and starts both channels anew (R2, R52, R201). -/
theorem startPart_facts (why : StartCause) (x : StartInputs) (s : State) :
    (startPart why x s).store.image = s.store.image ∧
      (startPart why x s).store.platterCopy = s.store.platterCopy ∧
      (startPart why x s).store.bagCopy = s.store.bagCopy ∧
      (startPart why x s).platter = startedChannel .platter x.platterExcitation (s.store.loadedRecord .platter) ∧
      (startPart why x s).bag = startedChannel .bag x.bagExcitation (s.store.loadedRecord .bag) := by
  unfold startPart
  dsimp only
  split <;> exact ⟨rfl, rfl, rfl, rfl, rfl⟩

theorem startedChannel_sound (ch : ChannelId) (b : Bool) (r : CalRecord) : (startedChannel ch b r).sound := by
  refine ⟨?_, rfl⟩
  cases b with
  | false => exact iff_of_true rfl rfl
  | true => exact iff_of_false (by simp [startedChannel]) (startCondition_ne_fault ch r)

theorem startPart_sound (why : StartCause) (x : StartInputs) (s : State) : (startPart why x s).channelsSound := by
  obtain ⟨-, -, -, hp, hb⟩ := startPart_facts why x s
  exact ⟨hp ▸ startedChannel_sound .platter _ _, hb ▸ startedChannel_sound .bag _ _⟩

/-- The end of a store write moves no other block than the link (R191). -/
theorem writeEnds_frame (s : State) :
    (writeEnds s).attendant = s.attendant ∧ (writeEnds s).platter = s.platter ∧ (writeEnds s).bag = s.bag := by
  unfold writeEnds
  split <;> exact ⟨rfl, rfl, rfl⟩

/-- Settles O19: every command but five keeps the switch and the copies, and each of the five moves its own. -/
theorem movedByTheirEventsOnly : Obligations.MovedByTheirEventsOnly := by
  intro c s t h
  cases hc : movesSwitchOrCopies c with
  | false =>
    have hk := exec_keepsScales hc h
    refine ⟨fun ha => absurd hk.attendant ha, fun hcopy => ?_⟩
    simp [hk.image, hk.platterCopy, hk.bagCopy] at hcopy
  | true =>
    cases c with
    | powerOn x => exact ⟨fun _ => .inr (.inl ⟨x, rfl⟩), fun _ => .inr (.inr ⟨x, rfl⟩)⟩
    | writeEnd =>
      refine ⟨fun ha => absurd ?_ ha, fun _ => .inl rfl⟩
      cases h
      simp only [asEvent]
      split
      · exact (writeEnds_frame s).1
      · rfl
    | powerLoss =>
      refine ⟨fun ha => absurd ?_ ha, fun _ => .inr (.inl rfl)⟩
      cases h
      split <;> rfl
    | restartCarriedOut x =>
      refine ⟨fun _ => .inr (.inr ⟨x, rfl⟩), fun hcopy => ?_⟩
      have hcopies : t.store.image = s.store.image ∧ t.store.platterCopy = s.store.platterCopy ∧
          t.store.bagCopy = s.store.bagCopy := by
        cases h
        simp only [asEvent, restartHappens]
        obtain ⟨hi, hp, hb, -, -⟩ := startPart_facts .request x s
        split
        · split
          · exact ⟨hi, hp, hb⟩
          · exact ⟨rfl, rfl, rfl⟩
        · exact ⟨rfl, rfl, rfl⟩
      simp [hcopies] at hcopy
    | attendantSwitch on =>
      cases h
      simp only [asEvent]
      split <;> simp
    | _ => cases hc

/-- Settles O13: a start makes both channels sound, and every other command and the idle millisecond keep them so. -/
theorem stepKeepsChannelsSound : Obligations.StepKeepsChannelsSound := by
  intro s t hs h
  unfold step at h
  split at h
  · next c rest _ =>
    have hs' : ({ s with pending := rest } : State).channelsSound := hs
    cases hc : movesSwitchOrCopies c with
    | false => exact (exec_keepsScales hc h).sound hs'
    | true =>
      generalize ({ s with pending := rest } : State) = u at h hs'
      cases c with
      | powerOn x => cases h; exact startPart_sound _ _ _
      | restartCarriedOut x =>
        cases h
        simp only [asEvent, restartHappens]
        split
        · split
          · exact startPart_sound _ _ _
          · exact hs'
        · exact hs'
      | writeEnd =>
        cases h
        simp only [asEvent]
        split
        · obtain ⟨-, hp, hb⟩ := writeEnds_frame u
          simpa [State.channelsSound, hp, hb] using hs'
        · exact hs'
      | powerLoss =>
        cases h
        split <;> exact hs'
      | attendantSwitch on =>
        cases h
        simp only [asEvent]
        split <;> exact hs'
      | _ => cases hc
  · cases h
    unfold idle
    split <;> exact hs

/-! ### The channels' independence -/

/-- Nothing but one channel and the link is changed. -/
def MovesOnly (ch : ChannelId) (s t : State) : Prop := t = { s.withChannel ch (t.channel ch) with link := t.link }

theorem MovesOnly.of_withChannel (ch : ChannelId) (c : Channel) (l : Link) (s : State) :
    MovesOnly ch s { s.withChannel ch c with link := l } := by
  cases ch <;> rfl

theorem MovesOnly.withChannel (ch : ChannelId) (c : Channel) (s : State) : MovesOnly ch s (s.withChannel ch c) := by
  cases ch <;> rfl

theorem MovesOnly.refl (ch : ChannelId) (s : State) : MovesOnly ch s s := by cases ch <;> rfl

theorem MovesOnly.trans {ch : ChannelId} {a b c : State} (h : MovesOnly ch a b) (h' : MovesOnly ch b c) :
    MovesOnly ch a c := by
  unfold MovesOnly at *
  rw [h', h]
  cases ch <;> rfl

/-- The platter's channel alone moved: the bag channel and S are as they were. -/
theorem MovesOnly.bag {s t : State} (h : MovesOnly .platter s t) : t.bag = s.bag ∧ t.settledS = s.settledS := by
  rw [h]; exact ⟨rfl, rfl⟩

/-- The bag's channel alone moved: the platter and its scale are as they were. -/
theorem MovesOnly.platter {s t : State} (h : MovesOnly .bag s t) : t.platter = s.platter ∧ t.scale = s.scale := by
  rw [h]; exact ⟨rfl, rfl⟩

theorem setCondition_movesOnly (ch : ChannelId) (k : ChannelCondition) (s : State) :
    MovesOnly ch s (setCondition ch k s) := by
  rw [setCondition_eq]; exact .of_withChannel ..

theorem startChannel_movesOnly (ch : ChannelId) (s : State) : MovesOnly ch s (startChannel ch s) := by
  rw [startChannel_eq]; exact .of_withChannel ..

theorem judgeCondition_movesOnly (ch : ChannelId) (o : FilterOutput) (s : State) :
    MovesOnly ch s (judgeCondition ch o s) := by
  unfold judgeCondition leaveStarting
  dsimp only
  repeat' split
  any_goals exact .refl ch s
  any_goals exact setCondition_movesOnly ch _ s
  exact .trans (.withChannel ..) (setCondition_movesOnly ..)

theorem excitationReturns_movesOnly (ch : ChannelId) (s : State) : MovesOnly ch s (excitationReturns ch s) := by
  unfold excitationReturns
  split
  · exact startChannel_movesOnly ch s
  · exact .refl ch s

theorem trackZero_movesOnly (o : FilterOutput) (s : State) : MovesOnly .platter s (trackZero o s) := by
  unfold trackZero
  split
  · exact .withChannel ..
  · exact .refl ..

theorem examineWeigh_settledS (o : FilterOutput) (k : Occupancy) (s : State) :
    (examineWeigh o k s).settledS = s.settledS := by
  unfold examineWeigh completeWithEntry
  dsimp only
  repeat' split
  all_goals simp

/-- The platter's last stages leave the bag channel and S (R5). -/
theorem platterStages_bag (s : State) :
    (platterStages s).bag = s.bag ∧ (platterStages s).settledS = s.settledS := by
  unfold platterStages
  split
  · exact ⟨rfl, rfl⟩
  · next o _ =>
    obtain ⟨hb, hS⟩ := (trackZero_movesOnly o s).bag
    rw [(examineWeigh_apart _ _ _).bag, examineWeigh_settledS]
    exact ⟨by simp [hb], by simp [hS]⟩

/-- The bag channel's last stage leaves the scale (R24, R25). -/
theorem bagStage_scale (s : State) : (bagStage s).scale = s.scale := by
  unfold bagStage
  dsimp only
  repeat' split
  all_goals simp

/-- A sample moves its own channel and link, and then only what its last stages move (R5). -/
theorem sampleArrives_stages (ch : ChannelId) (x : Int) (s : State) :
    ∃ u, MovesOnly ch s u ∧ (sampleArrives ch x s = u ∨
      sampleArrives ch x s = (match ch with | .platter => platterStages u | .bag => bagStage u)) := by
  unfold sampleArrives
  dsimp only
  split_ifs
  · exact ⟨_, .refl ch s, .inl rfl⟩
  · exact ⟨_, .withChannel .., .inl rfl⟩
  · exact ⟨_, .withChannel .., .inl rfl⟩
  · unfold filterOutput
    dsimp only
    split
    · exact ⟨_, .trans (.withChannel ..) (.withChannel ..), .inl rfl⟩
    · exact ⟨_, .trans (.trans (.withChannel ..) (.withChannel ..)) (judgeCondition_movesOnly ch _ _), .inr rfl⟩

theorem sampleArrives_platter (x : Int) (s : State) :
    (sampleArrives .platter x s).bag = s.bag ∧ (sampleArrives .platter x s).settledS = s.settledS := by
  obtain ⟨u, hu, h | h⟩ := sampleArrives_stages .platter x s <;> rw [h]
  · exact hu.bag
  · obtain ⟨hb, hS⟩ := platterStages_bag u
    exact ⟨hb.trans hu.bag.1, hS.trans hu.bag.2⟩

theorem sampleArrives_bag (x : Int) (s : State) :
    (sampleArrives .bag x s).platter = s.platter ∧ (sampleArrives .bag x s).scale = s.scale := by
  obtain ⟨u, hu, h | h⟩ := sampleArrives_stages .bag x s <;> rw [h]
  · exact hu.platter
  · exact ⟨(bagStage_apart u).platter.trans hu.platter.1, (bagStage_scale u).trans hu.platter.2⟩

theorem excitationLeaves_platter (s : State) :
    (excitationLeaves .platter s).bag = s.bag ∧ (excitationLeaves .platter s).settledS = s.settledS := by
  unfold excitationLeaves
  dsimp only
  split
  · exact ⟨rfl, rfl⟩
  · rw [setCondition_eq]
    simp [State.withChannel]

theorem excitationLeaves_bag (s : State) : MovesOnly .bag s (excitationLeaves .bag s) := by
  unfold excitationLeaves
  dsimp only
  split
  · exact .refl ..
  · exact .trans (.withChannel ..) (setCondition_movesOnly ..)

/-- An event leaves its state as it is, or ends with the transmitter's choice (R194, log 5). -/
theorem asEvent_cases (f : State → State) (s : State) : asEvent f s = s ∨ asEvent f s = endEvent (f s) := by
  unfold asEvent
  split
  · exact .inr rfl
  · exact .inl rfl

/-- What an event's meaning leaves of the bag channel and S, its command leaves. -/
theorem asEvent_bag {f : State → State} {s t : State} (hf : (f s).bag = s.bag ∧ (f s).settledS = s.settledS)
    (h : (.next (asEvent f s) : Host.Outcome State Fault Refusal) = .next t) :
    t.bag = s.bag ∧ t.settledS = s.settledS := by
  cases h
  obtain h | h := asEvent_cases f s <;> rw [h]
  · exact ⟨rfl, rfl⟩
  · exact hf

/-- What an event's meaning leaves of the platter and its scale, its command leaves. -/
theorem asEvent_platter {f : State → State} {s t : State} (hf : (f s).platter = s.platter ∧ (f s).scale = s.scale)
    (h : (.next (asEvent f s) : Host.Outcome State Fault Refusal) = .next t) :
    t.platter = s.platter ∧ t.scale = s.scale := by
  cases h
  obtain h | h := asEvent_cases f s <;> rw [h]
  · exact ⟨rfl, rfl⟩
  · exact hf

/-- Settles O20: each event moves its own channel, and the last stages of an output leave the other one. -/
theorem channelsAreIndependent : Obligations.ChannelsAreIndependent := by
  intro s t x
  exact ⟨asEvent_bag (sampleArrives_platter x s), asEvent_platter (sampleArrives_bag x s),
    asEvent_bag (excitationLeaves_platter s), asEvent_platter (excitationLeaves_bag s).platter,
    asEvent_bag (excitationReturns_movesOnly .platter s).bag,
    asEvent_platter (excitationReturns_movesOnly .bag s).platter⟩

end Sys2Proof.Machine
end

section
namespace Sys2Proof.Machine

/-! ### A copy that passes its check, a write that is cut off -/

theorem passing_of_written {α : Type} {check : α → Byte} {c : StoredCopy α} {v : α} (h : c = .written v (check v)) :
    c.passing check = some v := by
  simp [h, StoredCopy.passing]

/-- Settles O7: a cut-off replaces the copy being written by one that holds no values (log 31). -/
theorem powerLossCutsWrite : Obligations.PowerLossCutsWrite := by
  intro s hp
  refine ⟨losePower s, by simp only [exec, execPowerLoss, hp, if_true], rfl, ?_, fun hw => ?_, fun v hw => ?_,
    fun r hw => ?_, fun r hw => ?_⟩
  · simp only [losePower, Store.cutOff]
    split
    · assumption
    all_goals rfl
  all_goals simp [losePower, Store.cutOff, hw, StoredCopy.passing]

/-! ### The start with passing copies -/

/-- The report of a start begins to be sent, and none waits behind it (R194, R201). -/
theorem startedLink_sends (v : Settings) (r : Report) :
    ((startedLink v).push r).choose =
      { startedLink v with transmitter := .sendingReport { lostBefore := false, report := r } } := rfl

theorem startedDrawer_eq (v : Settings) (isOpen : Bool) :
    startedDrawer v isOpen =
      { state := if isOpen = true ∧ v.drawerSensePresent = true then .opened else .closed
        senseOpen := isOpen
        attempts := 0
        phaseTimer := none
        alarmTimer :=
          if isOpen = true ∧ v.drawerSensePresent = true ∧ v.drawerAlarmS ≠ 0 then some (v.drawerAlarmS * 1000) else none
        dutyInForce := v.drawerHoldDuty
        pendingDuty := v.drawerHoldDuty
        kickSource := none } := by
  simp [startedDrawer, and_assoc]

/-- With copies that pass their checks a power-on starts every block from them and reports RESTARTED alone (R201). -/
theorem applyPower_eq {s : State} {v : Settings} {p b : CalRecord} (x : StartInputs) (hw : s.store.write = none)
    (hi : s.store.image = .written v v.checkByte) (hp : s.store.platterCopy = .written p p.checkByte)
    (hb : s.store.bagCopy = .written b b.checkByte) :
    s.store.loaded = v ∧ s.store.loadedRecord .platter = p ∧ s.store.loadedRecord .bag = b ∧
      applyPower x s = report (.restarted .powerOn true true (p.valid .platter) true (b.valid .bag))
        (startedBlocks x s) := by
  have himage := passing_of_written (check := Settings.checkByte) hi
  have hplatter := passing_of_written (check := CalRecord.checkByte) hp
  have hbag := passing_of_written (check := CalRecord.checkByte) hb
  have hcut : s.store.cutOff = s.store := by simp [Store.cutOff, hw]
  have hblocks : startedBlocks x (losePower s) = startedBlocks x s := by simp [startedBlocks, losePower, hcut]
  have hstore : (losePower s).store = s.store := hcut
  simp [applyPower, startPart, restartedReport, hblocks, hstore, Store.loaded, Store.loadedRecord, himage, hplatter,
    hbag]

/-- Settles O5: with passing copies the start loads the store, and each block is at its start values. -/
theorem powerOnLoadsStore : Obligations.PowerOnLoadsStore := by
  intro s x v p b hw hi hpc hbc starts
  obtain ⟨hlive, hp, hb, hstart⟩ := applyPower_eq x hw hi hpc hbc
  have hstarted (ch : ChannelId) (e : Bool) (r : CalRecord) : starts ch r e (startedChannel ch e r) :=
    ⟨rfl, rfl, rfl, rfl, rfl, rfl, rfl, rfl, rfl, rfl⟩
  refine ⟨endEvent (applyPower x s), rfl, ?_⟩
  rw [hstart]
  simp only [endEvent, report, startedBlocks, hlive, hp, hb, startedLink_sends, startedDrawer_eq]
  simp [hstarted, startedLink, Settings.line, Receiver.hunting, startedSale, startedScale, startedMonitor, startedReader, Track.blank, startedTone,
    startedSupply, startedQueue, startedEngine]

end Sys2Proof.Machine
end

section
namespace Sys2Proof.Machine

/-! ### Loss and return of excitation -/

/-- A channel replaced whose condition then changes (R16). -/
theorem setCondition_withChannel (ch : ChannelId) (k : ChannelCondition) (c : Channel) (s : State) :
    setCondition ch k (s.withChannel ch c) = { s.withChannel ch { c with condition := k } with
      link := if c.condition = k then s.link else s.link.push (.channelState ch k c.condition) } := by
  rw [setCondition_eq]
  cases ch <;> rfl

/-- A weigh request in flight ends with one WEIGH_DONE (R48). -/
theorem endWeigh_of_some {r : WeighResult} {e : Option Nat} {n p : Option Int} {s : State}
    (h : s.scale.weigh ≠ none) :
    endWeigh r e n p s = { s with
      scale := { s.scale with weigh := none }
      link := s.link.push (.weighDone r e n p) } := by
  unfold endWeigh
  split
  · contradiction
  · rfl

/-- An event of a powered part. -/
theorem asEvent_powered {f : State → State} {s : State} (h : s.powered = true) : asEvent f s = endEvent (f s) := by
  simp [asEvent, h]

/-- Settles O41: the one change of condition of each event, and the weigh request that a loss ends. -/
theorem excitationRules : Obligations.ExcitationRules := by
  intro s ch hp c gone left begun
  have lost : exec (.excitationLost ch) s = .next (endEvent (excitationLeaves ch s)) :=
    congrArg _ (asEvent_powered hp)
  have back : exec (.excitationReturn ch) s = .next (endEvent (excitationReturns ch s)) :=
    congrArg _ (asEvent_powered hp)
  have faulted (hk : c.condition ≠ .fault) : setCondition ch .fault
      (s.withChannel ch { c.emptied with converterOn := false }) = { s.withChannel ch gone with link := left } := by
    rw [setCondition_withChannel]
    simp only [Channel.emptied, hk, if_false]
    rfl
  refine ⟨fun hk => ?_, fun hk hw => ?_, fun hk hch hw => ?_, fun hk => ?_, fun hk => ?_⟩
  · rw [lost, excitationLeaves, if_pos hk]
  · simp only [lost, excitationLeaves, hk, if_false, faulted hk, c]
    cases ch with
    | bag => rfl
    | platter =>
      have hw : s.scale.weigh = none := by simpa using hw
      simp [endWeigh, hw]
  · subst hch
    simp only [lost, excitationLeaves, hk, if_false, faulted hk, c]
    rw [endWeigh_of_some (by exact hw)]
    rfl
  · have hchange : c.condition ≠ startCondition ch c.record := hk ▸ (startCondition_ne_fault ch c.record).symm
    rw [back, excitationReturns, if_pos hk, startChannel_eq, if_neg hchange, hk]
    rfl
  · rw [back, excitationReturns, if_neg hk]

end Sys2Proof.Machine
end

section
namespace Sys2Proof.Machine

/-! ### A SET that restarts a channel -/

/-- A SET of a number is answered with the value its kind takes (R198). -/
theorem setRequest_number {id : Byte} {v : Wide} {k : SettingKind} {x : Int} (hk : settingKind id.toNat = some k)
    (hx : takenNumber k v.toInt = some x) (s : State) :
    setRequest id (.number v) s = (changeSetting id.toNat (.number x) s,
      .reply (if x = v.toInt then .ok else .adjusted) (.setting id.toNat (.number x))) := by
  cases k with
  | text => cases hx
  | _ => simp [setRequest, hk, hx, setAnswer]

/-- The six settings of a channel restart it (R15). -/
theorem settingEffect_of_channel {ch : ChannelId} {id : Nat} (h : id ∈ if ch = .platter then [0, 2, 4] else [1, 3, 5])
    (s : State) : settingEffect id s = restartChannel ch s := by
  cases ch <;> simp at h <;> obtain rfl | rfl | rfl := h <;> rfl

/-- Settles O32: the reply carries the value taken, and the effect of a change is the channel's restart. -/
theorem setRestartsChannel : Obligations.SetRestartsChannel := by
  intro s tag id v ch k x ha hid hk hx c st stored begun restarted
  have replies {t : State} (ht : changeSetting id.toNat (.number x) s = t)
      (hl : t.link.lineChangeDue = s.link.lineChangeDue) (hr : t.link.restart = s.link.restart) :
      exec (.set tag id (.number v)) s = .next (t.replies 0x29 tag st (.setting id.toNat (.number x))) :=
    exec_replies ha rfl rfl ((setRequest_number hk hx s).trans (by rw [ht])) hl hr
  have changed (hne : s.store.live.get id.toNat ≠ some (.number x)) :
      changeSetting id.toNat (.number x) s = restartChannel ch stored :=
    (if_neg hne).trans (settingEffect_of_channel hid stored)
  have hch : stored.channel ch = c := by cases ch <;> rfl
  refine ⟨fun heq => ?_, fun hne hf => ?_, fun hne hf => ?_⟩
  · exact replies (if_pos heq) rfl rfl
  · exact replies (by rw [changed hne, restartChannel, hch, if_pos hf]) rfl rfl
  · refine replies ?_ ?_ ?_
    · rw [changed hne, restartChannel, hch, if_neg hf, startChannel_eq, hch]
      cases ch <;> rfl
    · dsimp only
      split <;> simp
    · dsimp only
      split <;> simp

end Sys2Proof.Machine
end

section
namespace Sys2Proof.Machine

/-! ### ZERO -/

/-- A byte of 2 or more names no channel (section 1.1). -/
theorem channelOfByte_none {m : Byte} (h : 2 ≤ m.toNat) : channelOfByte m = none := by
  unfold channelOfByte
  rw [if_neg (by rintro rfl; exact absurd h (by decide)), if_neg (by rintro rfl; exact absurd h (by decide))]

theorem roundAway_zero {d : Int} (h : 0 < d) : roundAway 0 d = 0 := by
  have := roundAway_mul d.toNat 0 (by omega)
  simpa [Int.toNat_of_nonneg h.le] using this

/-- The span of a valid record is 50,000 counts or more (R17). -/
theorem counts_of_valid {ch : ChannelId} {r : CalRecord} {sp : Span} (hv : r.valid ch = true) (hs : r.span = some sp) :
    50000 ≤ sp.counts := by
  simp [CalRecord.valid, hs] at hv
  omega

/-- The fine gross of a reading taken as zero_ref is 0 (R6, R10). -/
theorem fineGrossOf_self {ch : ChannelId} {r : CalRecord} {sp : Span} (hv : r.valid ch = true)
    (hs : r.span = some sp) (v : Int) : fineGrossOf ch r (some v) v = some 0 := by
  have hc := counts_of_valid hv hs
  simp [fineGrossOf, hv, hs, roundAway_zero (show 0 < sp.counts by omega)]

/-- A reading of fine gross `f` taken as zero_ref: its fine gross becomes 0 and the stability ring moves by `f` (R10). -/
theorem zeroAt_reading {ch : ChannelId} {c : Channel} {o : FilterOutput} {f : Int} {sp : Span}
    (ho : c.latest = some o) (hf : o.fineGross = some f) (hv : c.record.valid ch = true) (hs : c.record.span = some sp) :
    c.zeroAt ch o.filtered =
      { c with
        zeroRef := some o.filtered
        trackingCount := 0
        latest := some { o with fineGross := some 0 }
        stabilityRing := c.stabilityRing.map fun v => v - f } := by
  simp [Channel.zeroAt, Channel.rebase, ho, hf, fineGrossOf_self hv hs, Int.sub_eq_add_neg]

/-- The limit of R7 written out on the record's span. -/
theorem withinLimitOf_iff {r : CalRecord} {sp : Span} (hs : r.span = some sp) (a b limit : Int) :
    withinLimitOf r a (some b) limit = true ↔ (a - b).natAbs * sp.loadT ≤ limit * sp.counts := by
  simp [withinLimitOf, withinLimit, hs]

theorem stableReading_eq {c : Channel} {o : FilterOutput} (ho : c.latest = some o) (hst : o.stable = true) :
    c.stableReading = some o.filtered := by
  simp [Channel.stableReading, ho, hst]

theorem stableReading_none {c : Channel} (h : ∀ o, c.latest = some o → o.stable = false) : c.stableReading = none := by
  unfold Channel.stableReading
  split
  · next o ho => simp [h o ho]
  · rfl

/-- The effects of a ZERO, with the channel written out (R22, R24). -/
theorem zeroTaken_eq {ch : ChannelId} {s : State} {v : Int} {z : Channel} (hz : (s.channel ch).zeroAt ch v = z) :
    zeroTaken ch v s = { s.withChannel ch (if (s.channel ch).condition = .noZero then
        { z with powerUpZero := some v, condition := .ready } else z) with
      settledS := if ch = .bag then some 0 else s.settledS
      link := if (s.channel ch).condition = .noZero then s.link.push (.channelState ch .ready .noZero) else s.link } := by
  have hk : z.condition = (s.channel ch).condition := by rw [← hz]; exact (zeroAt_frame ch v _).1
  unfold zeroTaken
  simp only [hz, setCondition_withChannel, hk]
  by_cases h : (s.channel ch).condition = .noZero
  · simp only [h, if_true, reduceCtorEq, if_false]
    cases ch <;> rfl
  · simp only [h, if_false]
    cases ch <;> rfl

/-- ZERO once its checks of condition, weigh request and tare have passed: the reading decides (R22). -/
theorem zeroOn_free {ch : ChannelId} {s : State}
    (hk : (s.channel ch).condition.ranged ∨ (s.channel ch).condition = .noZero)
    (hfree : ch = .platter → s.scale.weigh = none ∧ s.scale.tareT = 0) :
    ((s.channel ch).stableReading = none → zeroOn ch s = refuse .busy s) ∧
      ∀ v, (s.channel ch).stableReading = some v →
        zeroOn ch s = if zeroAllowed ch v (s.channel ch) then done (zeroTaken ch v s) else refuse .badValue s := by
  have hweigh : ¬(ch = .platter ∧ s.scale.weigh.isSome) := fun ⟨hch, hw⟩ => by simp [(hfree hch).1] at hw
  have htare : ¬(ch = .platter ∧ s.scale.tareT ≠ 0) := fun ⟨hch, ht⟩ => ht (hfree hch).2
  constructor
  · intro hr
    simp only [zeroOn, not_not.2 hk, hweigh, htare, if_false, hr]
  · intro v hr
    simp only [zeroOn, not_not.2 hk, hweigh, htare, if_false, hr]

/-- Settles O35: each check of ZERO in its order, and the effects once all of them pass. -/
theorem zeroTakesReading : Obligations.ZeroTakesReading := by
  intro s tag n ch ha hn c refused free
  have hbyte : channelOfByte n = some ch := by subst hn; cases ch <;> rfl
  have hzero : handleRequest (.zero n) s = zeroOn ch s := by
    simp only [handleRequest, zeroRequest, hbyte]
  have refuses {m : Byte} {st : Status} (h : handleRequest (.zero m) s = refuse st s) :
      exec (.zero tag m) s = .next (s.replies 0x02 tag st .empty) :=
    exec_replies ha rfl rfl h rfl rfl
  refine ⟨fun hk => ?_, fun hk => ?_, fun m hm => ?_⟩
  · refine refuses (hzero.trans (if_pos ?_))
    change ¬(c.condition.ranged ∨ c.condition = .noZero)
    simp at hk
    obtain hk | hk | hk := hk <;> simp [hk, ChannelCondition.ranged]
  · have check1 : c.condition.ranged ∨ c.condition = .noZero := by
      simp at hk
      obtain hk | hk | hk | hk := hk <;> simp [hk, ChannelCondition.ranged]
    refine ⟨fun hch hw => ?_, fun hch hw ht => ?_, fun hfree hst => ?_, ?_⟩
    · refine refuses (hzero.trans ?_)
      unfold zeroOn
      rw [if_neg (not_not.2 check1), if_pos ⟨hch, Option.isSome_iff_ne_none.2 hw⟩]
    · refine refuses (hzero.trans ?_)
      unfold zeroOn
      rw [if_neg (not_not.2 check1), if_neg (by simp [hw]), if_pos ⟨hch, ht⟩]
    · exact refuses (hzero.trans ((zeroOn_free check1 hfree).1 (stableReading_none hst)))
    · intro o f sp hfree ho hst hf hv hs about limit hnoZero hother
      have read := hzero.trans ((zeroOn_free check1 hfree).2 _ (stableReading_eq ho hst))
      have hallowed : zeroAllowed ch o.filtered c = true ↔
          (o.filtered - about).natAbs * sp.loadT ≤ limit * sp.counts := by
        rw [← withinLimitOf_iff hs]
        unfold zeroAllowed
        split
        · next h => obtain ⟨hz, rfl⟩ := hnoZero h; rw [hz]; rfl
        · next h => obtain ⟨hz, rfl⟩ := hother h; rw [hz]; rfl
      refine ⟨fun hout => refuses ?_, fun hin => ?_⟩
      · exact read.trans (if_neg (by rw [hallowed]; omega))
      · have taken := read.trans (if_pos (hallowed.2 hin))
        rw [zeroTaken_eq (zeroAt_reading ho hf hv hs)] at taken
        refine exec_replies ha rfl rfl taken ?_ ?_
        · dsimp only
          split <;> simp
        · dsimp only
          split <;> simp
  · exact refuses (by simp only [handleRequest, zeroRequest, channelOfByte_none hm])

end Sys2Proof.Machine
end

section
namespace Sys2Proof.Machine

/-! ### Calibration -/

/-- The channel after a step in one form for a record that is valid and one that is not (R18, R19, log 38). -/
theorem calibrated_eq (ch : ChannelId) (zeroToo : Bool) (r : CalRecord) (c : Channel) :
    c.calibrated ch zeroToo r =
      { c with
        record := r
        zeroRef := if r.valid ch ∨ zeroToo then r.calZero else c.zeroRef
        powerUpZero := if r.valid ch then r.calZero else c.powerUpZero
        trackingCount := if r.valid ch ∨ zeroToo then 0 else c.trackingCount
        stabilityRing := if r.valid ch ∨ c.record.valid ch then [] else c.stabilityRing } := by
  unfold Channel.calibrated
  split <;> simp [*]

/-- All that a successful step does (R18): the channel, tare or S, the write of the record, one report at a change. -/
theorem calibrationStep_eq (ch : ChannelId) (zeroToo : Bool) (r : CalRecord) (s : State) :
    calibrationStep ch zeroToo r s =
      ({ s.withChannel ch { (s.channel ch).calibrated ch zeroToo (r.stepped ch) with
          condition := startCondition ch (r.stepped ch) } with
        scale := if ch = .platter then { s.scale with tareT := 0 } else s.scale
        settledS := if ch = .platter then s.settledS else none
        store := { s.store with write := some (.record ch (r.stepped ch)) }
        link := if (s.channel ch).condition = startCondition ch (r.stepped ch) then s.link
          else s.link.push (.channelState ch (startCondition ch (r.stepped ch)) (s.channel ch).condition) },
        .deferred) := by
  unfold calibrationStep clearAfterStep
  simp only [setCondition_eq]
  cases ch <;> simp [State.withChannel, State.channel, calibrated_condition] <;> rfl

/-- The shared checks of a calibration step in their order (R18). -/
theorem calibrationCheck_eq (ch : ChannelId) (s : State) :
    (s.inputs.calEnable = false → calibrationCheck ch s = some .calDisabled) ∧
      (s.inputs.calEnable = true → ch = .platter → s.scale.weigh ≠ none → calibrationCheck ch s = some .busy) ∧
      (s.inputs.calEnable = true → (ch = .platter → s.scale.weigh = none) →
        ((s.channel ch).condition = .fault → calibrationCheck ch s = some .badState) ∧
        ((s.channel ch).condition ≠ .fault → calibrationCheck ch s = none)) := by
  unfold calibrationCheck
  refine ⟨fun h => if_pos h, fun h hch hw => ?_, fun h hfree => ?_⟩
  · rw [if_neg (by simp [h]), if_pos ⟨hch, Option.isSome_iff_ne_none.2 hw⟩]
  · have hweigh : ¬(ch = .platter ∧ s.scale.weigh.isSome) := fun ⟨hch, hw⟩ => by simp [hfree hch] at hw
    rw [if_neg (by simp [h]), if_neg hweigh]
    exact ⟨fun hf => if_pos hf, fun hf => if_neg hf⟩

theorem profileOfByte_none {m : Byte} (h : 3 ≤ m.toNat) : profileOfByte m = none := by
  unfold profileOfByte
  rw [if_neg (by rintro rfl; exact absurd h (by decide)), if_neg (by rintro rfl; exact absurd h (by decide)),
    if_neg (by rintro rfl; exact absurd h (by decide))]

theorem profileOfByte_some {m : Byte} (h : m.toNat ≤ 2) : ∃ p, profileOfByte m = some p := by
  unfold profileOfByte
  split_ifs with h0 h1 h2
  · exact ⟨_, rfl⟩
  · exact ⟨_, rfl⟩
  · exact ⟨_, rfl⟩
  · refine absurd h (not_le.2 ?_)
    bv_omega

/-- CAL_ZERO once its shared checks have passed: the reading decides (R19). -/
theorem calZeroOn_checked {ch : ChannelId} {s : State} (hc : calibrationCheck ch s = none) :
    ((s.channel ch).stableReading = none → calZeroOn ch s = refuse .busy s) ∧
    ∀ v, (s.channel ch).stableReading = some v →
      calZeroOn ch s = calibrationStep ch true { (s.channel ch).record with calZero := some v } s := by
  refine ⟨fun hr => ?_, fun v hr => ?_⟩ <;> simp only [calZeroOn, hc, hr]

/-- CAL_SPAN once its shared checks have passed: cal_zero, the load, the reading and the span decide (R20). -/
theorem calSpanOn_checked {ch : ChannelId} {s : State} (loadT : Int) (hc : calibrationCheck ch s = none) :
    ((s.channel ch).record.calZero = none → calSpanOn ch loadT s = refuse .badState s) ∧
    ((s.channel ch).record.calZero ≠ none →
      loadInRange (channelMax ch (s.channel ch).record) loadT = false → calSpanOn ch loadT s = refuse .badValue s) ∧
    ∀ z, (s.channel ch).record.calZero = some z →
      loadInRange (channelMax ch (s.channel ch).record) loadT = true →
      ((s.channel ch).stableReading = none → calSpanOn ch loadT s = refuse .busy s) ∧
      ∀ v, (s.channel ch).stableReading = some v → calSpanOn ch loadT s =
        if v - z < 50000 then refuse .badValue s
        else calibrationStep ch false
          { (s.channel ch).record with span := some { counts := v - z, loadT := loadT } } s := by
  refine ⟨fun hz => ?_, fun hz hl => ?_, fun z hz hl => ⟨fun hr => ?_, fun v hr => ?_⟩⟩
  · simp only [calSpanOn, hc, hz]
  · obtain ⟨z, hz⟩ := Option.ne_none_iff_exists'.1 hz
    simp only [calSpanOn, hc, hz, hl, if_true]
  · simp [calSpanOn, hc, hz, hl, hr]
  · simp [calSpanOn, hc, hz, hl, hr]

/-- Settles O36. -/
theorem calibrationSteps : Obligations.CalibrationSteps := by
  intro s on tag n ch load ha hn c at' counted taken all
  have hbyte : channelOfByte n = some ch := by subst hn; cases ch <;> rfl
  have hat : at'.accepts := ha
  have command {i : Instr} {r : Request} (hi : exec i s = .next (asCalibration on tag r s)) :
      exec i s = .next (asRequest tag r at') := hi.trans (congrArg _ (asCalibration_eq on tag r s ha.1))
  have refused {i : Instr} {r : Request} {kind : Byte} {st : Status}
      (hi : exec i s = .next (asCalibration on tag r s)) (hk : requestKind r = kind)
      (hr : handleRequest r at' = refuse st at') : exec i s = .next (at'.replies kind tag st .empty) :=
    (command hi).trans (congrArg _ (hk ▸ asRequest_replies hat hr rfl rfl))
  have stepped {i : Instr} {r : Request} {kind : Byte} {z : Bool} {x : CalRecord}
      (hi : exec i s = .next (asCalibration on tag r s)) (hk : requestKind r = kind)
      (hr : handleRequest r at' = calibrationStep ch z x at') : exec i s = .next (taken kind z (counted x)) := by
    rw [← hk, command hi, asRequest_deferred hat (hr.trans (calibrationStep_eq ch z x at')), calibrated_eq]
    cases ch <;> rfl
  have hzero : handleRequest (.calZero n) at' = calZeroOn ch at' := by
    simp only [handleRequest, calZeroRequest, hbyte]
  have hspan : handleRequest (.calSpan n load) at' = calSpanOn ch (load.toInt * 10) at' := by
    simp only [handleRequest, calSpanRequest, hbyte]
  have hall {st : Status} (hc : calibrationCheck ch at' = some st) : all st :=
    ⟨refused rfl rfl (hzero.trans (by simp only [calZeroOn, hc])),
      refused rfl rfl (hspan.trans (by simp only [calSpanOn, hc]))⟩
  obtain ⟨hoff, hbusy, hon⟩ := calibrationCheck_eq ch at'
  refine ⟨fun h => hall (hoff h), fun h hch hw => hall (hbusy h hch hw), fun h hfree hf => hall ((hon h hfree).1 hf),
    fun h hfree hf => ?_, ?_, ?_⟩
  · have hc := (hon h hfree).2 hf
    obtain ⟨hunread, hzeroed⟩ := calZeroOn_checked hc
    obtain ⟨hnoZero, hload, hread⟩ := calSpanOn_checked (load.toInt * 10) hc
    have range : loadInRange (channelMax ch c.record) (load.toInt * 10) = true ↔
        channelMax ch c.record ≤ 10 * (load.toInt * 10) ∧ load.toInt * 10 ≤ channelMax ch c.record := by
      simp [loadInRange]
    refine ⟨fun o ho hst => ?_, fun hst => ?_, fun hz => ?_, fun hz hout => ?_, fun hch m p hmp => ?_⟩
    · have hr := stableReading_eq ho hst
      refine ⟨stepped rfl rfl (hzero.trans (hzeroed _ hr)), fun z hz hl hm => ?_⟩
      have read := hspan.trans ((hread z hz (range.2 ⟨hl, hm⟩)).2 _ hr)
      exact ⟨fun hv => stepped rfl rfl (read.trans (if_neg (by omega))), fun hv => refused rfl rfl (read.trans (if_pos hv))⟩
    · have hr := stableReading_none hst
      refine ⟨refused rfl rfl (hzero.trans (hunread hr)), fun hz hl hm => ?_⟩
      obtain ⟨z, hz⟩ := Option.ne_none_iff_exists'.1 hz
      exact refused rfl rfl (hspan.trans ((hread z hz (range.2 ⟨hl, hm⟩)).1 hr))
    · exact refused rfl rfl (hspan.trans (hnoZero hz))
    · refine refused rfl rfl (hspan.trans (hload hz (Bool.eq_false_iff.2 fun h => ?_)))
      have := range.1 h
      omega
    · subst hch
      have hp : profileOfByte m = some p := by
        simp only [List.mem_cons, Prod.mk.injEq, List.not_mem_nil, or_false] at hmp
        obtain ⟨rfl, rfl⟩ | ⟨rfl, rfl⟩ | ⟨rfl, rfl⟩ := hmp <;> rfl
      exact stepped rfl rfl (by simp only [handleRequest, setProfileRequest, hp, hc]; rfl)
  · rintro rfl m hm st hst
    obtain ⟨p, hp⟩ := profileOfByte_some hm
    have hcheck : calibrationCheck .platter at' = some st := by
      obtain ⟨h, rfl⟩ | ⟨h, hw, rfl⟩ | ⟨h, hw, hf, rfl⟩ := hst
      · exact hoff h
      · exact hbusy h rfl hw
      · exact (hon h fun _ => hw).1 hf
    exact refused rfl rfl (by simp only [handleRequest, setProfileRequest, hp, hcheck])
  · intro m hm
    refine ⟨refused rfl rfl ?_, refused rfl rfl ?_,
      fun hm => refused rfl rfl ?_⟩
    · simp only [handleRequest, calZeroRequest, channelOfByte_none hm]
    · simp only [handleRequest, calSpanRequest, channelOfByte_none hm]
    · simp only [handleRequest, setProfileRequest, profileOfByte_none hm]

end Sys2Proof.Machine
end

section
namespace Sys2Proof.Machine

/-! ### A filter output: what each stage gives -/

/-- Saturation is read off the ring (R4). -/
theorem saturationOf_eq (ring : List Int) :
    saturationOf ring = if (8388607 : Int) ∈ ring then .high else if (-8388608 : Int) ∈ ring then .low else .no := by
  simp [saturationOf]

/-- The fine gross in one expression of zero_ref and span (R6). -/
theorem fineGrossOf_eq (ch : ChannelId) (r : CalRecord) (zeroRef : Option Int) (v : Int) :
    fineGrossOf ch r zeroRef v = if r.valid ch then zeroRef.bind fun z => r.span.map fun sp =>
      roundAway ((v - z) * sp.loadT) sp.counts else none := by
  unfold fineGrossOf
  split
  · cases zeroRef <;> cases r.span <;> rfl
  · rfl

/-- A fine gross is formed only with a valid record (R6). -/
theorem valid_of_fineGross {ch : ChannelId} {r : CalRecord} {zeroRef : Option Int} {v f : Int}
    (h : fineGrossOf ch r zeroRef v = some f) : r.valid ch = true := by
  unfold fineGrossOf at h
  split at h
  · assumption
  · cases h

/-- The stable test says that the ring is full, every two of its values lie within the band, and the output is not
saturated (R8, R9). -/
theorem stableTest_eq {ring : List Int} (h : ring ≠ []) (m : Nat) (band : Int) (sat : Saturation) :
    stableTest ring m band sat =
      decide (ring.length = m ∧ (∀ a ∈ ring, ∀ b ∈ ring, a - b ≤ band) ∧ sat = .no) := by
  rw [← Bool.decide_coe (stableTest ..)]
  refine decide_eq_decide.2 ?_
  simp [stableTest, spread_iff ring band h, and_assoc]

/-- The stability band by the record and the channel (R1, R8). -/
theorem band_eq (v : Settings) (ch : ChannelId) (r : CalRecord) :
    (if r.valid ch then stabilityBand v ch r else 64) =
      if r.valid ch = false then 64 else if ch = .platter then r.profileInForce.e1 else (v.bagBand : Int) * 50 := by
  cases h : r.valid ch <;> cases ch <;> rfl

/-- A ring that a value is pushed on holds at least that value. -/
theorem ringPush_ne_nil (n : Nat) (v : Int) (ring : List Int) : ringPush n v ring ≠ [] := by
  unfold ringPush
  split <;> simp

theorem ringPush_length {n : Nat} (v : Int) {ring : List Int} (hn : 0 < n) (h : ring.length ≤ n)
    (h' : n ≤ ring.length + 1) : (ringPush n v ring).length = n := by
  rw [ringPush_eq n v ring hn h]
  simp
  omega

/-- The last stages of a filter output on a channel (R5). -/
def lastStages : ChannelId → State → State
  | .platter => platterStages
  | .bag => bagStage

/-- A sample that leaves the ring full forms an output, whose condition is judged before the last stages (R5). -/
theorem sampleArrives_full {ch : ChannelId} {x : Int} {s : State} {out : Channel} {o : FilterOutput}
    (hon : (s.channel ch).converterOn = true) (hset : (s.channel ch).settling = 0)
    (hfull : (ringPush (filterLen s.live ch) x (s.channel ch).filterRing).length = filterLen s.live ch)
    (hout : ((s.channel ch).takeSample (filterLen s.live ch) x).formOutput ch s.live = out)
    (ho : out.latest = some o) :
    sampleArrives ch x s = lastStages ch (judgeCondition ch o (s.withChannel ch out)) := by
  have hlen : ¬((s.channel ch).takeSample (filterLen s.live ch) x).filterRing.length < filterLen s.live ch := by
    simp [Channel.takeSample, hfull]
  have hlive (c : Channel) : (s.withChannel ch c).live = s.live := by cases ch <;> rfl
  simp only [sampleArrives, hon, hset, hlen, filterOutput, withChannel_channel, withChannel_withChannel, hlive, hout, ho,
    Bool.true_eq_false, lt_irrefl, if_false]
  cases ch <;> rfl

/-! ### The last stages -/

/-- The platter's last stages with no weigh request: zero tracking, then occupancy with one report at a change (R23,
R35, R37). -/
theorem platterStages_eq {s t : State} {o o' : FilterOutput} (ho : s.platter.latest = some o)
    (ht : trackZero o s = t) (ho' : t.platter.latest = some o') (hw : s.scale.weigh = none) :
    platterStages s = { t with
      scale := { s.scale with occupancy := occupancyAfter o' t }
      link := if occupancyAfter o' t = s.scale.occupancy then s.link
        else s.link.push (.platterState (occupancyAfter o' t) s.scale.occupancy) } := by
  have hscale : t.scale = s.scale := by rw [← ht, trackZero]; split <;> rfl
  have hlink : t.link = s.link := by rw [← ht, trackZero]; split <;> rfl
  simp only [platterStages, ho, ht, ho', Option.getD_some, examineWeigh, setOccupancy, hscale, hw, occupancyReport]
  split
  · next h => simp only [hlink]
  · next h => simp only [hlink, report]

/-- With no sale open the bag channel's last stage sets S at a stable READY output and does nothing else (R24, R79). -/
theorem bagStage_idle {s : State} {o : FilterOutput} {f : Int} (ho : s.bag.latest = some o)
    (hf : o.fineGross = some f) (hi : s.sale.current = .idle) :
    bagStage s = { s with
      settledS := if o.stable = true ∧ s.bag.condition = .ready then some (roundAway f 50 * 5) else s.settledS } := by
  have hchange (d : Int) (x : Option Int) : bagChange d { s with settledS := x } = { s with settledS := x } := by
    simp [bagChange, hi, CurrentSale.state]
  by_cases h : o.stable = true ∧ s.bag.condition = .ready
  · simp only [bagStage, ho, hf, h, Option.getD_some, bagGross, hchange]
    cases s.settledS <;> simp
  · simp only [bagStage, ho, h, if_false]
    simp only [Bool.and_eq_true, beq_iff_eq, h, if_false]

/-- Outside READY, OVERLOAD and UNDERLOAD an output passes its last stages without effect (R23, R24, R35). -/
theorem lastStages_not_ranged {ch : ChannelId} {s : State} {o : FilterOutput} (ho : (s.channel ch).latest = some o)
    (hk : (s.channel ch).condition.ranged = false) (hw : ch = .platter → s.scale.weigh = none) :
    lastStages ch s = s := by
  have hready : (s.channel ch).condition ≠ .ready := by
    intro h
    simp [h, ChannelCondition.ranged] at hk
  cases ch with
  | platter =>
    have ht : trackZero o s = s := by
      have : s.platter.condition ≠ .ready := hready
      simp [trackZero, trackingCorrects, this]
    have hocc : occupancyAfter o s = s.scale.occupancy := by
      have : s.platter.condition.ranged = false := hk
      simp [occupancyAfter, this]
    rw [lastStages, platterStages_eq ho ht ho (hw rfl), hocc, if_pos rfl]
  | bag =>
    have hb : s.bag.latest = some o := ho
    have : s.bag.condition ≠ .ready := hready
    simp [lastStages, bagStage, hb, this]

/-! ### The condition of an output -/

theorem judgeCondition_kept {ch : ChannelId} {o : FilterOutput} {s : State}
    (h : (s.channel ch).condition = .uncalibrated ∨ (s.channel ch).condition = .noZero ∨
      (s.channel ch).condition = .starting ∧ o.stable = false) : judgeCondition ch o s = s := by
  obtain h | h | ⟨h, hst⟩ := h
  · simp [judgeCondition, h, ChannelCondition.ranged]
  · simp [judgeCondition, h, ChannelCondition.ranged]
  · simp [judgeCondition, h, hst]

/-- The range test, in READY, OVERLOAD and UNDERLOAD and where STARTING is left with a power-up zero (R11, R12). -/
theorem judgeCondition_ranged {ch : ChannelId} {o : FilterOutput} {s : State}
    (h : (s.channel ch).condition.ranged = true ∨
      (s.channel ch).condition = .starting ∧ o.stable = true ∧ (s.channel ch).powerUpZero ≠ none) :
    judgeCondition ch o s =
      setCondition ch (rangeCondition ch (s.channel ch).record o.saturated (o.fineGross.getD 0)) s := by
  unfold judgeCondition
  obtain h | ⟨h, hst, hp⟩ := h
  · have hk : (s.channel ch).condition ≠ .starting := by
      intro e
      simp [e, ChannelCondition.ranged] at h
    simp [h, hk]
  · obtain ⟨z, hz⟩ := Option.ne_none_iff_exists'.1 hp
    simp [h, hst, leaveStarting, hz]

/-- STARTING left for the first time: the power-up zero is taken, or NO_ZERO entered (R11). -/
theorem judgeCondition_first {ch : ChannelId} {o : FilterOutput} {s : State}
    (hk : (s.channel ch).condition = .starting) (hst : o.stable = true) (hp : (s.channel ch).powerUpZero = none) :
    judgeCondition ch o s =
      if withinLimitOf (s.channel ch).record o.filtered (s.channel ch).record.calZero
          (tenPercent ch (s.channel ch).record) then
        setCondition ch .ready
          (s.withChannel ch { (s.channel ch).zeroAt ch o.filtered with powerUpZero := some o.filtered })
      else setCondition ch .noZero s := by
  simp [judgeCondition, hk, hst, leaveStarting, hp]

/-- The range test gives a condition in which it is applied again (R12). -/
theorem rangeCondition_ranged (ch : ChannelId) (r : CalRecord) (sat : Saturation) (f : Int) :
    (rangeCondition ch r sat f).ranged = true := by
  unfold rangeCondition
  split_ifs <;> rfl

/-- A fine gross of 0 lies below the empty threshold (R35). -/
theorem occupancyAfter_zero {o : FilterOutput} {s : State} (hst : o.stable = true) (hf : o.fineGross = some 0)
    (hk : s.platter.condition.ranged = true) : occupancyAfter o s = .empty := by
  have h : (0 : Int) ≤ s.platter.record.profileInForce.emptyThreshold := by
    cases s.platter.record.profileInForce <;> decide
  simp [occupancyAfter, hst, hk, hf, judgedOccupancy, h]

theorem occupancyAfter_eq {o : FilterOutput} {s : State} {f : Int} (hf : o.fineGross = some f)
    (hk : s.platter.condition.ranged = true) :
    occupancyAfter o s = if o.stable = false then s.scale.occupancy
      else if f ≤ 10 * s.platter.record.profileInForce.e1 then .empty
      else if s.scale.occupancy = .locked then .locked else .loaded := by
  cases hst : o.stable with
  | false => simp [occupancyAfter, hst]
  | true =>
    simp only [occupancyAfter, hst, hk, hf, judgedOccupancy, Profile.emptyThreshold, Bool.and_self, if_true,
      Option.getD_some, Bool.true_eq_false, if_false]
    cases s.scale.occupancy <;> rfl

/-- When zero tracking corrects (R23). -/
theorem trackingCorrects_iff {o : FilterOutput} {s : State} {f : Int} {sp : Span} (hf : o.fineGross = some f)
    (hs : s.platter.record.span = some sp) (hw : s.scale.weigh = none) :
    trackingCorrects o s = true ↔ s.platter.condition = .ready ∧ o.stable = true ∧ s.scale.occupancy = .empty ∧
      s.scale.tareT = 0 ∧ f ≠ 0 ∧ 2 * f.natAbs ≤ s.platter.record.profileInForce.e1 ∧ s.platter.trackingCount = 32 ∧
      ∃ u, s.platter.powerUpZero = some u ∧
        (o.filtered - u).natAbs * sp.loadT ≤ s.platter.record.profileInForce.max / 50 * sp.counts := by
  have hnarrow : 2 * f.natAbs ≤ (channelE1 .platter s.platter.record).natAbs ↔
      2 * (f.natAbs : Int) ≤ s.platter.record.profileInForce.e1 := by
    simp only [channelE1]
    cases s.platter.record.profileInForce <;> simp only [Profile.e1] <;> omega
  have hnear : withinLimitOf s.platter.record o.filtered s.platter.powerUpZero (twoPercent .platter s.platter.record)
      = true ↔ ∃ u, s.platter.powerUpZero = some u ∧
        (o.filtered - u).natAbs * sp.loadT ≤ s.platter.record.profileInForce.max / 50 * sp.counts := by
    cases hp : s.platter.powerUpZero with
    | none => simp [withinLimitOf]
    | some u => rw [withinLimitOf_iff hs]; simp [twoPercent, channelMax]
  simp only [trackingCorrects, hf, hw, Option.getD_some, Bool.and_eq_true, beq_iff_eq, decide_eq_true_eq, hnarrow, hnear,
    bne_iff_ne, Option.isNone_none, and_assoc, true_and]

end Sys2Proof.Machine
end

section
namespace Sys2Proof.Machine

/-- The output a full ring forms, every part of it written out (R4 to R9). -/
theorem formOutput_eq (ch : ChannelId) (v : Settings) (n m : Nat) (x : Int) (c : Channel) (hn : filterLen v ch = n)
    (hm : stableLen v ch = m) (ring stab : List Int) (fine : Option Int) (sat : Saturation)
    (hring : ringPush n x c.filterRing = ring) (hsum : c.filterSum = sumOf c.filterRing)
    (hfine : fineGrossOf ch c.record c.zeroRef (roundAway (sumOf ring) n) = fine) (hsat : saturationOf ring = sat)
    (hstab : ringPush m (fine.getD (roundAway (sumOf ring) n)) c.stabilityRing = stab) :
    (c.takeSample n x).formOutput ch v =
      { c with
        filterRing := ring, filterSum := sumOf ring
        latest := some
          { filtered := roundAway (sumOf ring) n, fineGross := fine, saturated := sat
            stable := stableTest stab m (if c.record.valid ch then stabilityBand v ch c.record else 64) sat }
        stabilityRing := stab
        trackingCount := if ch = .platter then min 32 (c.trackingCount + 1) else c.trackingCount } := by
  have hpush : (if c.filterRing.length < n then c.filterSum + x
      else c.filterSum + (x - c.filterRing.head?.getD 0)) = sumOf ring := by
    rw [← hring, sumOf_ringPush, hsum]
  subst hn hm hfine hsat hstab
  simp only [Channel.formOutput, Channel.takeSample, hpush, hring]
  cases ch <;> rfl

/-- The platter's last stages where zero tracking does not correct (R35, R37). -/
theorem platterStages_still {s : State} {o : FilterOutput} (ho : s.platter.latest = some o)
    (ht : trackingCorrects o s = false) (hw : s.scale.weigh = none) :
    platterStages s = { s with
      scale := { s.scale with occupancy := occupancyAfter o s }
      link := if occupancyAfter o s = s.scale.occupancy then s.link
        else s.link.push (.platterState (occupancyAfter o s) s.scale.occupancy) } :=
  platterStages_eq ho (by simp [trackZero, ht]) ho hw

/-- Where zero tracking corrects, zero_ref alone moves: the platter was EMPTY and stays so (R23, R35). -/
theorem platterStages_corrected {s : State} {o : FilterOutput} {f : Int} {sp : Span} (ho : s.platter.latest = some o)
    (hf : o.fineGross = some f) (hv : s.platter.record.valid .platter = true) (hs : s.platter.record.span = some sp)
    (hw : s.scale.weigh = none) (ht : trackingCorrects o s = true) :
    platterStages s = { s with platter := { s.platter with
      zeroRef := some o.filtered
      trackingCount := 0
      latest := some { o with fineGross := some 0 }
      stabilityRing := s.platter.stabilityRing.map fun v => v - f } } := by
  obtain ⟨hready, hst, hempty, -⟩ := (trackingCorrects_iff hf hs hw).1 ht
  have hzero := zeroAt_reading (ch := .platter) ho hf hv hs
  rw [platterStages_eq ho ((if_pos ht).trans (by rw [hzero])) rfl hw,
    occupancyAfter_zero (o := { o with fineGross := some 0 }) hst rfl (by simp [hready, ChannelCondition.ranged]),
    if_pos hempty.symm, ← hempty]

/-! ### An output carried through its stages -/

section
variable {ch : ChannelId} {s : State} {d : Channel} {o : FilterOutput} {f : Int} {sp : Span}

/-- An output whose channel keeps a condition outside the range test changes nothing more (R11, R12). -/
theorem output_kept (ho : d.latest = some o) (hw : ch = .platter → s.scale.weigh = none)
    (hk : d.condition = .uncalibrated ∨ d.condition = .noZero ∨ d.condition = .starting ∧ o.stable = false) :
    lastStages ch (judgeCondition ch o (s.withChannel ch d)) = s.withChannel ch d := by
  rw [judgeCondition_kept (by simpa using hk)]
  refine lastStages_not_ranged (o := o) (by simpa using ho) ?_ (by simpa using hw)
  obtain h | h | ⟨h, -⟩ := hk <;> simp [h, ChannelCondition.ranged]

/-- A stable output of 10 % of Max or less from cal_zero becomes the power-up zero (R11), with an empty platter (R35) or
S at 0 (R24). -/
theorem output_first_taken {z : Int} (ho : d.latest = some o) (hf : o.fineGross = some f)
    (hv : d.record.valid ch = true) (hs : d.record.span = some sp) (hk : d.condition = .starting)
    (hst : o.stable = true) (hp : d.powerUpZero = none) (hz : d.record.calZero = some z)
    (hin : (o.filtered - z).natAbs * sp.loadT ≤ channelMax ch d.record / 10 * sp.counts)
    (hw : ch = .platter → s.scale.weigh = none) (hi : ch = .bag → s.sale.current = .idle) :
    lastStages ch (judgeCondition ch o (s.withChannel ch d)) =
      { s.withChannel ch { d with
          condition := .ready, zeroRef := some o.filtered, trackingCount := 0
          latest := some { o with fineGross := some 0 }, stabilityRing := d.stabilityRing.map fun v => v - f
          powerUpZero := some o.filtered } with
        settledS := if ch = .bag then some 0 else s.settledS
        scale := if ch = .bag then s.scale else { s.scale with occupancy := .empty }
        link := if ch = .bag then s.link.push (.channelState ch .ready .starting)
          else if .empty = s.scale.occupancy then s.link.push (.channelState ch .ready .starting)
          else (s.link.push (.channelState ch .ready .starting)).push (.platterState .empty s.scale.occupancy) } := by
  have hnear : withinLimitOf d.record o.filtered d.record.calZero (tenPercent ch d.record) = true := by
    rw [hz, withinLimitOf_iff hs]; exact hin
  rw [judgeCondition_first (by simpa using hk) hst (by simpa using hp)]
  simp only [withChannel_channel, hnear, if_true, withChannel_withChannel, zeroAt_reading ho hf hv hs,
    setCondition_withChannel, hk, reduceCtorEq, if_false]
  cases ch with
  | platter =>
    rw [lastStages, platterStages_still (o := { o with fineGross := some 0 }) ?_ ?_ ?_,
      occupancyAfter_zero (by exact hst) rfl rfl]
    · simp [State.withChannel]
      rfl
    · rfl
    · simp [trackingCorrects]
    · exact hw rfl
  | bag =>
    rw [lastStages, bagStage_idle (o := { o with fineGross := some 0 }) (f := 0) ?_ ?_ ?_, if_pos ⟨hst, rfl⟩]
    · rfl
    · rfl
    · rfl
    · exact hi rfl

/-- A stable output further away enters NO_ZERO (R11). -/
theorem output_first_missed {z : Int} (ho : d.latest = some o) (hs : d.record.span = some sp)
    (hk : d.condition = .starting) (hst : o.stable = true) (hp : d.powerUpZero = none)
    (hz : d.record.calZero = some z)
    (hout : channelMax ch d.record / 10 * sp.counts < (o.filtered - z).natAbs * sp.loadT)
    (hw : ch = .platter → s.scale.weigh = none) :
    lastStages ch (judgeCondition ch o (s.withChannel ch d)) =
      { s.withChannel ch { d with condition := .noZero } with
        link := s.link.push (.channelState ch .noZero .starting) } := by
  have hfar : ¬withinLimitOf d.record o.filtered d.record.calZero (tenPercent ch d.record) = true := by
    rw [hz, withinLimitOf_iff hs]; exact not_le.2 hout
  rw [judgeCondition_first (by simpa using hk) hst (by simpa using hp)]
  simp only [withChannel_channel, hfar, setCondition_withChannel, hk, reduceCtorEq, if_false]
  refine lastStages_not_ranged (o := o) ?_ ?_ (by simpa using hw) <;> cases ch <;> first | exact ho | rfl

/-- The range test of an output, with one report at a change (R11, R12, R16). -/
theorem output_ranged (hf : o.fineGross = some f)
    (hk : d.condition.ranged = true ∨ d.condition = .starting ∧ o.stable = true ∧ d.powerUpZero ≠ none)
    {k : ChannelCondition} (hcond : rangeCondition ch d.record o.saturated f = k) :
    judgeCondition ch o (s.withChannel ch d) = { s.withChannel ch { d with condition := k } with
      link := if d.condition = k then s.link else s.link.push (.channelState ch k d.condition) } := by
  rw [judgeCondition_ranged (by simpa using hk), setCondition_withChannel, withChannel_channel, hf, Option.getD_some,
    hcond]

/-- A bag output judged by the range test sets S where it is stable and READY (R24). -/
theorem output_settles (ho : d.latest = some o) (hf : o.fineGross = some f)
    (hk : d.condition.ranged = true ∨ d.condition = .starting ∧ o.stable = true ∧ d.powerUpZero ≠ none)
    {k : ChannelCondition} (hcond : rangeCondition .bag d.record o.saturated f = k)
    (hi : s.sale.current = .idle) :
    lastStages .bag (judgeCondition .bag o (s.withChannel .bag d)) =
      { s.withChannel .bag { d with condition := k } with
        settledS := if o.stable = true ∧ k = .ready then some (roundAway f 50 * 5) else s.settledS
        link := if d.condition = k then s.link else s.link.push (.channelState .bag k d.condition) } := by
  rw [output_ranged hf hk hcond, lastStages, bagStage_idle (o := o) ?_ hf ?_]
  · rfl
  · exact ho
  · exact hi

/-- What zero tracking asks of a platter output judged by the range test (R23). -/
def Corrects (s : State) (d : Channel) (o : FilterOutput) (f : Int) (sp : Span) (k : ChannelCondition) : Prop :=
  k = .ready ∧ o.stable = true ∧ s.scale.occupancy = .empty ∧ s.scale.tareT = 0 ∧ f ≠ 0 ∧
    2 * f.natAbs ≤ d.record.profileInForce.e1 ∧ d.trackingCount = 32 ∧ ∃ u, d.powerUpZero = some u ∧
      (o.filtered - u).natAbs * sp.loadT ≤ d.record.profileInForce.max / 50 * sp.counts

/-- An output at which zero tracking corrects moves zero_ref alone: the platter stays EMPTY (R23, R35). -/
theorem output_corrected (ho : d.latest = some o) (hf : o.fineGross = some f) (hv : d.record.valid .platter = true)
    (hs : d.record.span = some sp)
    (hk : d.condition.ranged = true ∨ d.condition = .starting ∧ o.stable = true ∧ d.powerUpZero ≠ none)
    {k : ChannelCondition} (hcond : rangeCondition .platter d.record o.saturated f = k)
    (hw : s.scale.weigh = none) (hc : Corrects s d o f sp k) :
    lastStages .platter (judgeCondition .platter o (s.withChannel .platter d)) = { s with
      platter := { d with
        condition := k, zeroRef := some o.filtered, trackingCount := 0, latest := some { o with fineGross := some 0 }
        stabilityRing := d.stabilityRing.map fun v => v - f }
      link := if d.condition = k then s.link else s.link.push (.channelState .platter k d.condition) } := by
  rw [output_ranged hf hk hcond, lastStages, platterStages_corrected (o := o) ?_ hf ?_ hs ?_ ?_]
  · rfl
  · exact ho
  · exact hv
  · exact hw
  · exact (trackingCorrects_iff (sp := sp) hf (by exact hs) (by exact hw)).2 hc

/-- Any other output judges the occupancy (R35, R37). -/
theorem output_judged (ho : d.latest = some o) (hf : o.fineGross = some f)
    (hs : d.record.span = some sp)
    (hk : d.condition.ranged = true ∨ d.condition = .starting ∧ o.stable = true ∧ d.powerUpZero ≠ none)
    {k : ChannelCondition} (hcond : rangeCondition .platter d.record o.saturated f = k)
    (hw : s.scale.weigh = none) (hc : ¬Corrects s d o f sp k) {occ : Occupancy}
    (hocc : occ = if o.stable = false then s.scale.occupancy else if f ≤ 10 * d.record.profileInForce.e1 then .empty
      else if s.scale.occupancy = .locked then .locked else .loaded) :
    lastStages .platter (judgeCondition .platter o (s.withChannel .platter d)) = { s with
      platter := { d with condition := k }
      scale := { s.scale with occupancy := occ }
      link := if occ = s.scale.occupancy then
          if d.condition = k then s.link else s.link.push (.channelState .platter k d.condition)
        else (if d.condition = k then s.link else s.link.push (.channelState .platter k d.condition)).push
          (.platterState occ s.scale.occupancy) } := by
  have hranged : k.ranged = true := hcond ▸ rangeCondition_ranged ..
  rw [output_ranged hf hk hcond, lastStages, platterStages_still (o := o) ?_ ?_ ?_, occupancyAfter_eq hf hranged]
  · subst hocc
    rfl
  · exact ho
  · rw [Bool.eq_false_iff, ne_eq, trackingCorrects_iff hf (by exact hs) (by exact hw)]
    exact hc
  · exact hw

end

/-- A sample that leaves the ring short of full enters the ring and its sum alone (R5). -/
theorem sampleArrives_filling {ch : ChannelId} {x : Int} {s : State} (hon : (s.channel ch).converterOn = true)
    (hset : (s.channel ch).settling = 0) (hlen : (s.channel ch).filterRing.length + 1 < filterLen s.live ch) :
    sampleArrives ch x s = s.withChannel ch { s.channel ch with
      filterRing := (s.channel ch).filterRing ++ [x], filterSum := (s.channel ch).filterSum + x } := by
  have hshort : (s.channel ch).filterRing.length < filterLen s.live ch := by omega
  simp [sampleArrives, hon, hset, Channel.takeSample, ringPush, hshort, hlen]

/-- Settles O38: the output a full ring forms is the one stated, and each way it passes its stages is one of the
`output_` lemmas. -/
theorem samplesFillTheRing : Obligations.SamplesFillTheRing := by
  intro s ch x hp c n m
  have arrives : exec (.sampleArrival ch x) s = .next (endEvent (sampleArrives ch x s)) :=
    congrArg _ (asEvent_powered hp)
  refine ⟨fun hoff => ?_, fun hon hset => ?_, fun hon hset hlen => ?_, ?_⟩
  · rw [arrives, sampleArrives, if_pos hoff]
  · rw [arrives, sampleArrives, if_neg (by simp [hon, c]), if_pos hset]
  · rw [arrives, sampleArrives_filling hon hset hlen]
  · intro hon hset hn hlen hfull hsum hm hstab ring filtered fine sat stab band o out rezeroed told seen becomes
    have hstabPush : ringPush m (fine.getD filtered) c.stabilityRing = stab := ringPush_eq m _ _ hm hstab
    have hout : (c.takeSample n x).formOutput ch s.live = out := by
      rw [formOutput_eq ch s.live n m x c rfl rfl ring stab fine sat (ringPush_eq n x _ hn hlen) hsum
        (fineGrossOf_eq ..) (saturationOf_eq ring) hstabPush, band_eq,
        stableTest_eq (hstabPush ▸ ringPush_ne_nil m _ _)]
      rfl
    have becomes_of {t : State} (ht : lastStages ch (judgeCondition ch o (s.withChannel ch out)) = t) : becomes t := by
      have h := sampleArrives_full hon hset (ringPush_length x hn hlen hfull) hout rfl
      exact arrives.trans (by rw [h, ht])
    have told_eq (k : ChannelCondition) :
        (if out.condition = k then s.link else s.link.push (.channelState ch k out.condition)) = told k := by
      simp only [told, out, eq_comm]
    refine ⟨fun hk hw => becomes_of (output_kept rfl hw hk), ?_⟩
    intro f sp hf hs hw hi
    have hv : c.record.valid ch = true := valid_of_fineGross ((fineGrossOf_eq ..).trans hf)
    refine ⟨fun z hk hst hp hz => ⟨fun hin => ?_, fun hout => ?_⟩, fun hk => ?_⟩
    · have h := output_first_taken (d := out) (o := o) rfl hf hv hs hk hst hp hz hin hw hi
      have htold : told .ready = s.link.push (.channelState ch .ready .starting) := by simp [told, hk]
      rw [← htold] at h
      exact becomes_of h
    · have h := output_first_missed (d := out) (o := o) rfl hs hk hst hp hz hout hw
      have htold : told .noZero = s.link.push (.channelState ch .noZero .starting) := by simp [told, hk]
      rw [← htold] at h
      exact becomes_of h
    · intro cond
      have hranged : c.condition.ranged = true ∨ c.condition = .starting ∧ o.stable = true ∧ c.powerUpZero ≠ none := by
        refine hk.imp_left fun h => ?_
        simp only [List.mem_cons, List.not_mem_nil, or_false] at h
        obtain h | h | h := h <;> rw [h] <;> rfl
      refine ⟨fun hch => ?_, fun hch => ?_⟩ <;> subst hch
      · have h := output_settles (d := out) (o := o) (k := cond) rfl hf hranged rfl (hi rfl)
        rw [told_eq] at h
        exact becomes_of h
      · intro e1 corrects occ
        have hcount : out.trackingCount = 32 ↔ 31 ≤ c.trackingCount := by
          change min 32 (c.trackingCount + 1) = 32 ↔ _
          omega
        have hcorrects : Corrects s out o f sp cond ↔ corrects := by
          unfold Corrects
          rw [hcount]
        refine ⟨fun hc => ?_, fun hc => ?_⟩
        · have h := output_corrected (d := out) (o := o) (k := cond) rfl hf hv hs hranged rfl (hw rfl) (hcorrects.2 hc)
          obtain ⟨hready, -⟩ := hc
          rw [told_eq, hready] at h
          exact becomes_of h
        · have h := output_judged (d := out) (o := o) (occ := occ) (k := cond) rfl hf hs hranged rfl (hw rfl)
            (fun h => hc (hcorrects.1 h)) rfl
          rw [told_eq] at h
          exact becomes_of h

end Sys2Proof.Machine
end

section
namespace Sys2Proof.Machine

/-! ### What matches what (R75) -/

theorem matchesWeight_iff (d w t : Nat) : matchesWeight d w t = true ↔ d ≤ w + t ∧ w ≤ d + t := by
  simp only [matchesWeight, Bool.and_eq_true, decide_eq_true_eq]
  omega

theorem matchesEntry_iff (v : Settings) (d : Nat) (e : Entry) :
    matchesEntry v d e = true ↔ ∃ w, e.expected = some w ∧
      d ≤ w + e.tolerance.getD (computedTolerance v w) ∧ w ≤ d + e.tolerance.getD (computedTolerance v w) := by
  unfold matchesEntry entryTolerance
  split <;> simp [*, matchesWeight_iff]

theorem matchesDelta_iff (v : Settings) (d : Nat) (x : BagException) :
    matchesDelta v d x = true ↔ ∃ a, x.delta = some a ∧
      d ≤ a.natAbs + computedTolerance v a.natAbs ∧ a.natAbs ≤ d + computedTolerance v a.natAbs := by
  unfold matchesDelta
  split <;> simp [*, matchesWeight_iff]

theorem matchesRemoved_iff (d : Nat) (s : State) (x : BagException) :
    matchesRemoved d s x = true ↔ x.kind = .itemRemoved ∧ ∃ n e, x.entry = some n ∧
      findEntry n s.basket = some e ∧ matchesEntry s.live d e = true := by
  unfold matchesRemoved
  cases x.entry with
  | none => simp
  | some n => cases h : findEntry n s.basket <;> simp [h]

/-- The first of a list that a condition holds for. -/
theorem find?_of_split {α : Type} {p : α → Bool} {q : α → Prop} (hpq : ∀ y, p y = true ↔ q y) {l pre post : List α} {x : α}
    (hl : l = pre ++ x :: post) (hx : q x) (hpre : ∀ y ∈ pre, ¬q y) : l.find? p = some x := by
  refine List.find?_eq_some_iff_append.2 ⟨(hpq x).2 hx, pre, post, hl, fun y hy => ?_⟩
  simpa [Bool.eq_false_iff, hpq] using hpre y hy

theorem find?_of_none {α : Type} {p : α → Bool} {q : α → Prop} (hpq : ∀ y, p y = true ↔ q y) {l : List α}
    (h : ∀ y ∈ l, ¬q y) : l.find? p = none := by
  simpa [hpq] using h

/-! ### What a bag change leaves -/

/-- The state with its sale, monitor and link as given and nothing else moved. -/
def bagOutcome (s : State) (c : CurrentSale) (m : Monitor) (l : Link) : State :=
  { s with sale := { s.sale with current := c }, monitor := m, link := l }

/-- The same with the tone as the bagging alert leaves it (R88). -/
def AlertedOutcome (s : State) (c : CurrentSale) (m : Monitor) (l : Link) (t : State) : Prop :=
  ∃ x, t = { bagOutcome s c m l with tone := x } ∧ x.bagAlertHeld = (!m.exceptions.isEmpty || m.suspended)

/-- The open record with one entry's bagging status replaced. -/
def markEntry (n : Nat) (st : BaggingStatus) (c : CurrentSale) : CurrentSale :=
  c.mapRecord fun r => { r with basket := r.basket.map fun e => if e.number = n then { e with status := st } else e }

section
variable {s : State} {c : CurrentSale} {m : Monitor} {l : Link}

theorem setStatus_outcome {n : Nat} {e : Entry} (st : BaggingStatus)
    (h : findEntry n (bagOutcome s c m l).basket = some e) :
    setStatus n st .matched (bagOutcome s c m l) =
      bagOutcome s (markEntry n st c) m (l.push (.entryBagging e.number st (some e.status) .matched)) := by
  rw [setStatus_found st .matched h, findEntry_number h]
  rfl

theorem clearOne_outcome (x : BagException) :
    AlertedOutcome s c { m with exceptions := m.exceptions.filter fun y => y.id != x.id }
      (l.push (.bagException .cleared (some x.id) (some x.kind) x.entry x.delta (some .matched)
        (m.exceptions.filter fun y => y.id != x.id).length m.suspended none))
      (clearOne x .matched (bagOutcome s c m l)) :=
  clearOne_eq x .matched (bagOutcome s c m l)

theorem raise_outcome (k : ExceptionKind) (e : Option Nat) (a : Int) (h : m.exceptions.length < 8) :
    AlertedOutcome s c
      { m with
        exceptions := m.exceptions ++ [{ id := m.nextExceptionId, kind := k, entry := e, delta := some a }]
        nextExceptionId := nextFreeId (m.exceptions.map BagException.id ++ [m.nextExceptionId])
          (m.exceptions.length + 2) m.nextExceptionId }
      (l.push (.bagException .raised (some m.nextExceptionId) (some k) e (some a) none (m.exceptions.length + 1)
        m.suspended none))
      (raiseException k e (some a) (bagOutcome s c m l)) := by
  obtain ⟨x, hx, halert⟩ := (raiseException_eq k e (some a) (bagOutcome s c m l)).1 h
  exact ⟨x, hx, by simp [halert]⟩

theorem suspend_outcome (k : ExceptionKind) (e : Option Nat) (a : Int) (h : 8 ≤ m.exceptions.length) :
    AlertedOutcome s c { m with suspended := true, unclaimed := none }
      (l.push (.bagException .suspended none (some k) e (some a) none m.exceptions.length true none))
      (raiseException k e (some a) (bagOutcome s c m l)) := by
  obtain ⟨x, hx, halert⟩ := (raiseException_eq k e (some a) (bagOutcome s c m l)).2 h
  exact ⟨x, hx, by simp [halert]⟩

/-- An expectation met: it is removed and its entry takes the status; the exception that names the entry is cleared when
one is held (R80, R83). -/
theorem met_outcome {x : Expectation} {e : Entry} (st : BaggingStatus) (k : ExceptionKind)
    (h : findEntry x.entry (bagOutcome s c m l).basket = some e) :
    clearNaming k x.entry .matched
        (setStatus x.entry st .matched (removeExpectation x.entry (bagOutcome s c m l))) =
      clearNaming k x.entry .matched (bagOutcome s (markEntry x.entry st c)
        { m with expectations := m.expectations.filter fun y => y.entry != x.entry }
        (l.push (.entryBagging e.number st (some e.status) .matched))) :=
  congrArg _ (setStatus_outcome (m := { m with expectations := m.expectations.filter fun y => y.entry != x.entry }) st h)

theorem clearNaming_none {k : ExceptionKind} {n : Nat} (h : ∀ z ∈ m.exceptions, ¬(z.kind = k ∧ z.entry = some n)) :
    clearNaming k n .matched (bagOutcome s c m l) = bagOutcome s c m l := by
  have hf := find?_of_none (p := fun z : BagException => z.kind == k && z.entry == some n) (by simp) h
  simp only [clearNaming, bagOutcome, hf]

theorem clearNaming_some {k : ExceptionKind} {n : Nat} {z : BagException} {pre post : List BagException}
    (hz : m.exceptions = pre ++ z :: post) (h : z.kind = k ∧ z.entry = some n)
    (hpre : ∀ y ∈ pre, ¬(y.kind = k ∧ y.entry = some n)) :
    clearNaming k n .matched (bagOutcome s c m l) = clearOne z .matched (bagOutcome s c m l) := by
  have hf := find?_of_split (p := fun z : BagException => z.kind == k && z.entry == some n) (by simp) hz h hpre
  simp only [clearNaming, bagOutcome, hf]

end

end Sys2Proof.Machine
end

section
namespace Sys2Proof.Machine

/-! ### The equations of a bag change, one per candidate (R80 to R83) -/

section
variable {d : Nat} {s : State} {x : BagException} {y : Expectation}

theorem positiveChange_returned {n : Nat} (h : s.monitor.exceptions.find? (matchesRemoved d s) = some x)
    (hn : x.entry = some n) :
    positiveChange d s = clearOne x .matched (setStatus n .bagged .matched s) := by
  simp only [positiveChange, h, hn, Option.getD_some]

theorem positiveChange_restored (hback : s.monitor.exceptions.find? (matchesRemoved d s) = none)
    (h : (s.monitor.exceptions.find? fun x => x.kind == .unknownRemoval && matchesDelta s.live d x) = some x) :
    positiveChange d s = clearOne x .matched s := by
  simp only [positiveChange, hback, h]

theorem positiveChange_met (hback : s.monitor.exceptions.find? (matchesRemoved d s) = none)
    (hrest : (s.monitor.exceptions.find? fun x => x.kind == .unknownRemoval && matchesDelta s.live d x) = none)
    (h : meetingAdd d s = some y) : positiveChange d s = meetAdd y s := by
  simp only [positiveChange, hback, hrest, h]

theorem positiveChange_grows (hback : s.monitor.exceptions.find? (matchesRemoved d s) = none)
    (hrest : (s.monitor.exceptions.find? fun x => x.kind == .unknownRemoval && matchesDelta s.live d x) = none)
    (h : meetingAdd d s = none) : positiveChange d s = unclaimedGrows d s := by
  simp only [positiveChange, hback, hrest, h]

/-- The unclaimed delta after a change of `d` g has joined it (R81). -/
def unclaimedTotal (d : Nat) (m : Monitor) : Nat := min 65535 ((m.unclaimed.map Unclaimed.amount).getD 0 + d)

/-- The state with the joined delta held and its grace timer restarted (R81). -/
def withUnclaimed (d : Nat) (s : State) : State :=
  mapMonitor (fun m => { m with
    unclaimed := some { amount := unclaimedTotal d s.monitor, grace := s.live.bagGrace * 1000 } }) s

theorem unclaimedGrows_timed {u : Nat} (hg : s.live.bagGrace ≠ 0) (hu : u = unclaimedTotal d s.monitor) :
    unclaimedGrows d s = (match meetingAdd u s with
      | some y => meetAdd y (discardUnclaimed s)
      | none => withUnclaimed d s) := by
  subst hu
  unfold unclaimedGrows
  rw [if_neg hg]
  cases h : s.monitor.unclaimed <;> simp only [withUnclaimed, unclaimedTotal, h, Option.map_none, Option.map_some,
    Option.getD_none, Option.getD_some, Nat.zero_add] <;> rfl

theorem unclaimedGrows_untimed {tried : Nat} (hg : s.live.bagGrace = 0)
    (htried : tried = if s.monitor.unclaimed = none then d else unclaimedTotal d s.monitor) :
    unclaimedGrows d s = (match meetingAdd tried s with
      | some y => meetAdd y (discardUnclaimed s)
      | none => raiseException .unexpectedItem none (some (tried : Int)) (discardUnclaimed s)) := by
  subst htried
  unfold unclaimedGrows
  rw [if_pos hg]
  cases h : s.monitor.unclaimed <;> simp only [unclaimedTotal, h, Option.map_some, Option.getD_some, reduceCtorEq,
    if_true, if_false] <;> rfl

theorem negativeChange_claimed {u : Unclaimed} (hu : s.monitor.unclaimed = some u)
    (h : matchesWeight d u.amount (computedTolerance s.live u.amount) = true) :
    negativeChange d s = discardUnclaimed s := by
  simp only [negativeChange, hu, if_pos h]

theorem negativeChange_unclaimed
    (h : ∀ u, s.monitor.unclaimed = some u → matchesWeight d u.amount (computedTolerance s.live u.amount) = false) :
    negativeChange d s = negativeAfterUnclaimed d s := by
  cases hu : s.monitor.unclaimed with
  | none => simp only [negativeChange, hu]
  | some u => simp only [negativeChange, hu, h u hu, Bool.false_eq_true, if_false]

/-- A REMOVE expectation met by an amount, oldest first (R83). -/
def meetingRemove (d : Nat) (s : State) : Option Expectation :=
  oldestMatch (fun x => x.direction == .remove && matchesWeight d x.weight x.tolerance) s.monitor.expectations

theorem negativeAfterUnclaimed_lifted
    (h : (s.monitor.exceptions.find? fun x => x.kind == .unexpectedItem && matchesDelta s.live d x) = some x) :
    negativeAfterUnclaimed d s = clearOne x .matched s := by
  simp only [negativeAfterUnclaimed, h]

theorem negativeAfterUnclaimed_met
    (hlift : (s.monitor.exceptions.find? fun x => x.kind == .unexpectedItem && matchesDelta s.live d x) = none)
    (h : meetingRemove d s = some y) :
    negativeAfterUnclaimed d s = clearNaming .voidNotRemoved y.entry .matched
      (setStatus y.entry .cleared .matched (removeExpectation y.entry s)) := by
  rw [meetingRemove] at h
  simp only [negativeAfterUnclaimed, hlift, h]

theorem negativeAfterUnclaimed_unmet
    (hlift : (s.monitor.exceptions.find? fun x => x.kind == .unexpectedItem && matchesDelta s.live d x) = none)
    (h : meetingRemove d s = none) : negativeAfterUnclaimed d s = removalFromBasket d s := by
  rw [meetingRemove] at h
  simp only [negativeAfterUnclaimed, hlift, h]

theorem removalFromBasket_some {e : Entry}
    (h : (s.basket.reverse.find? fun e => e.status == .bagged && matchesEntry s.live d e) = some e) :
    removalFromBasket d s =
      raiseException .itemRemoved (some e.number) (some (-(d : Int))) (setStatus e.number .removed .matched s) := by
  simp only [removalFromBasket, h]
  rfl

theorem removalFromBasket_none
    (h : (s.basket.reverse.find? fun e => e.status == .bagged && matchesEntry s.live d e) = none) :
    removalFromBasket d s = raiseException .unknownRemoval none (some (-(d : Int))) s := by
  simp only [removalFromBasket, h]
  rfl

end

/-! ### The sample that brings a bag change -/

/-- A steady bag sample moves S to the new gross and hands a change beyond the threshold to the monitor (R24, R79). -/
theorem steady_bag_arrives {v fine g old : Int} {s : State} (h : s.steady .bag v fine) (hg : g = roundAway fine 50 * 5)
    (hold : s.settledS = some old) :
    sampleArrives .bag v s =
      if (g - old).natAbs ≤ s.store.live.bagThreshold then
        { s with bag := s.bag.steadied .bag v fine, settledS := some g }
      else bagChange (g - old) { s with bag := s.bag.steadied .bag v fine, settledS := some g } := by
  have h' := h
  obtain ⟨-, -, hready, -⟩ := h
  have hc : (s.bag.condition == .ready) = true := by rw [show s.bag.condition = .ready from hready]; rfl
  subst hg
  rw [steady_arrives .bag v fine s h']
  simp only [bagStage, State.withChannel, State.channel, Channel.steadied, hc, Bool.true_and, if_true, hold,
    Option.getD_some]
  rfl

theorem bagChange_ignored {s : State} {x : Int} (h : s.sale.current = .idle ∨ s.monitor.suspended = true) :
    bagChange x s = s := by
  unfold bagChange
  rw [if_pos]
  exact h.imp_left fun hi => by rw [hi]; rfl

theorem bagChange_up {s : State} {x : Int} (hi : s.sale.current.state ≠ .idle) (hm : s.monitor.suspended = false)
    (h : 0 < x) : bagChange x s = positiveChange x.natAbs s := by
  unfold bagChange
  rw [if_neg (by simp [hi, hm]), if_pos h]

theorem bagChange_down {s : State} {x : Int} (hi : s.sale.current.state ≠ .idle) (hm : s.monitor.suspended = false)
    (h : x < 0) : bagChange x s = negativeChange x.natAbs s := by
  unfold bagChange
  rw [if_neg (by simp [hi, hm]), if_neg (by omega)]

end Sys2Proof.Machine
end

section
namespace Sys2Proof.Machine

/-! ### The outcomes a candidate can have -/

section
variable {s : State} {c : CurrentSale} {m : Monitor} {l : Link}

/-- One exception cleared while the monitor is not SUSPENDED (R86, R95). -/
theorem clearOne_calm_outcome (x : BagException) (hm : m.suspended = false) :
    AlertedOutcome s c { m with exceptions := m.exceptions.filter fun y => y.id != x.id }
      (l.push (.bagException .cleared (some x.id) (some x.kind) x.entry x.delta (some .matched)
        (m.exceptions.filter fun y => y.id != x.id).length false none))
      (clearOne x .matched (bagOutcome s c m l)) := by
  have h := clearOne_outcome (s := s) (c := c) (m := m) (l := l) x
  simpa only [hm] using h

/-- An exception raised, or the monitor SUSPENDED when eight are held (R86, R87). -/
theorem raised_outcome (k : ExceptionKind) (e : Option Nat) (a : Int) (hm : m.suspended = false) :
    (m.exceptions.length < 8 → AlertedOutcome s c
      { m with
        exceptions := m.exceptions ++ [{ id := m.nextExceptionId, kind := k, entry := e, delta := some a }]
        nextExceptionId := nextFreeId (m.exceptions.map BagException.id ++ [m.nextExceptionId])
          (m.exceptions.length + 2) m.nextExceptionId }
      (l.push (.bagException .raised (some m.nextExceptionId) (some k) e (some a) none (m.exceptions.length + 1)
        false none))
      (raiseException k e (some a) (bagOutcome s c m l))) ∧
    (8 ≤ m.exceptions.length → AlertedOutcome s c { m with suspended := true, unclaimed := none }
      (l.push (.bagException .suspended none (some k) e (some a) none m.exceptions.length true none))
      (raiseException k e (some a) (bagOutcome s c m l))) := by
  refine ⟨fun h => ?_, suspend_outcome k e a⟩
  have h := raise_outcome (s := s) (c := c) (l := l) k e a h
  simpa only [hm] using h

/-- The oldest match, by a condition as a statement says it (R76). -/
theorem oldestMatch_of {p : Expectation → Bool} {q : Expectation → Prop} (hpq : ∀ y, p y = true ↔ q y)
    {xs : List Expectation} {x : Expectation} (hx : x ∈ xs ∧ q x ∧ ∀ y ∈ xs, q y → y = x ∨ x.order < y.order) :
    oldestMatch p xs = some x := by
  obtain ⟨hmem, hq, hold⟩ := hx
  exact oldestMatch_eq hmem ((hpq x).2 hq) fun y hy h => hold y hy ((hpq y).1 h)

theorem oldestMatch_none_of {p : Expectation → Bool} {q : Expectation → Prop} (hpq : ∀ y, p y = true ↔ q y)
    {xs : List Expectation} (h : ∀ y ∈ xs, ¬q y) : oldestMatch p xs = none :=
  oldestMatch_none.2 fun y hy => by simpa [Bool.eq_false_iff, hpq] using h y hy

theorem fits_iff (dir : Direction) (d : Nat) (y : Expectation) :
    (y.direction == dir && matchesWeight d y.weight y.tolerance) = true ↔
      y.direction = dir ∧ d ≤ y.weight + y.tolerance ∧ y.weight ≤ d + y.tolerance := by
  simp [matchesWeight_iff]

theorem kind_and_iff {p : BagException → Bool} {q : BagException → Prop} (hpq : ∀ x, p x = true ↔ q x)
    (k : ExceptionKind) (x : BagException) : (x.kind == k && p x) = true ↔ x.kind = k ∧ q x := by
  simp [hpq]

end

/-- Settles O40: S moves first; then the change is tried against each candidate of R80 or R83 in turn, and each outcome is
the one rule of the monitor that the first match or the end of the list calls. -/
theorem bagChangeMeetsExpectation : Obligations.BagChangeMeetsExpectation := by
  intro s v fine g old hp hsteady hg hold m settled
  have arrives : exec (.sampleArrival .bag v) s = .next (endEvent (sampleArrives .bag v s)) :=
    congrArg _ (asEvent_powered hp)
  rw [steady_bag_arrives hsteady hg hold] at arrives
  refine ⟨fun h => ?_, ?_⟩
  · rw [arrives]
    split
    · rfl
    · next hbeyond =>
      rw [bagChange_ignored]
      exact h.imp_right fun h => h.resolve_left hbeyond
  intro r hr hm hbeyond d meets tol meetsEntry meetsDelta marked told calm alerted without cleared raised oldestOf fits
    oldest met back restored lifted
  rw [if_neg (by omega)] at arrives
  have hidle : settled.sale.current.state ≠ .idle := by
    change s.sale.current.state ≠ .idle
    obtain h | h := hr <;> rw [h] <;> exact nofun
  have hbasket : settled.basket = r.basket := by
    obtain h | h := hr <;> simp [State.basket, settled, h, CurrentSale.record?]
  -- One rule per kind of outcome: nothing raised, alert settled, exception cleared or raised, expectation met.
  have calm_of {c m' l} (h : bagChange (g - old) settled = bagOutcome settled c m' l) : calm c m' l :=
    arrives.trans (by rw [h]; rfl)
  have alerted_of {c m' l t} (h : bagChange (g - old) settled = t) (ht : AlertedOutcome settled c m' l t) :
      alerted c m' l := by
    obtain ⟨x, hx, halert⟩ := ht
    exact ⟨x, arrives.trans (by rw [h, hx]; rfl), halert⟩
  have cleared_of {c m' l x} (h : bagChange (g - old) settled = clearOne x .matched (bagOutcome settled c m' l))
      (hm' : m'.suspended = false) (he : m'.exceptions = m.exceptions) : cleared c m' l x := by
    have h' := alerted_of h (clearOne_calm_outcome x hm')
    simpa only [cleared, without, he] using h'
  have raised_of {c u l k e a}
      (h : bagChange (g - old) settled =
        raiseException k e (some a) (bagOutcome settled c { m with unclaimed := u } l)) :
      raised c { m with unclaimed := u } l k e a := by
    obtain ⟨hfew, hmany⟩ := raised_outcome (s := settled) (c := c) (m := { m with unclaimed := u }) (l := l) k e a hm
    exact ⟨fun hn => alerted_of h (hfew hn), fun hn => alerted_of h (hmany hn)⟩
  have met_of {x u st k}
      (h : bagChange (g - old) settled = clearNaming k x.entry .matched (setStatus x.entry st .matched
        (removeExpectation x.entry (bagOutcome settled s.sale.current { m with unclaimed := u } s.link)))) :
      met x u st k := by
    intro e he
    rw [met_outcome (e := e) st k (hbasket ▸ he)] at h
    refine ⟨fun hz => calm_of (h.trans ?_), fun z hz => cleared_of (h.trans ?_) hm rfl⟩
    · exact clearNaming_none hz
    · obtain ⟨pre, post, hsplit, hz, hpre⟩ := hz
      exact clearNaming_some hsplit hz hpre
  have marked_of {n e} (st : BaggingStatus) (he : findEntry n r.basket = some e) :
      setStatus n st .matched settled = bagOutcome settled (marked n st) m (told e st) :=
    setStatus_outcome (s := settled) (c := s.sale.current) (m := m) (l := s.link) st (hbasket ▸ he)
  -- One rule per kind of candidate.
  have meets_iff (x : BagException) (k : ExceptionKind) :
      (x.kind == k && matchesDelta settled.live d x) = true ↔ x.kind = k ∧ meetsDelta x :=
    kind_and_iff (fun _ => matchesDelta_iff ..) k x
  have back_iff (x : BagException) : matchesRemoved d settled x = true ↔ back x := by
    rw [matchesRemoved_iff, hbasket]
    simp only [matchesEntry_iff]
    rfl
  have bagged_iff (e : Entry) :
      (e.status == .bagged && matchesEntry settled.live d e) = true ↔ e.status = .bagged ∧ meetsEntry e := by
    rw [Bool.and_eq_true, matchesEntry_iff, beq_iff_eq]
    rfl
  have first_of {p : BagException → Bool} {q x} (hpq : ∀ y, p y = true ↔ q y) (h : oldestOf q x) :
      settled.monitor.exceptions.find? p = some x := by
    obtain ⟨pre, post, hl, hx, hpre⟩ := h
    exact find?_of_split hpq hl hx hpre
  have add_of {d' x} (hx : oldest .add d' x) : meetingAdd d' settled = some x := oldestMatch_of (fits_iff .add d') hx
  have no_add {d'} (h : ∀ x ∈ m.expectations, ¬fits .add d' x) : meetingAdd d' settled = none :=
    oldestMatch_none_of (fits_iff .add d') h
  refine ⟨fun hup => ?_, fun hdown => ?_⟩
  · have hchange : bagChange (g - old) settled = positiveChange d settled := bagChange_up hidle hm (by omega)
    refine ⟨fun x n e hx hn he => ?_, fun hback => ?_⟩
    · rw [positiveChange_returned (first_of back_iff hx) hn] at hchange
      exact cleared_of (hchange.trans (congrArg _ (marked_of .bagged he))) hm rfl
    replace hback := find?_of_none back_iff hback
    refine ⟨fun x hx => ?_, fun hrest => ?_⟩
    · exact cleared_of (hchange.trans (positiveChange_restored hback (first_of (meets_iff · _) hx))) hm rfl
    replace hrest := find?_of_none (meets_iff · _) hrest
    refine ⟨fun x hx => ?_, fun hnone => ?_⟩
    · exact met_of (hchange.trans (positiveChange_met hback hrest (add_of hx)))
    intro u
    replace hchange := hchange.trans (positiveChange_grows hback hrest (no_add hnone))
    refine ⟨fun hg => ?_, fun hg tried htried => ?_⟩
    · replace hchange := hchange.trans (unclaimedGrows_timed (u := u) hg rfl)
      refine ⟨fun x hx => ?_, fun hnone => ?_⟩
      · rw [add_of hx] at hchange
        exact met_of hchange
      · rw [no_add hnone] at hchange
        exact calm_of hchange
    · replace hchange := hchange.trans (unclaimedGrows_untimed hg htried)
      refine ⟨fun x hx => ?_, fun hnone => ?_⟩
      · rw [add_of hx] at hchange
        exact met_of hchange
      · rw [no_add hnone] at hchange
        exact raised_of hchange
  · have hchange : bagChange (g - old) settled = negativeChange d settled := bagChange_down hidle hm (by omega)
    refine ⟨fun u hu hmeets => ?_, fun hfree => ?_⟩
    · exact calm_of (hchange.trans (negativeChange_claimed hu ((matchesWeight_iff ..).2 hmeets)))
    rw [negativeChange_unclaimed (s := settled) fun u hu =>
      Bool.eq_false_iff.2 fun h => hfree u hu ((matchesWeight_iff ..).1 h)] at hchange
    refine ⟨fun x hx => ?_, fun hlift => ?_⟩
    · exact cleared_of (hchange.trans (negativeAfterUnclaimed_lifted (first_of (meets_iff · _) hx))) hm rfl
    replace hlift := find?_of_none (meets_iff · _) hlift
    refine ⟨fun x hx => ?_, fun hnone => ?_⟩
    · exact met_of (hchange.trans (negativeAfterUnclaimed_met hlift (oldestMatch_of (fits_iff .remove d) hx)))
    rw [negativeAfterUnclaimed_unmet hlift (oldestMatch_none_of (fits_iff .remove d) hnone)] at hchange
    refine ⟨fun e pre post hsplit hst hmeets hpost he => ?_, fun hnone => ?_⟩
    · have hfind :
          settled.basket.reverse.find? (fun e => e.status == .bagged && matchesEntry settled.live d e) = some e := by
        refine find?_of_split bagged_iff (pre := post.reverse) (post := pre.reverse) ?_ ⟨hst, hmeets⟩ ?_
        · rw [hbasket, hsplit]
          simp
        · simpa using hpost
      rw [removalFromBasket_some hfind] at hchange
      exact raised_of (u := m.unclaimed) (hchange.trans (congrArg _ (marked_of .removed he)))
    · rw [removalFromBasket_none (find?_of_none bagged_iff (by simpa [hbasket] using hnone))] at hchange
      exact raised_of (u := m.unclaimed) hchange

end Sys2Proof.Machine
end

section
namespace Sys2Proof.Machine

/-! ### What every command keeps: a relation held by each request and each event -/

/-- A relation of a state to a later one that changes of the link and of the input levels keep, and the handling of each
request. It then holds however a request reaches dispatch. -/
structure KeptByRequests (R : State → State → Prop) : Prop where
  refl : ∀ s, R s s
  trans : ∀ {a b c}, R a b → R b c → R a c
  link : ∀ (s : State) (l : Link), R s { s with link := l }
  inputs : ∀ (s : State) (x : Inputs), R s { s with inputs := x }
  request : ∀ (r : Request) (s : State), R s (handleRequest r s).1

/-- The meaning of a command that is an event of a block other than the link; none for a request, a command of the link, a
start and a loss of power. -/
def blockEvent? : Instr → Option (State → State)
  | .sampleArrival ch x => some (sampleArrives ch x)
  | .excitationLost ch => some (excitationLeaves ch)
  | .excitationReturn ch => some (excitationReturns ch)
  | .weighTimerExpiry => some weighTimerExpires
  | .attendantSwitch on => some fun s => { s with attendant := on }
  | .bagTimerExpiry n => some (bagTimerExpires n)
  | .graceTimerExpiry => some graceExpires
  | .swipeBegin h => some (swipeBegins h)
  | .swipeEnd => some swipeEnds
  | .holdTimerExpiry => some holdExpires
  | .fluxTransition h us => some (fluxArrives h us)
  | .senseChange b => some (senseChanged b)
  | .pullInEnd => some pullInEnds
  | .holdEnd => some holdEnds
  | .pwmPeriodBoundary => some pwmBoundary
  | .coolEnd => some coolEnds
  | .alarmTimerExpiry => some alarmExpires
  | .toggleCounterExpiry => some fun s => { s with tone := s.tone.toggle }
  | .patternStepEnd => some fun s => { s with tone := s.tone.stepEnd }
  | .supplyLow => some supplyFalls
  | .supplyRecovery => some supplyRecovers
  | .paperSensor b => some (causeFollows .paperOut b)
  | .coverSensor b => some (causeFollows .coverOpen b)
  | .paperLowSensor b => some (paperLowChanges b)
  | .headTemperature x => some (headReads x)
  | .phaseEnd => some phaseEnds
  | .stepEnd => some stepEnds
  | .homeSensorReturn => some homeReturns
  | .homeSensorAway => some homeLeaves
  | .cutTimerExpiry => some cutJams
  | .writeEnd => some writeEnds
  | _ => none

/-- A command that starts the part or stops it. -/
def startsOrStops : Instr → Bool
  | .powerOn _ | .restartCarriedOut _ | .powerLoss => true
  | _ => false

theorem exec_blockEvent {c : Instr} {f : State → State} (h : blockEvent? c = some f) (s : State) :
    exec c s = .next (asEvent f s) := by
  cases c <;> cases h <;> rfl

namespace KeptByRequests

variable {R : State → State → Prop}

theorem settleAnswer (h : KeptByRequests R) (kind tag : Byte) (x : State × Answer) :
    R x.1 (settleAnswer kind tag x) := by
  unfold Machine.settleAnswer
  split <;> exact h.link ..

theorem takeRequest (h : KeptByRequests R) (tag : Byte) (r : Request) (s : State) : R s (takeRequest tag r s) :=
  h.trans (h.request r s) (h.settleAnswer ..)

theorem takeFrame (h : KeptByRequests R) (f : Frame) (s : State) : R s (takeFrame f s) := by
  refine h.trans ?_ (h.settleAnswer ..)
  unfold handleFrame
  split
  · exact h.refl s
  · exact h.refl s
  · exact h.request _ s

theorem dispatchNext (h : KeptByRequests R) (s : State) : R s (dispatchNext s) := by
  obtain hd | ⟨f, rest, -, -, hd⟩ := dispatchNext_cases s <;> rw [hd]
  · exact h.refl s
  · exact h.trans (h.link ..) (h.takeFrame f _)

theorem frameArrives (h : KeptByRequests R) (f : Frame) (s : State) : R s (frameArrives f s) := by
  refine h.trans ?_ (h.dispatchNext _)
  obtain ⟨-, ho⟩ | ⟨-, ho⟩ := offerFrame_cases f s <;> rw [ho] <;> exact h.link ..

theorem requestArrives (h : KeptByRequests R) (tag : Byte) (r : Request) (s : State) :
    R s (requestArrives tag r s) := by
  unfold Machine.requestArrives
  split
  · exact h.takeRequest tag r s
  · exact h.frameArrives _ s

theorem endFrameInside (h : KeptByRequests R) (why : LinkErrorReason) (s : State) : R s (endFrameInside why s) := by
  unfold Machine.endFrameInside
  split
  · exact h.refl s
  · exact h.link ..

theorem byteArrives (h : KeptByRequests R) (b : Byte) (s : State) : R s (byteArrives b s) := by
  unfold Machine.byteArrives eofPlace
  dsimp only
  repeat' split
  case h_7.isFalse.isFalse => exact h.trans (h.link ..) (h.frameArrives _ _)
  all_goals first | exact h.refl s | exact h.link ..

theorem charArrives (h : KeptByRequests R) (c : LineChar) (s : State) : R s (charArrives c s) := by
  unfold Machine.charArrives
  split
  · exact h.byteArrives _ s
  · exact h.endFrameInside _ s

theorem bytesArrive (h : KeptByRequests R) (bs : List Byte) (s : State) : R s (bytesArrive bs s) := by
  induction bs generalizing s with
  | nil => exact h.refl s
  | cons b bs ih => exact h.trans (h.trans (h.byteArrives b s) (h.link ..)) (ih _)

theorem replyEnds (h : KeptByRequests R) (s : State) : R s (replyEnds s) := by
  unfold Machine.replyEnds
  split
  · split_ifs
    · exact h.link ..
    · exact h.link ..
    · exact h.trans (h.link ..) (h.dispatchNext _)
  · exact h.refl s

theorem reportEnds (h : KeptByRequests R) (s : State) : R s (reportEnds s) := by
  unfold Machine.reportEnds
  split
  · exact h.link ..
  · exact h.refl s

theorem lineChanges (h : KeptByRequests R) (s : State) : R s (lineChanges s) := by
  unfold Machine.lineChanges
  split
  · exact h.trans (h.trans (h.link ..) (h.endFrameInside _ _)) (h.dispatchNext _)
  · exact h.refl s

/-- An event ends with the transmitter's choice, or the part has no power (R194, log 5). -/
theorem asEvent (h : KeptByRequests R) {f : State → State} {s : State} (hf : R s (f s)) : R s (asEvent f s) := by
  obtain hs | hs := asEvent_cases f s <;> rw [hs]
  · exact h.refl s
  · exact h.trans hf (h.link ..)

/-- Apart from a start and a stop a command keeps what each request and its own event keep. -/
theorem exec (h : KeptByRequests R) {c : Instr} {s t : State} (hc : startsOrStops c = false)
    (hf : ∀ f, blockEvent? c = some f → R s (f s)) (ht : exec c s = .next t) : R s t := by
  suffices hk : ∃ u, Machine.exec c s = .next u ∧ R s u by
    obtain ⟨u, hu, hk⟩ := hk
    rw [ht] at hu
    cases hu
    exact hk
  cases hq : c.request? with
  | some q =>
    obtain ⟨tag, r⟩ := q
    obtain h' | ⟨e, h'⟩ := exec_request hq s
    · exact ⟨_, h', h.asEvent (h.requestArrives tag r s)⟩
    · exact ⟨_, h', h.asEvent (h.trans (h.inputs ..) (h.requestArrives tag r _))⟩
  | none =>
    cases he : blockEvent? c with
    | some f => exact ⟨_, exec_blockEvent he s, h.asEvent (hf f he)⟩
    | none =>
      cases c with
      | powerOn | restartCarriedOut | powerLoss => cases hc
      | unknownRequest kind tag body => exact ⟨_, rfl, h.asEvent (h.frameArrives _ s)⟩
      | frameGap => exact ⟨_, rfl, h.asEvent (h.endFrameInside .frameGap s)⟩
      | lineBreak => exact ⟨_, rfl, h.asEvent (h.endFrameInside .lineBreak s)⟩
      | replySent => exact ⟨_, rfl, h.asEvent (h.replyEnds s)⟩
      | reportSent => exact ⟨_, rfl, h.asEvent (h.reportEnds s)⟩
      | lineSettingsChange => exact ⟨_, rfl, h.asEvent (h.lineChanges s)⟩
      | characterReceived x => exact ⟨_, rfl, h.asEvent (h.charArrives x s)⟩
      | receiveFrame bs =>
        refine ⟨_, rfl, ?_⟩
        split
        · exact h.bytesArrive bs s
        · exact h.refl s
      | _ => cases hq <;> cases he

end KeptByRequests

end Sys2Proof.Machine
end

section
namespace Sys2Proof.Machine

/-! ### What leaves the occupancy of the platter as it was -/

@[simp] theorem endWeigh_occupancy (r : WeighResult) (e : Option Nat) (n p : Option Int) (s : State) :
    (endWeigh r e n p s).scale.occupancy = s.scale.occupancy := by
  rw [endWeigh_scale]

@[simp] theorem reportAborted_scale (js : List Job) (s : State) : (reportAborted js s).scale = s.scale := by
  rw [reportAborted_eq]

@[simp] theorem printerClear_scale (s : State) : (printerClear s).scale = s.scale := by
  unfold printerClear
  dsimp only
  split_ifs <;> simp

@[simp] theorem closeSale_occupancy (r : SaleRecord) (s : State) :
    (closeSale r s).scale.occupancy = s.scale.occupancy := by
  unfold closeSale emptyHeld
  dsimp only
  split_ifs <;> simp

@[simp] theorem abandonSale_occupancy (r : SaleRecord) (s : State) :
    (abandonSale r s).scale.occupancy = s.scale.occupancy := by
  simp [abandonSale]

@[simp] theorem voidTaken_scale (n : Nat) (e : Entry) (s : State) : (voidTaken n e s).scale = s.scale := by
  simp [voidTaken]

@[simp] theorem decideCard_scale (b : Bool) (s : State) : (decideCard b s).scale = s.scale := by
  simp [decideCard]

@[simp] theorem afterRow_scale (s : State) : (afterRow s).scale = s.scale := by
  unfold afterRow
  split
  · rfl
  · split_ifs <;> simp

@[simp] theorem startChannel_scale (ch : ChannelId) (s : State) : (startChannel ch s).scale = s.scale := by
  simp [startChannel]

@[simp] theorem zeroTaken_scale (ch : ChannelId) (v : Int) (s : State) : (zeroTaken ch v s).scale = s.scale := by
  rw [zeroTaken_eq rfl]
  simp

theorem calibrationStep_occupancy (ch : ChannelId) (b : Bool) (r : CalRecord) (s : State) :
    (calibrationStep ch b r s).1.scale.occupancy = s.scale.occupancy := by
  rw [calibrationStep_eq]
  dsimp only
  split <;> rfl

theorem settingEffect_scale (id : Nat) (s : State) : (settingEffect id s).scale = s.scale := by
  unfold settingEffect restartChannel sensePresentSet senseGiven
  repeat' split
  all_goals simp

theorem setRequest_scale (id : Byte) (v : SettingArg) (s : State) : (setRequest id v s).1.scale = s.scale := by
  have hset (x : SettingValue) (b : Bool) : (setAnswer id.toNat x b s).1.scale = s.scale := by
    unfold setAnswer changeSetting
    dsimp only
    split
    · rfl
    · rw [settingEffect_scale, setLive_scale]
  unfold setRequest
  dsimp only [refuse]
  repeat' split
  all_goals first | rfl | exact hset _ _

/-- No request moves the occupancy (R36). -/
theorem handleRequest_occupancy (r : Request) (s : State) :
    (handleRequest r s).1.scale.occupancy = s.scale.occupancy := by
  cases r with
  | set id v => exact congrArg _ (setRequest_scale id v s)
  | calZero | calSpan | setProfile =>
    simp only [handleRequest, calZeroRequest, calZeroOn, calSpanRequest, calSpanOn, setProfileRequest, refuse]
    repeat' split
    all_goals first | rfl | exact calibrationStep_occupancy ..
  | _ =>
    simp only [handleRequest, readWeightRequest, zeroRequest, zeroOn, setTareRequest, takeTareRequest, clearTareRequest,
      weighItemRequest, cancelWeighRequest, openSaleRequest, addItemRequest, voidEntryRequest, beginTenderRequest,
      resumeSaleRequest, addCashRequest, addCardTenderRequest, cardDecisionRequest, closeSaleRequest,
      abandonSaleRequest, reprintRequest, readSaleRequest, readEntryRequest, readTenderRequest, clearExceptionRequest,
      waiveBaggingRequest, bagResyncRequest, readBaggingRequest, releaseCardRequest, discardCardRequest,
      readCardRequest, noSaleRequest, drawerResetRequest, readDrawerRequest, beepRequest, readSupplyRequest,
      printTextRequest, printerClearRequest, readPrintQueueRequest, readPrinterRequest, getRequest,
      saveSettingsRequest, restartRequest, identifyRequest, setTareT, acceptWeigh, answer, done, refuse]
    repeat' split
    all_goals simp

theorem keptByRequests_occupancy : KeptByRequests fun s t => t.scale.occupancy = s.scale.occupancy where
  refl _ := rfl
  trans h h' := h'.trans h
  link _ _ := rfl
  inputs _ _ := rfl
  request := handleRequest_occupancy

/-- No event but a sample of the platter moves the occupancy (R36). -/
theorem blockEvent_occupancy {c : Instr} {f : State → State} (hc : ∀ x, c ≠ .sampleArrival .platter x)
    (hf : blockEvent? c = some f) (s : State) : (f s).scale.occupancy = s.scale.occupancy := by
  cases c with
  | sampleArrival ch x =>
    cases hf
    cases ch with
    | platter => exact absurd rfl (hc x)
    | bag => rw [(sampleArrives_bag x s).2]
  | bagTimerExpiry | graceTimerExpiry | attendantSwitch | toggleCounterExpiry | patternStepEnd =>
    cases hf
    simp
  | _ =>
    cases hf <;> simp only [excitationLeaves, excitationReturns, weighTimerExpires, swipeBegins, swipeEnds, holdExpires,
      fluxArrives, transitionInSwipe, senseChanged, senseGiven, pullInEnds, holdEnds, pwmBoundary, coolEnds,
      alarmExpires, supplyFalls, supplyRecovers, causeFollows, paperLowChanges, headReads, phaseEnds, abandonedEnds,
      stepEnds, rowEnds, homeReturns, cutEnds, cutJams, homeLeaves, writeEnds]
    repeat' split
    all_goals simp

/-! ### The law of the platter (R36) -/

/-- The weigh request examined leaves the occupancy that was judged, or a LOCKED platter (R40, R43). -/
theorem examineWeigh_occupancy (o : FilterOutput) (left : Occupancy) (s : State) :
    (examineWeigh o left s).scale.occupancy = s.scale.occupancy ∨
      (examineWeigh o left s).scale.occupancy = .locked := by
  unfold examineWeigh
  dsimp only
  repeat' split
  case h_2.isTrue.isFalse.isFalse =>
    right
    unfold completeWithEntry
    dsimp only
    split <;> simp
  all_goals exact .inl (by simp)

/-- Zero tracking corrects an EMPTY platter alone (R23). -/
theorem trackZero_of_not_empty {o : FilterOutput} {s : State} (h : s.scale.occupancy ≠ .empty) : trackZero o s = s := by
  simp [trackZero, trackingCorrects, h]

/-- A LOCKED platter is judged EMPTY by a stable output at or below the empty threshold alone (R35, R36). -/
theorem occupancyAfter_locked {o : FilterOutput} {s : State} (hs : s.scale.occupancy = .locked)
    (h : occupancyAfter o s ≠ .locked) :
    occupancyAfter o s = .empty ∧ o.stable = true ∧
      o.fineGross.getD 0 ≤ s.platter.record.profileInForce.emptyThreshold := by
  unfold occupancyAfter judgedOccupancy at *
  rw [hs] at h ⊢
  split at h
  · next hst =>
    rw [if_pos hst]
    split at h
    · next hf => exact ⟨if_pos hf, (Bool.and_eq_true_iff.1 hst).1, hf⟩
    · exact absurd rfl h
  · exact absurd rfl h

/-- What an output that frees a LOCKED platter is (R35, R36): the last stages leave it as the latest one. -/
theorem platterStages_frees {s : State} (hs : s.scale.occupancy = .locked)
    (h : (platterStages s).scale.occupancy ≠ .locked) :
    (platterStages s).scale.occupancy = .empty ∧
      ∃ o, (platterStages s).platter.latest = some o ∧ o.stable = true ∧
        o.fineGross.getD 0 ≤ (platterStages s).platter.record.profileInForce.emptyThreshold := by
  cases ho : s.platter.latest with
  | none => exact absurd hs (by simpa [platterStages, ho] using h)
  | some o =>
    have hstages : platterStages s = examineWeigh o .locked (setOccupancy (occupancyAfter o s) s) := by
      simp only [platterStages, ho, trackZero_of_not_empty (o := o) (show s.scale.occupancy ≠ .empty by simp [hs]), hs,
        Option.getD_some]
    have hplatter : (platterStages s).platter = s.platter := by rw [hstages, (examineWeigh_apart ..).platter]; rfl
    have hocc : (platterStages s).scale.occupancy = occupancyAfter o s := by
      rw [hstages] at h ⊢
      exact (examineWeigh_occupancy ..).resolve_right h
    rw [hocc] at h ⊢
    obtain ⟨hempty, hst, hf⟩ := occupancyAfter_locked hs h
    exact ⟨hempty, o, by rw [hplatter, ho], hst, by rw [hplatter]; exact hf⟩

/-- Settles O16: no request and no other event moves the occupancy, and of the samples of the platter only an output at or
below the empty threshold frees it. -/
theorem lockedPlatterLaw : Obligations.LockedPlatterLaw := by
  intro c s t h hs ht
  have freed {u : State} (hu : t.scale.occupancy = u.scale.occupancy) : u.scale.occupancy ≠ .locked := hu ▸ ht
  by_cases hc : ∃ x, c = .sampleArrival .platter x
  · obtain ⟨x, rfl⟩ := hc
    refine .inr (.inr ⟨x, rfl, ?_⟩)
    cases h
    obtain h | h := asEvent_cases (sampleArrives .platter x) s
    · exact absurd hs (freed (by rw [h]))
    · obtain ⟨u, hu, hx | hx⟩ := sampleArrives_stages .platter x s
      · have hscale : u.scale = s.scale := by rw [hu]; rfl
        exact absurd hs (freed (by rw [h, endEvent_scale, hx, hscale]))
      · have hscale : u.scale = s.scale := by rw [hu]; rfl
        rw [h, endEvent_scale, endEvent_platter, hx]
        exact platterStages_frees (hscale ▸ hs) (freed (by rw [h, endEvent_scale, hx]))
  · cases c with
    | powerOn x => exact .inl ⟨x, rfl⟩
    | restartCarriedOut x => exact .inr (.inl ⟨x, rfl⟩)
    | powerLoss =>
      cases h
      refine absurd hs (freed ?_)
      split <;> rfl
    | _ =>
      refine absurd hs (freed ?_)
      exact keptByRequests_occupancy.exec rfl
        (fun f hf => blockEvent_occupancy (fun x hx => hc ⟨x, hx⟩) hf s) h

end Sys2Proof.Machine
end

section
namespace Sys2Proof.Machine

/-! ### Tare -/

/-- A preset tare is the weight rounded to e1, or none below 0 and above the largest tare (R32). -/
theorem presetTare_eq {p : Profile} {w t : Int} (ht : t = roundAway w p.e1 * p.e1) :
    (0 ≤ w → t ≤ p.max / 2 → presetTare p w = some t) ∧ (w < 0 ∨ p.max / 2 < t → presetTare p w = none) := by
  subst ht
  refine ⟨fun hw ht => if_pos ⟨hw, ht⟩, fun h => if_neg fun ⟨hw, ht⟩ => ?_⟩
  have ht : roundAway w p.e1 * p.e1 ≤ p.max / 2 := ht
  omega

/-- SET_TARE with no weigh request in flight: the rounded weight decides (R32). -/
theorem setTareRequest_free {s : State} (w : Wide) (hw : s.scale.weigh = none) :
    (∀ t, presetTare s.platter.record.profileInForce (w.toInt * 10) = some t →
      setTareRequest w s = answer (.tare (t / 10)) (setTareT t s)) ∧
    (presetTare s.platter.record.profileInForce (w.toInt * 10) = none → setTareRequest w s = refuse .badValue s) := by
  exact ⟨fun t ht => by simp [setTareRequest, hw, ht], fun hnone => by simp [setTareRequest, hw, hnone]⟩

/-- TAKE_TARE in READY with no weigh request in flight: the latest output decides (R33). -/
theorem takeTareRequest_ready {s : State} {p : Profile} {o : FilterOutput} {f t : Int}
    (hp : p = s.platter.record.profileInForce) (hw : s.scale.weigh = none) (hk : s.platter.condition = .ready)
    (ho : s.platter.latest = some o) (hf : o.fineGross = some f) (ht : t = roundAway f p.e1 * p.e1) :
    takeTareRequest s = if o.stable = false then refuse .busy s
      else if 0 < t ∧ t ≤ p.max / 2 then answer (.tare (t / 10)) (setTareT t s) else refuse .badValue s := by
  subst hp ht
  simp [takeTareRequest, hw, hk, ho, hf, roundToDivision, Profile.maxTare]

/-- Settles O34: a weigh request in flight answers each request first; without one the weight or the output decides. -/
theorem tareRequests : Obligations.TareRequests := by
  intro s tag w ha p tared
  have replies {c : Instr} {r : Request} {kind : Byte} {st : Status} {f : ReplyFields} {t : State}
      (hc : exec c s = .next (asRequest tag r s)) (hk : requestKind r = kind)
      (hr : handleRequest r s = (t, .reply st f)) (hl : t.link = s.link) :
      exec c s = .next (t.replies kind tag st f) :=
    exec_replies ha hc hk hr (by rw [hl]) (by rw [hl])
  refine ⟨fun hw => ?_, fun hw => ⟨?_, fun t ht => ?_, fun hk => ?_, fun o f t hk ho hf ht => ?_⟩⟩
  · have hw := Option.isSome_iff_ne_none.2 hw
    exact ⟨replies rfl rfl (if_pos hw) rfl, replies rfl rfl (if_pos hw) rfl, replies rfl rfl (if_pos hw) rfl⟩
  · exact replies rfl rfl (by simp only [handleRequest, clearTareRequest, hw]; rfl) rfl
  · obtain ⟨hpreset, hnone⟩ := presetTare_eq ht
    obtain ⟨htaken, hrefused⟩ := setTareRequest_free w hw
    exact ⟨fun h0 hmax => replies rfl rfl (htaken t (hpreset (by omega) hmax)) rfl,
      fun h => replies rfl rfl (hrefused (hnone (h.imp_left fun h => by omega))) rfl⟩
  · exact replies rfl rfl (by simp [handleRequest, takeTareRequest, hw, hk, refuse]) rfl
  · have take := takeTareRequest_ready (p := p) rfl hw hk ho hf ht
    refine ⟨fun hst => ?_, fun hst h0 hmax => ?_, fun hst h => ?_⟩
    · exact replies rfl rfl (take.trans (if_pos hst)) rfl
    · exact replies rfl rfl (take.trans ((if_neg (by simp [hst])).trans (if_pos ⟨h0, hmax⟩))) rfl
    · exact replies rfl rfl (take.trans ((if_neg (by simp [hst])).trans (if_neg (by omega)))) rfl

/-! ### A weigh request without an entry -/

/-- Settles O37: WEIGH_ITEM passes its checks in order, and both ends of a request are one `endWeigh`. -/
theorem weighRequestLife : Obligations.WeighRequestLife := by
  intro s tag d u x r w ha
  have expires : exec .weighTimerExpiry s = .next (endEvent (endWeigh .timeout none none none s)) :=
    congrArg _ (asEvent_powered ha.1)
  refine ⟨fun t hr hk hw h1 h2 hd hroom hheld hgiven => ?_, fun hr hk => ?_, fun hw => ?_, fun hw => ?_⟩
  · have ht : weighTare x s = some t := by
      cases x with
      | none => rw [hheld rfl]; rfl
      | some g =>
        obtain ⟨h0, hmax, heq⟩ := hgiven g rfl
        exact (presetTare_eq heq).1 (by omega) hmax
    have hfull : r.full = false := by simpa [SaleRecord.full] using hroom
    refine exec_replies ha rfl rfl ?_ rfl rfl
    simp [handleRequest, weighItemRequest, hr, hk, hw, h1, h2, hd, ht, hfull, acceptWeigh, printableText, isPrintable,
      done, State.live]
  · exact exec_replies ha rfl rfl (by simp [handleRequest, weighItemRequest, hr, hk, refuse]) rfl rfl
  · have ended (why : WeighResult) := endWeigh_of_some (r := why) (e := none) (n := none) (p := none)
      (show s.scale.weigh ≠ none by simp [hw])
    refine ⟨?_, by rw [expires, ended]⟩
    refine exec_replies ha rfl rfl ?_ (push_lineChangeDue ..) (push_restart ..)
    simp only [handleRequest, cancelWeighRequest, hw, ended]
    rfl
  · refine ⟨exec_replies ha rfl rfl (by simp [handleRequest, cancelWeighRequest, hw, refuse]) rfl rfl, ?_⟩
    simp [expires, endWeigh, hw]

end Sys2Proof.Machine
end

section
namespace Sys2Proof.Machine

/-! ### A weigh request at an output (R40 to R43) -/

/-- The one PLATTER_STATE of an output, where the occupancy is another than before it (R37). -/
theorem occupancyReport_eq (left : Occupancy) (s : State) :
    occupancyReport left s = { s with
      link := if s.scale.occupancy = left then s.link
        else s.link.push (.platterState s.scale.occupancy left) } := by
  unfold occupancyReport
  split
  · rfl
  · rfl

/-- With a weigh request in flight zero tracking never corrects, so the output itself is examined (R23, R40). -/
theorem platterStages_weighing {s : State} {o : FilterOutput} (hw : s.scale.weigh ≠ none)
    (ho : s.platter.latest = some o) :
    platterStages s = examineWeigh o s.scale.occupancy (setOccupancy (occupancyAfter o s) s) := by
  have ht : trackZero o s = s := by simp [trackZero, trackingCorrects, hw]
  simp only [platterStages, ho, ht, Option.getD_some]

/-- When a stable READY output is the completion point (R40). -/
theorem completionPoint_iff {o : FilterOutput} {s : State} {f : Int} (hk : s.platter.condition = .ready)
    (hst : o.stable = true) (hf : o.fineGross = some f) :
    completionPoint o s = true ↔ s.scale.occupancy ≠ .locked ∧
      20 * s.platter.record.profileInForce.e1 ≤ legalRound s.platter.record.profileInForce (f - s.scale.tareT) ∧
      legalRound s.platter.record.profileInForce (f - s.scale.tareT) ≤ s.platter.record.profileInForce.max ∧
      s.sale.current.state = .opened := by
  simp [completionPoint, hk, hst, hf, legalNet, Profile.minimum, and_assoc]

section
variable {s : State} {w : WeighRequest} {o : FilterOutput} {f netG price : Int} (left : Occupancy)

/-- Away from the completion point the load alone is judged (R40). -/
theorem examineWeigh_waits (hc : completionPoint o s = false) : examineWeigh o left s = occupancyReport left s := by
  unfold examineWeigh
  split
  · rfl
  · simp [hc]

/-- At the completion point the price and then the record decide (R41 to R43). -/
theorem examineWeigh_completes (hw : s.scale.weigh = some w) (hc : completionPoint o s = true)
    (hf : o.fineGross = some f)
    (hnet : netG = legalRound s.platter.record.profileInForce (f - s.scale.tareT) / 10)
    (hprice : price = (netG * w.unitPrice + 500) / 1000) :
    examineWeigh o left s =
      if 9999999 < price then endWeigh .priceLimit none (some netG) (some price) (occupancyReport left s)
      else if recordTakes price s = false then
        endWeigh .totalLimit none (some netG) (some price) (occupancyReport left s)
      else completeWithEntry w f left s := by
  subst hnet hprice
  simp only [examineWeigh, hw, hc, hf, if_true, Option.getD_some]
  rfl

end

/-! ### An entry appended with its expectation (R77) -/

section
variable {s : State} {r : SaleRecord} {e : Entry} {weight : Nat}

/-- The status of an entry just appended is its first, with one ENTRY_BAGGING (R77, R94). -/
theorem appendStatus_last {b : List Entry} (st : BaggingStatus) (hr : s.sale.current = .opened r)
    (hb : r.basket = b ++ [e]) (hnew : ∀ y ∈ b, y.number ≠ e.number) :
    appendStatus e.number st s = { s with
      sale := { s.sale with current := .opened { r with basket := b ++ [{ e with status := st }] } }
      link := s.link.push (.entryBagging e.number st none .appended) } := by
  simp only [appendStatus, mapSale, report, hr, CurrentSale.mapRecord, hb, putStatus_append _ _ _ _ hnew rfl]

/-- An entry appended whose weight an unclaimed delta matches is BAGGED, and the delta goes (R77). -/
theorem appendEntry_claims {tol : Nat} {u : Unclaimed} (hr : s.sale.current = .opened r) (he : e.expected = some weight)
    (hnew : ∀ y ∈ r.basket, y.number ≠ e.number) (htol : tol = e.tolerance.getD (computedTolerance s.live weight))
    (hu : s.monitor.unclaimed = some u) (hm : matchesWeight u.amount weight tol = true) :
    appendEntry e s = { s with
      sale := { s.sale with current := .opened { r with
        basket := r.basket ++ [{ e with status := .bagged }], total := r.total + e.amount } }
      monitor := { s.monitor with unclaimed := none }
      link := s.link.push (.entryBagging e.number .bagged none .appended) } := by
  subst htol
  have hlive : (mapSale (SaleRecord.append e) s).live = s.live := rfl
  have claims : appendEntry e s =
      appendStatus e.number .bagged (discardUnclaimed (mapSale (SaleRecord.append e) s)) := by
    simp only [appendEntry, he, addExpectation, mapSale_monitor, hu, hlive, hm, if_true]
  rw [claims, appendStatus_last (r := r.append e) (e := e) .bagged
    (by simp [discardUnclaimed, mapMonitor, mapSale, hr, CurrentSale.mapRecord]) rfl hnew]
  rfl

/-- An entry appended that no unclaimed delta matches is PENDING, its add-expectation listed with a bag timer (R77). -/
theorem appendEntry_expects {tol : Nat} (hr : s.sale.current = .opened r) (he : e.expected = some weight)
    (hnew : ∀ y ∈ r.basket, y.number ≠ e.number) (htol : tol = e.tolerance.getD (computedTolerance s.live weight))
    (hm : ∀ u, s.monitor.unclaimed = some u → matchesWeight u.amount weight tol = false) :
    appendEntry e s = { s with
      sale := { s.sale with current := .opened { r with
        basket := r.basket ++ [{ e with status := .pending }], total := r.total + e.amount } }
      monitor := { s.monitor with
        expectations := insertExpectation
          { entry := e.number, direction := .add, weight := weight, tolerance := tol, createdAt := s.now
            order := s.monitor.nextOrder, timer := some (s.live.bagTimeout * 1000) } s.monitor.expectations
        nextOrder := s.monitor.nextOrder + 1 }
      link := s.link.push (.entryBagging e.number .pending none .appended) } := by
  subst htol
  have hlive : (mapSale (SaleRecord.append e) s).live = s.live := rfl
  have expects : appendEntry e s = appendStatus e.number .pending (listExpectation e.number .add weight
      (e.tolerance.getD (computedTolerance s.live weight)) (mapSale (SaleRecord.append e) s)) := by
    simp only [appendEntry, he, addExpectation, mapSale_monitor, hlive]
    split
    · next u hu => rw [hm u hu]; rfl
    · rfl
  rw [expects, appendStatus_last (r := r.append e) (e := e) .pending
    (by simp [mapSale, listExpectation, mapMonitor, hr, CurrentSale.mapRecord]) rfl hnew]
  rfl

end

/-- The entry of a completion (R43). -/
theorem weighedEntry_eq {w : WeighRequest} {f netG price : Int} {p : Profile} {s : State}
    (hp : p = s.platter.record.profileInForce) (hnet : netG = legalRound p (f - s.scale.tareT) / 10)
    (hprice : price = (netG * w.unitPrice + 500) / 1000) :
    weighedEntry w f s =
      { number := s.basket.length + 1
        kind := .weighed
        description := w.description
        amount := price
        voided := false
        voids := none
        weighing := some
          { netG := netG
            tareG := s.scale.tareT / 10
            divisionG := p.divisionAt (f - s.scale.tareT) / 10
            unitPrice := w.unitPrice
            profile := p }
        expected := some netG.toNat
        tolerance := none
        status := .none } := by
  subst hp hnet hprice
  rfl

/-- All that a completion does beside its entry: the platter LOCKED, the tare gone when taken per item, the request ended
with OK (R36, R43, R48). -/
theorem completeWithEntry_eq {w : WeighRequest} {f netG : Int} {left : Occupancy} {e : Entry} {s a : State}
    (hw : s.scale.weigh = some w) (he : weighedEntry w f s = e) (ha : appendEntry e s = a)
    (hnet : netG = legalRound s.platter.record.profileInForce (f - s.scale.tareT) / 10) :
    completeWithEntry w f left s = { a with
      scale :=
        { tareT := if s.store.live.tarePerItem then 0 else s.scale.tareT
          occupancy := .locked
          weigh := none }
      link := (if .locked = left then a.link else a.link.push (.platterState .locked left)).push
        (.weighDone .ok (some e.number) (some netG) (some e.amount)) } := by
  subst hnet
  have hscale : a.scale = s.scale := by rw [← ha]; simp
  have hstore : a.store = s.store := by rw [← ha]; simp
  have hweigh : a.scale.weigh ≠ none := by simp [hscale, hw]
  simp only [completeWithEntry, he, ha, occupancyReport_eq, setOccupancy, State.live, hstore]
  cases s.store.live.tarePerItem
  · simp only [Bool.false_eq_true, if_false]
    rw [endWeigh_of_some (by exact hweigh), hscale]
    rfl
  · simp only [if_true]
    rw [endWeigh_of_some (by exact hweigh)]
    rfl

/-- A price the record takes: there is room, and the total stays in range (R42). -/
theorem recordTakes_iff {s : State} {r : SaleRecord} (hr : s.sale.current = .opened r) (price : Int) :
    recordTakes price s = true ↔
      r.basket.length < 120 ∧ -99999999 ≤ r.total + price ∧ r.total + price ≤ 99999999 := by
  simp [recordTakes, hr, CurrentSale.record?, SaleRecord.full, totalInRange]

/-- A steady platter sample with a weigh request in flight: the load is judged, then the request examined (R35, R40). -/
theorem steady_platter_weighing {s : State} {v fine : Int} {occ : Occupancy} (h : s.steady .platter v fine)
    (hw : s.scale.weigh ≠ none)
    (hocc : occ = if fine ≤ 10 * s.platter.record.profileInForce.e1 then .empty
      else if s.scale.occupancy = .locked then .locked else .loaded) :
    sampleArrives .platter v s =
      examineWeigh { filtered := v, fineGross := some fine, saturated := .no, stable := true } s.scale.occupancy
        { s with
          platter := s.platter.steadied .platter v fine
          scale := { s.scale with occupancy := occ } } := by
  have h' := h
  obtain ⟨-, -, hready, -⟩ := h
  have hready : s.platter.condition = .ready := hready
  have hjudged := occupancyAfter_eq (s := s.withChannel .platter (s.platter.steadied .platter v fine))
    (o := { filtered := v, fineGross := some fine, saturated := .no, stable := true }) rfl
    (by simp [State.withChannel, Channel.steadied, hready, ChannelCondition.ranged])
  rw [steady_arrives .platter v fine s h']
  refine (platterStages_weighing (by exact hw) rfl).trans ?_
  rw [show (s.channel .platter).steadied .platter v fine = s.platter.steadied .platter v fine from rfl, hjudged, hocc]
  rfl

/-- Settles O39: the load is judged first; away from the completion point the request waits, and at it the price, the record
and the unclaimed delta decide in turn. -/
theorem weighCompletes : Obligations.WeighCompletes := by
  intro s v fine w hp hsteady hw p net netG price hprofile hnet hnetG hprice number occ moved ends
  subst hprofile hnet
  have hweigh : s.scale.weigh ≠ none := by simp [hw]
  let o : FilterOutput := { filtered := v, fineGross := some fine, saturated := .no, stable := true }
  let judged : State :=
    { s with platter := s.platter.steadied .platter v fine, scale := { s.scale with occupancy := occ } }
  have arrives : exec (.sampleArrival .platter v) s = .next (endEvent (examineWeigh o s.scale.occupancy judged)) := by
    rw [← steady_platter_weighing hsteady hweigh rfl]
    exact congrArg _ (asEvent_powered hp)
  have becomes {t : State} (ht : examineWeigh o s.scale.occupancy judged = t) :
      exec (.sampleArrival .platter v) s = .next (endEvent t) := by rw [arrives, ht]
  have hready : judged.platter.condition = .ready := by
    obtain ⟨-, -, h, -⟩ := hsteady
    exact h
  have point := completionPoint_iff (o := o) hready rfl rfl
  refine ⟨fun h => ?_, fun r hr hocc hmin hmax => ?_⟩
  · have hc : completionPoint o judged = false := by
      rw [Bool.eq_false_iff, ne_eq, point]
      rintro ⟨hload, hlow, hhigh, hopen⟩
      obtain h | h | h | h := h
      · exact hload h
      · exact absurd hlow (not_le.2 h)
      · exact absurd hhigh (not_le.2 h)
      · exact h hopen
    exact becomes ((examineWeigh_waits _ hc).trans (occupancyReport_eq ..))
  have decided := examineWeigh_completes s.scale.occupancy (s := judged) hw
    (point.2 ⟨hocc, hmin, hmax, congrArg CurrentSale.state hr⟩) rfl hnetG hprice
  have ended (why : WeighResult) {n p : Option Int} :
      endWeigh why none n p (occupancyReport s.scale.occupancy judged) = { judged with
        scale := { judged.scale with weigh := none }
        link := (moved occ s.link).push (.weighDone why none n p) } := by
    rw [occupancyReport_eq, endWeigh_of_some (by exact hweigh)]
  have takes := recordTakes_iff (s := judged) hr price
  refine ⟨fun hhigh => ?_, fun hprice' hfull => ?_, fun hprice' hroom hlow hhigh hnew => ?_⟩
  · exact becomes (decided.trans ((if_pos hhigh).trans (ended _)))
  · have hrefused : recordTakes price judged = false := by
      rw [Bool.eq_false_iff, ne_eq, takes]
      omega
    exact becomes (decided.trans ((if_neg (by omega)).trans ((if_pos hrefused).trans (ended _))))
  intro tol completes
  have completed := decided.trans ((if_neg (by omega)).trans (if_neg (by simp [takes.2 ⟨hroom, hlow, hhigh⟩])))
  have he := weighedEntry_eq (s := judged) (w := w) (f := fine) rfl hnetG hprice
  have completes_of {st : BaggingStatus} {m : Monitor} (ha : appendEntry (weighedEntry w fine judged) judged =
      { judged with
        sale := { s.sale with current := .opened { r with
          basket := r.basket ++ [{ weighedEntry w fine judged with status := st }]
          total := r.total + (weighedEntry w fine judged).amount } }
        monitor := m
        link := s.link.push (.entryBagging (weighedEntry w fine judged).number st none .appended) }) :
      completes st m := by
    rw [he] at ha
    exact becomes (completed.trans (completeWithEntry_eq (s := judged) hw he ha hnetG))
  have hexpected : (weighedEntry w fine judged).expected = some netG.toNat := by rw [he]
  refine ⟨fun u hu h1 h2 => ?_, fun hu => ?_⟩
  · exact completes_of (appendEntry_claims (tol := tol) hr hexpected hnew rfl hu ((matchesWeight_iff ..).2 ⟨h1, h2⟩))
  · refine completes_of (appendEntry_expects (tol := tol) hr hexpected hnew rfl fun u hm => ?_)
    have := hu u hm
    rw [Bool.eq_false_iff, ne_eq, matchesWeight_iff]
    omega

end Sys2Proof.Machine
end

section
namespace Sys2Proof.Machine

/-! ### The state after reset -/

/-- Settles O4: the state after reset meets each law by its values. -/
theorem lawsHoldAtReset : Obligations.LawsHoldAtReset := by
  unfold Obligations.LawsHoldAtReset
  decide

end Sys2Proof.Machine
end

section
namespace Sys2Proof.Machine

/-! ### Sums and counts of lists -/

theorem sumOf_eq_sum (xs : List Int) : sumOf xs = xs.sum := by
  induction xs with
  | nil => rfl
  | cons x xs ih => simp [sumOf, ih]

theorem countWhere_eq_countP {α : Type} (p : α → Bool) (xs : List α) : countWhere p xs = xs.countP p := by
  induction xs with
  | nil => rfl
  | cons x xs ih =>
    rw [countWhere, ih, List.countP_cons]
    omega

theorem countWhere_map {α β : Type} (p : β → Bool) (f : α → β) (xs : List α) :
    countWhere p (xs.map f) = countWhere (fun x => p (f x)) xs := by
  induction xs with
  | nil => rfl
  | cons x xs ih => simp [countWhere, ih]

/-! ### How the sale, the card slot and the job list can move -/

/-- What the laws of the sale look at: the Sale Controller, whether the card slot is bound, and the kinds of the jobs. -/
structure Ledger where
  sale : SaleBlock
  bound : Bool
  kinds : List JobKind

/-- The ledger of a state. -/
def State.ledger (s : State) : Ledger where
  sale := s.sale
  bound := s.reader.slot.bound
  kinds := s.queue.jobs.map Job.kind

/-- The Sale Controller with its open record replaced. -/
def Ledger.withCurrent (l : Ledger) (c : CurrentSale) : Ledger := { l with sale := { l.sale with current := c } }

/-- A change of entries that leaves the number and the amount of each (R54, R55). -/
def KeepsLine (g : Entry → Entry) : Prop := ∀ e, (g e).number = e.number ∧ (g e).amount = e.amount

/-- A record with its entries changed one by one. -/
def SaleRecord.relabelled (g : Entry → Entry) (r : SaleRecord) : SaleRecord := { r with basket := r.basket.map g }

/-- All that one operation can do to the ledger, with the checks that stand before it. -/
inductive Ledger.Moves : Ledger → Ledger → Prop
  | relabels {l : Ledger} {g : Entry → Entry} : KeepsLine g →
      Moves l (l.withCurrent (l.sale.current.mapRecord (SaleRecord.relabelled g)))
  | opens {l : Ledger} (n : Int) : l.sale.current = .idle → Moves l (l.withCurrent (.opened (SaleRecord.fresh n)))
  | appends {l : Ledger} {r : SaleRecord} {e : Entry} : l.sale.current = .opened r → r.basket.length < 120 →
      e.number = r.basket.length + 1 → Moves l (l.withCurrent (.opened (r.append e)))
  | begins {l : Ledger} {r : SaleRecord} : l.sale.current = .opened r → 0 ≤ r.total →
      Moves l (l.withCurrent (.tender r))
  | resumes {l : Ledger} {r : SaleRecord} : l.sale.current = .tender r → r.tenders = [] →
      Moves l (l.withCurrent (.opened r))
  | takesCash {l : Ledger} {r : SaleRecord} {a : Int} : l.sale.current = .tender r → 1 ≤ a → r.tenders.length < 8 →
      Moves l (l.withCurrent (.tender
        (r.addTender { kind := .cash, amount := a, state := .accepted, masked := none })))
  | takesCard {l : Ledger} {r : SaleRecord} {a : Int} {m : Option MaskedAccount} : l.sale.current = .tender r →
      r.cardPending = false → 1 ≤ a → a ≤ r.total - r.tendered → r.tenders.length < 8 →
      Moves l { l.withCurrent (.tender (r.addTender { kind := .card, amount := a, state := .pending, masked := m })) with
        bound := true }
  | decides {l : Ledger} {r : SaleRecord} (approved : Bool) : l.sale.current = .tender r →
      Moves l { l.withCurrent (.tender { r with
        tenders := if approved then approveTenders r.tenders else declineTenders r.tenders }) with bound := false }
  | closes {l : Ledger} {r : SaleRecord} : l.sale.current = .tender r → r.cardPending = false → r.total ≤ r.tendered →
      (∀ c, l.sale.closed = some c → c.receipt ≠ .pending) →
      Moves l { l with sale := { current := .idle, closed := some (closedOf r) }, kinds := l.kinds ++ [.original] }
  | abandons {l : Ledger} : Moves l { l.withCurrent .idle with bound := false }
  | reprints {l : Ledger} {c : ClosedSale} : l.sale.closed = some c → c.receipt = .aborted →
      Moves l { l with
        sale := { l.sale with closed := some { c with receipt := .pending } }, kinds := l.kinds ++ [.original] }
  | queues {l : Ledger} {k : JobKind} : k ≠ .original → countWhere (fun k => k != .original) l.kinds < 3 →
      Moves l { l with kinds := l.kinds ++ [k] }
  | jobEnds {l : Ledger} {k : JobKind} {rest : List JobKind} : l.kinds = k :: rest →
      Moves l { l with
        sale := { l.sale with closed :=
          if k = .original then l.sale.closed.map fun c => { c with receipt := .done } else l.sale.closed }
        kinds := rest }
  | clears {l : Ledger} :
      Moves l { l with
        sale := { l.sale with closed :=
          if (l.kinds.any fun k => k == .original) then l.sale.closed.map fun c => { c with receipt := .aborted }
          else l.sale.closed }
        kinds := [] }

/-- A later state whose ledger is reached by such moves. -/
def LedgerMoves (s t : State) : Prop := Relation.ReflTransGen Ledger.Moves s.ledger t.ledger

namespace LedgerMoves

theorem refl (s : State) : LedgerMoves s s := Relation.ReflTransGen.refl

theorem trans {a b c : State} (h : LedgerMoves a b) (h' : LedgerMoves b c) : LedgerMoves a c :=
  Relation.ReflTransGen.trans h h'

theorem of_eq {s t : State} (h : t.ledger = s.ledger) : LedgerMoves s t := by
  unfold LedgerMoves
  rw [h]

/-- A state before with the same ledger. -/
theorem from_eq {s s' t : State} (h : LedgerMoves s' t) (hs : s'.ledger = s.ledger := by rfl) : LedgerMoves s t :=
  (of_eq hs).trans h

theorem of_move {s t : State} (h : s.ledger.Moves t.ledger) : LedgerMoves s t :=
  Relation.ReflTransGen.single h

/-- The ledger looks at three fields. -/
theorem of_frame {s t : State} (hs : t.sale = s.sale) (hr : t.reader.slot.bound = s.reader.slot.bound)
    (hq : t.queue.jobs.map Job.kind = s.queue.jobs.map Job.kind) : LedgerMoves s t :=
  of_eq (by simp only [State.ledger, hs, hr, hq])

end LedgerMoves

end Sys2Proof.Machine
end

section
namespace Sys2Proof.Machine
namespace LedgerMoves

/-! ### The shared operations on the ledger -/

theorem frame (s : State) {t : State} (hs : t.sale = s.sale) (hr : t.reader = s.reader) (hq : t.queue = s.queue) :
    LedgerMoves s t := of_frame hs (by rw [hr]) (by rw [hq])

theorem report (r : Report) (s : State) : LedgerMoves s (report r s) := refl s

/-- A bagging status put on an entry is a change of entries that keeps numbers and amounts (R94). -/
theorem relabel (g : Entry → Entry) (hg : KeepsLine g) (s : State) :
    LedgerMoves s (mapSale (SaleRecord.relabelled g) s) := of_move (.relabels hg)

theorem keepsLine_status (n : Nat) (st : BaggingStatus) :
    KeepsLine fun e => if e.number = n then { e with status := st } else e := by
  intro e
  dsimp only
  split <;> exact ⟨rfl, rfl⟩

theorem setStatus (n : Nat) (st : BaggingStatus) (c : BaggingCause) (s : State) :
    LedgerMoves s (setStatus n st c s) := by
  unfold Machine.setStatus
  split
  · exact refl s
  · exact (relabel _ (keepsLine_status n st) s).trans (report _ _)

theorem appendStatus (n : Nat) (st : BaggingStatus) (s : State) : LedgerMoves s (appendStatus n st s) :=
  (relabel _ (keepsLine_status n st) s).trans (report _ _)

theorem clearNaming (k : ExceptionKind) (n : Nat) (c : ExceptionCause) (s : State) :
    LedgerMoves s (clearNaming k n c s) := frame s (by simp) (by simp) (by simp)

theorem clearAnyNaming (n : Nat) (c : ExceptionCause) (s : State) : LedgerMoves s (clearAnyNaming n c s) :=
  frame s (by simp) (by simp) (by simp)

theorem removeExpectation (n : Nat) (s : State) : LedgerMoves s (removeExpectation n s) := refl s

theorem addExpectation (n w : Nat) (t : Option Nat) (s : State) : LedgerMoves s (addExpectation n w t s) := by
  unfold Machine.addExpectation
  dsimp only
  repeat' split
  all_goals exact (appendStatus ..).from_eq

theorem entryVoided (e : Entry) (s : State) : LedgerMoves s (entryVoided e s) := by
  unfold Machine.entryVoided
  repeat' split
  any_goals exact refl s
  · exact trans (trans (removeExpectation ..) (setStatus ..)) (clearNaming ..)
  · exact trans (trans (removeExpectation ..) (setStatus ..)) (clearNaming ..)
  · exact (setStatus ..).from_eq
  · exact trans (setStatus ..) (clearNaming ..)

theorem clearOne (x : BagException) (c : ExceptionCause) (s : State) : LedgerMoves s (clearOne x c s) :=
  frame s (by simp) (by simp) (by simp)

theorem raiseException (k : ExceptionKind) (e : Option Nat) (d : Option Int) (s : State) :
    LedgerMoves s (raiseException k e d s) := frame s (by simp) (by simp) (by simp)

theorem meetAdd (x : Expectation) (s : State) : LedgerMoves s (meetAdd x s) :=
  ((removeExpectation ..).trans (setStatus ..)).trans (clearNaming ..)

theorem unclaimedGrows (d : Nat) (s : State) : LedgerMoves s (unclaimedGrows d s) := by
  unfold Machine.unclaimedGrows
  dsimp only
  split_ifs <;> split
  · exact (meetAdd ..).from_eq
  · exact (raiseException ..).from_eq
  · exact (meetAdd ..).from_eq
  · exact refl s

theorem positiveChange (d : Nat) (s : State) : LedgerMoves s (positiveChange d s) := by
  unfold Machine.positiveChange
  repeat' split
  · exact trans (setStatus ..) (clearOne ..)
  · exact clearOne ..
  · exact meetAdd ..
  · exact unclaimedGrows ..

theorem negativeAfterUnclaimed (d : Nat) (s : State) : LedgerMoves s (negativeAfterUnclaimed d s) := by
  unfold Machine.negativeAfterUnclaimed removalFromBasket
  repeat' split
  · exact clearOne ..
  · exact trans (trans (removeExpectation ..) (setStatus ..)) (clearNaming ..)
  · exact trans (setStatus ..) (raiseException ..)
  · exact raiseException ..

theorem negativeChange (d : Nat) (s : State) : LedgerMoves s (negativeChange d s) := by
  unfold Machine.negativeChange
  repeat' split
  · exact refl s
  · exact negativeAfterUnclaimed ..
  · exact negativeAfterUnclaimed ..

theorem bagChange (d : Int) (s : State) : LedgerMoves s (bagChange d s) := by
  unfold Machine.bagChange
  split_ifs
  · exact refl s
  · exact positiveChange ..
  · exact negativeChange ..

theorem bagTimerExpires (n : Nat) (s : State) : LedgerMoves s (bagTimerExpires n s) := by
  unfold Machine.bagTimerExpires
  dsimp only
  repeat' split
  · exact refl s
  · exact trans (setStatus ..).from_eq (raiseException ..)
  · exact trans (setStatus ..).from_eq (raiseException ..)
  · exact refl s

/-- An entry appended to an OPEN record with room, under the next number (R54 to R57). -/
theorem appendEntry {s : State} {r : SaleRecord} {e : Entry} (hr : s.sale.current = .opened r)
    (hroom : r.basket.length < 120) (hn : e.number = r.basket.length + 1) : LedgerMoves s (appendEntry e s) := by
  have happend : LedgerMoves s (mapSale (SaleRecord.append e) s) := by
    refine of_move ?_
    have h := Ledger.Moves.appends (l := s.ledger) hr hroom hn
    simpa [State.ledger, mapSale, hr, CurrentSale.mapRecord, Ledger.withCurrent] using h
  unfold Machine.appendEntry
  dsimp only
  split
  · exact happend.trans (addExpectation ..)
  · exact happend

/-! ### The printer on the ledger -/

theorem startJob (c : JobCause) (s : State) : LedgerMoves s (startJob c s) :=
  of_frame (by simp) (by simp) (startJob_ids c s).2

/-- An accepted job joins the ledger's kinds at the tail (R147, R148). -/
theorem acceptJob_ledger (j : Job) (s : State) :
    (acceptJob j s).ledger = { s.ledger with kinds := s.ledger.kinds ++ [j.kind] } := by
  simp only [State.ledger, (acceptJob_ids j s).2]
  simp

theorem refreshReasons_kinds (s : State) :
    (refreshReasons s).queue.jobs.map Job.kind = s.queue.jobs.map Job.kind := by
  simp only [refreshReasons, PrintQueue.mapFirst]
  split
  · rfl
  · next j rest hj =>
    simp only [hj, List.map_cons]
    split <;> rfl

theorem enterPause_kinds (c : PauseCause) (s : State) :
    (enterPause c s).queue.jobs.map Job.kind = s.queue.jobs.map Job.kind := by
  unfold enterPause
  dsimp only
  split <;> simp [*]

theorem leavePause_kinds (c : PauseCause) (s : State) :
    (leavePause c s).queue.jobs.map Job.kind = s.queue.jobs.map Job.kind := by
  unfold leavePause
  cases hj : s.queue.jobs <;> dsimp only <;> split <;> (try split_ifs) <;> simp [hj]

theorem proceed (s : State) : LedgerMoves s (proceed s) := frame s (by simp) (by simp) (by simp)

theorem markStop (s : State) : LedgerMoves s (markStop s) := frame s (by simp) (by simp) (by simp)

theorem causeRaised (c : PauseCause) (s : State) : LedgerMoves s (causeRaised c s) := by
  refine of_frame (by simp) (by simp) ?_
  unfold Machine.causeRaised
  dsimp only
  split
  · rfl
  · split
    · exact enterPause_kinds ..
    · simpa using refreshReasons_kinds _
    · rfl
    · rfl

theorem causeGone (c : PauseCause) (s : State) : LedgerMoves s (causeGone c s) := by
  refine of_frame (by simp) (by simp) ?_
  unfold Machine.causeGone
  dsimp only
  split
  · rfl
  · split
    · split
      · exact refreshReasons_kinds _
      · exact leavePause_kinds ..
    · rfl
    · rfl
    · rfl

/-- The first job leaves the list; an ORIGINAL tells the closed slot (R153). -/
theorem jobDone {j : Job} {rest : List Job} {s : State} (hj : s.queue.jobs = j :: rest) :
    LedgerMoves s (jobDone j rest s) := by
  have ended {u : State} (hs : u.sale = { s.sale with
        closed := if j.kind = .original then s.sale.closed.map fun c => { c with receipt := .done } else s.sale.closed })
      (hr : u.reader = s.reader) (hq : u.queue.jobs.map Job.kind = rest.map Job.kind) : LedgerMoves s u := by
    have h := Ledger.Moves.jobEnds (l := s.ledger) (k := j.kind) (rest := rest.map Job.kind)
      (by simp [State.ledger, hj])
    exact of_move (by simpa [State.ledger, hs, hr, hq] using h)
  unfold Machine.jobDone
  dsimp only
  split_ifs with horiginal hrest <;> refine ended ?_ ?_ ?_ <;>
    simp_all [setReceipt, startJob_ids]

theorem lineComplete (s : State) : LedgerMoves s (lineComplete s) := by
  unfold Machine.lineComplete
  split
  · exact refl s
  · next j rest hj =>
    split
    · exact of_frame (by simp) (by simp) (by simp [hj])
    · exact jobDone hj

theorem afterRow (s : State) : LedgerMoves s (afterRow s) := by
  unfold Machine.afterRow
  split
  · exact refl s
  · split_ifs
    · exact lineComplete s
    · exact markStop s
    · exact proceed s

end LedgerMoves
end Sys2Proof.Machine
end

section
namespace Sys2Proof.Machine
namespace LedgerMoves

/-! ### The requests on the ledger -/

theorem openSaleRequest (n : Wide) (s : State) : LedgerMoves s (openSaleRequest n s).1 := by
  unfold Machine.openSaleRequest refuse done
  split
  · exact refl s
  split
  · exact refl s
  split
  · exact refl s
  · have h : s.sale.current = .idle := by
      cases hc : s.sale.current <;> simp_all [CurrentSale.state]
    exact of_move (.opens _ h)

theorem addItemRequest (d : List Byte) (a : Wide) (w x : Option Half) (s : State) :
    LedgerMoves s (addItemRequest d a w x s).1 := by
  unfold Machine.addItemRequest refuse answer
  split
  · next r hr =>
    split
    · exact refl s
    split
    · exact refl s
    split
    · exact refl s
    next hfull =>
    split
    · exact refl s
    · exact appendEntry hr (by simpa [SaleRecord.full] using hfull) rfl
  · exact refl s

theorem keepsLine_voided (n : Nat) : KeepsLine fun e => if e.number = n then { e with voided := true } else e := by
  intro e
  dsimp only
  split <;> exact ⟨rfl, rfl⟩

/-- VOID_ENTRY marks an entry, appends the VOID entry and tells the monitor (R58, R59). -/
theorem voidTaken {s : State} {r : SaleRecord} {e : Entry} (hr : s.sale.current = .opened r)
    (hroom : r.basket.length < 120) : LedgerMoves s (voidTaken r.nextNumber e s) := by
  have hmarked : (mapSale (SaleRecord.relabelled fun y => if y.number = e.number then { y with voided := true } else y)
      s).sale.current = .opened (r.relabelled fun y => if y.number = e.number then { y with voided := true } else y) := by
    simp [mapSale, hr, CurrentSale.mapRecord]
  have happend := appendEntry (e := voidEntryOf r.nextNumber e) hmarked (by simpa [SaleRecord.relabelled] using hroom)
    (by simp [voidEntryOf, SaleRecord.nextNumber, SaleRecord.relabelled])
  exact ((relabel _ (keepsLine_voided e.number) s).trans happend).trans (entryVoided e _)

theorem voidEntryRequest (n : Byte) (s : State) : LedgerMoves s (voidEntryRequest n s).1 := by
  unfold Machine.voidEntryRequest refuse answer
  split
  · next r hr =>
    split
    · exact refl s
    split
    · exact refl s
    split
    · exact refl s
    split
    · exact refl s
    next hfull =>
    split
    · exact refl s
    · exact voidTaken hr (by simpa [SaleRecord.full] using hfull)
  · exact refl s

theorem beginTenderRequest (s : State) : LedgerMoves s (beginTenderRequest s).1 := by
  unfold Machine.beginTenderRequest refuse done
  split
  · next r hr =>
    split_ifs with h1 h2
    · exact refl s
    · exact refl s
    · exact of_move (.begins hr (by omega))
  · exact refl s

theorem resumeSaleRequest (s : State) : LedgerMoves s (resumeSaleRequest s).1 := by
  unfold Machine.resumeSaleRequest refuse done
  split
  · next r hr =>
    split_ifs with h
    · exact of_move (.resumes hr (by simpa using h))
    · exact refl s
  · exact refl s

theorem addCashRequest (a : Wide) (s : State) : LedgerMoves s (addCashRequest a s).1 := by
  unfold Machine.addCashRequest refuse answer
  split
  · next r hr =>
    split
    · exact refl s
    next h1 =>
    split
    · exact refl s
    · have h := Ledger.Moves.takesCash (l := s.ledger) (a := a.toInt) hr (not_not.1 h1).1 (by omega)
      exact of_move (by simpa [State.ledger, mapSale, hr, CurrentSale.mapRecord, Ledger.withCurrent] using h)
  · exact refl s

theorem addCardTenderRequest (a : Wide) (s : State) : LedgerMoves s (addCardTenderRequest a s).1 := by
  unfold Machine.addCardTenderRequest refuse answer
  split
  · next r hr =>
    split
    · exact refl s
    next hp =>
    split
    · next d m t hslot =>
      split
      · exact refl s
      next h1 =>
      split
      · exact refl s
      · obtain ⟨hlow, hhigh⟩ := not_not.1 h1
        have h := Ledger.Moves.takesCard (l := s.ledger) (m := some m) hr (by simpa using hp) hlow hhigh (by omega)
        exact of_move (by simpa [State.ledger, mapSale, hr, CurrentSale.mapRecord, Ledger.withCurrent, setSlot,
          CardSlot.bound] using h)
    · exact refl s
  · exact refl s

theorem cardDecisionRequest (d : Byte) (s : State) : LedgerMoves s (cardDecisionRequest d s).1 := by
  unfold Machine.cardDecisionRequest refuse answer
  split
  · next r hr =>
    split
    · exact refl s
    split
    · exact refl s
    · next approved _ =>
      have h := Ledger.Moves.decides (l := s.ledger) approved hr
      exact of_move (by simpa [State.ledger, decideCard, mapSale, hr, CurrentSale.mapRecord, Ledger.withCurrent,
        emptySlot, setSlot, CardSlot.bound] using h)
  · exact refl s

theorem ignoreSwipe_slot (s : State) : (ignoreSwipe s).reader.slot = s.reader.slot := by
  unfold ignoreSwipe
  split <;> rfl

theorem emptyHeld_bound (s : State) : (emptyHeld s).reader.slot.bound = s.reader.slot.bound := by
  unfold emptyHeld
  cases h : s.reader.slot <;> simp [CardSlot.isHeld, CardSlot.bound, emptySlot, setSlot, h]

@[simp] theorem emptyHeld_sale (s : State) : (emptyHeld s).sale = s.sale := by
  unfold emptyHeld
  split <;> rfl

@[simp] theorem emptyHeld_queue (s : State) : (emptyHeld s).queue = s.queue := by
  unfold emptyHeld
  split <;> rfl

/-- A kick moves neither the sale, the reader nor the job list (R122). -/
theorem kick (k : KickSource) (s : State) : LedgerMoves s (kick k s) := frame s (by simp) (by simp) (by simp)

theorem closeSale {s : State} {r : SaleRecord} (hr : s.sale.current = .tender r) (hp : r.cardPending = false)
    (hpaid : r.total ≤ r.tendered) (hslot : ∀ c, s.sale.closed = some c → c.receipt ≠ .pending) :
    LedgerMoves s (closeSale r s) := by
  have h := Ledger.Moves.closes (l := s.ledger) hr hp hpaid hslot
  refine of_move ?_
  have hl : (Machine.closeSale r s).ledger =
      { s.ledger with
        sale := { current := .idle, closed := some (closedOf r) }, kinds := s.ledger.kinds ++ [.original] } := by
    unfold Machine.closeSale State.ledger
    dsimp only
    split_ifs <;> simp [ignoreSwipe_slot, emptyHeld_bound, acceptJob_ids, receiptJob, discardUnclaimed, mapMonitor]
  rw [hl]
  exact h

theorem closeSaleRequest (s : State) : LedgerMoves s (closeSaleRequest s).1 := by
  unfold Machine.closeSaleRequest refuse answer
  split
  · next r hr =>
    split_ifs with hp h2 hpaid hback
    · exact refl s
    · exact refl s
    · exact refl s
    · exact refl s
    · refine closeSale hr (by simpa using hp) (by omega) fun c hc hpending => hback ?_
      simp [receiptBacklog, hc, hpending]
  · exact refl s

theorem abandonSale (r : SaleRecord) (s : State) : LedgerMoves s (abandonSale r s) := by
  refine of_move ?_
  have hl : (Machine.abandonSale r s).ledger = { s.ledger.withCurrent .idle with bound := false } := by
    simp [Machine.abandonSale, State.ledger, Ledger.withCurrent, ignoreSwipe_slot, emptySlot, setSlot, setSale,
      CardSlot.bound]
  rw [hl]
  exact .abandons

theorem abandonSaleRequest (s : State) : LedgerMoves s (abandonSaleRequest s).1 := by
  unfold Machine.abandonSaleRequest refuse done
  split
  · exact refl s
  · split_ifs
    · exact refl s
    · exact refl s
    · exact abandonSale _ s

theorem queuesJob {j : Job} {s : State} (hk : j.kind ≠ .original) (h : s.queue.textAndCopy < 3) :
    LedgerMoves s (acceptJob j s) := by
  refine of_move ?_
  rw [acceptJob_ledger]
  refine .queues hk ?_
  simp only [State.ledger, countWhere_map]
  exact h

theorem reprintRequest (s : State) : LedgerMoves s (reprintRequest s).1 := by
  unfold Machine.reprintRequest refuse answer
  split
  · exact refl s
  · next c hc =>
    split
    · exact refl s
    · next ha =>
      refine of_move ?_
      have h := Ledger.Moves.reprints (l := s.ledger) hc ha
      dsimp only
      rw [acceptJob_ledger]
      simpa [State.ledger, receiptJob, setReceipt, hc] using h
    · split_ifs
      · exact refl s
      · exact queuesJob (by simp [receiptJob]) (by omega)

theorem clearExceptionRequest (n : Byte) (s : State) : LedgerMoves s (clearExceptionRequest n s).1 := by
  unfold Machine.clearExceptionRequest refuse done
  split_ifs
  · exact refl s
  · split
    · exact refl s
    · split
      · exact trans (trans (removeExpectation ..) (setStatus ..)) (clearOne ..)
      · exact clearOne ..

theorem waiveBaggingRequest (n : Byte) (s : State) : LedgerMoves s (waiveBaggingRequest n s).1 := by
  unfold Machine.waiveBaggingRequest refuse done
  split_ifs
  · exact refl s
  · exact refl s
  · split
    · exact refl s
    · split_ifs
      · exact trans (trans (removeExpectation ..) (setStatus ..)) (clearAnyNaming ..)
      · exact refl s

theorem bagResyncRequest (s : State) : LedgerMoves s (bagResyncRequest s).1 := by
  unfold Machine.bagResyncRequest refuse answer
  split_ifs
  · exact refl s
  · have hwaived : KeepsLine fun e => if e.status.waivable then { e with status := .waived } else e := by
      intro e
      dsimp only
      split <;> exact ⟨rfl, rfl⟩
    exact (relabel _ hwaived s).trans (frame _ (by simp; rfl) (by simp) (by simp))

theorem printTextRequest (lines : List LineArg) (s : State) : LedgerMoves s (printTextRequest lines s).1 := by
  unfold Machine.printTextRequest refuse answer
  split
  · exact refl s
  · split_ifs
    · exact refl s
    · exact refl s
    · exact refl s
    · exact refl s
    · exact queuesJob (by simp [textJob]) (by omega)

/-- PRINTER_CLEAR empties the list and tells the closed slot of an ORIGINAL (R69, R155). -/
theorem printerClear (s : State) : LedgerMoves s (printerClear s) := by
  refine of_move ?_
  have hany : (s.ledger.kinds.any fun k => k == .original) = s.queue.jobs.any fun j => j.kind == .original := by
    simp [State.ledger, Function.comp_def]
  have hl : (Machine.printerClear s).ledger = { s.ledger with
      sale := { s.sale with
        closed := if (s.queue.jobs.any fun j => j.kind == .original) then
          s.sale.closed.map fun c => { c with receipt := .aborted } else s.sale.closed }
      kinds := [] } := by
    unfold Machine.printerClear leaveFault State.ledger
    dsimp only
    simp only [reportAborted_eq]
    split_ifs <;> simp [setReceipt, startJob_ids]
  rw [hl, ← hany]
  exact .clears

theorem startChannel (ch : ChannelId) (s : State) : LedgerMoves s (startChannel ch s) := by
  rw [startChannel_eq]
  exact frame s (by simp) (by simp) (by simp)

theorem zeroTaken (ch : ChannelId) (v : Int) (s : State) : LedgerMoves s (zeroTaken ch v s) := by
  rw [zeroTaken_eq rfl]
  exact frame s (by simp) (by simp) (by simp)

theorem setRequest (n : Byte) (v : SettingArg) (s : State) : LedgerMoves s (setRequest n v s).1 := by
  have heffect (id : Nat) (u : State) : LedgerMoves u (settingEffect id u) := by
    unfold settingEffect restartChannel sensePresentSet senseGiven
    repeat' split
    all_goals first
      | exact startChannel ..
      | exact of_frame (by simp) (by simp [ignoreSwipe_slot]) (by simp)
  have hset (x : SettingValue) (b : Bool) : LedgerMoves s (setAnswer n.toNat x b s).1 := by
    unfold setAnswer changeSetting
    dsimp only
    split
    · exact refl s
    · exact (heffect _ _).from_eq
  unfold Machine.setRequest
  dsimp only [refuse]
  repeat' split
  all_goals first | exact refl s | exact hset _ _

theorem calibrationStep (ch : ChannelId) (b : Bool) (r : CalRecord) (s : State) :
    LedgerMoves s (calibrationStep ch b r s).1 := by
  rw [calibrationStep_eq]
  exact frame s (by simp) (by simp) (by simp)

/-- Every request moves the ledger by such moves alone. -/
theorem request (r : Request) (s : State) : LedgerMoves s (handleRequest r s).1 := by
  cases r with
  | openSale n => exact openSaleRequest n s
  | addItem d a w x => exact addItemRequest d a w x s
  | voidEntry n => exact voidEntryRequest n s
  | beginTender => exact beginTenderRequest s
  | resumeSale => exact resumeSaleRequest s
  | addCash a => exact addCashRequest a s
  | addCardTender a => exact addCardTenderRequest a s
  | cardDecision d => exact cardDecisionRequest d s
  | closeSale => exact closeSaleRequest s
  | abandonSale => exact abandonSaleRequest s
  | reprint => exact reprintRequest s
  | clearException n => exact clearExceptionRequest n s
  | waiveBagging n => exact waiveBaggingRequest n s
  | bagResync => exact bagResyncRequest s
  | printText lines => exact printTextRequest lines s
  | printerClear => exact printerClear s
  | set n v => exact setRequest n v s
  | releaseCard =>
    simp only [handleRequest, releaseCardRequest, refuse, answer]
    split
    · next h => exact of_frame rfl (by simp [setSlot, h, CardSlot.bound]) rfl
    · exact refl s
  | discardCard =>
    simp only [handleRequest, discardCardRequest, refuse, done]
    split
    · next h =>
      refine of_frame rfl ?_ rfl
      cases hs : s.reader.slot <;> simp_all [emptySlot, setSlot, CardSlot.bound, CardSlot.takesCard]
    · exact refl s
  | calZero | calSpan | setProfile =>
    simp only [handleRequest, calZeroRequest, calZeroOn, calSpanRequest, calSpanOn, setProfileRequest, refuse]
    repeat' split
    all_goals first | exact refl s | exact calibrationStep ..
  | zero =>
    simp only [handleRequest, zeroRequest, zeroOn, refuse, done]
    repeat' split
    all_goals first | exact refl s | exact zeroTaken ..
  | _ =>
    simp only [handleRequest, readWeightRequest, setTareRequest, takeTareRequest, clearTareRequest,
      weighItemRequest, cancelWeighRequest, readSaleRequest, readEntryRequest, readTenderRequest, readBaggingRequest,
      readCardRequest, noSaleRequest, drawerResetRequest, readDrawerRequest, beepRequest, readSupplyRequest,
      readPrintQueueRequest, readPrinterRequest, getRequest, saveSettingsRequest, restartRequest, identifyRequest,
      setTareT, acceptWeigh, answer, done, refuse]
    repeat' split
    all_goals exact frame s (by simp) (by simp) (by simp)

/-! ### The events on the ledger -/

/-- A completion appends its WEIGHED entry to an OPEN record with room (R40, R42, R43). -/
theorem examineWeigh (o : FilterOutput) (left : Occupancy) (s : State) :
    LedgerMoves s (examineWeigh o left s) := by
  have reported (u : State) : LedgerMoves u (occupancyReport left u) := frame u (by simp) (by simp) (by simp)
  have ends (why : WeighResult) (n : Option Nat) (g p : Option Int) (u : State) :
      LedgerMoves u (endWeigh why n g p u) := frame u (by simp) (by simp) (by simp)
  unfold Machine.examineWeigh
  dsimp only
  split
  · exact reported s
  · next w _ =>
    split
    · next hpoint =>
      split
      · exact (reported s).trans (ends ..)
      · split
        · exact (reported s).trans (ends ..)
        · next htakes =>
          obtain ⟨r, hr⟩ : ∃ r, s.sale.current = .opened r := by
            cases hc : s.sale.current <;> simp_all [completionPoint, CurrentSale.state]
          have hroom : r.basket.length < 120 := ((recordTakes_iff hr _).1 (by simpa using htakes)).1
          have happend := appendEntry (e := weighedEntry w (o.fineGross.getD 0) s) hr hroom
            (by simp [weighedEntry, nextEntryNumber, State.basket, hr, CurrentSale.record?])
          unfold completeWithEntry
          dsimp only
          have moved (t : PlatterScale) (u : State) :
              LedgerMoves u (if u.live.tarePerItem then { u with scale := t } else u) := by
            split <;> exact refl u
          have locked (u : State) : LedgerMoves u (occupancyReport left (setOccupancy .locked u)) :=
            frame u (by simp) (by simp) (by simp)
          exact ((happend.trans (locked _)).trans (moved _ _)).trans (ends ..)
    · exact reported s

theorem platterStages (s : State) : LedgerMoves s (platterStages s) := by
  have tracked (o : FilterOutput) : (trackZero o s).ledger = s.ledger := by
    unfold trackZero
    split <;> rfl
  unfold Machine.platterStages
  split
  · exact refl s
  · exact (examineWeigh ..).from_eq (tracked _)

theorem bagStage (s : State) : LedgerMoves s (bagStage s) := by
  unfold Machine.bagStage
  dsimp only
  split
  · exact refl s
  split
  · split
    · exact refl s
    split
    · exact refl s
    · exact (bagChange ..).from_eq
  · exact refl s

theorem sampleArrives (ch : ChannelId) (x : Int) (s : State) : LedgerMoves s (sampleArrives ch x s) := by
  have moved {u : State} (h : MovesOnly ch s u) : LedgerMoves s u := by
    refine of_eq ?_
    rw [h]
    cases ch <;> rfl
  obtain ⟨u, hu, h | h⟩ := sampleArrives_stages ch x s <;> rw [h]
  · exact moved hu
  · cases ch with
    | platter => exact (moved hu).trans (platterStages u)
    | bag => exact (moved hu).trans (bagStage u)

/-- A good read takes an EMPTY or a HELD slot alone, so it never binds or frees one (R110). -/
theorem judgeSwipe_bound (n a : TrackData) (s : State) :
    (judgeSwipe n a s).reader.slot.bound = s.reader.slot.bound := by
  unfold judgeSwipe
  split
  · rfl
  · dsimp only
    split
    · next h => cases hs : s.reader.slot <;> simp_all [setSlot, CardSlot.bound, CardSlot.takesCard]
    · rfl

theorem swipeEnds (s : State) : LedgerMoves s (swipeEnds s) := by
  unfold Machine.swipeEnds
  repeat' split
  · exact refl s
  · exact of_frame (by simp [armReader]) (by simp [armReader, judgeSwipe_bound]) (by simp [armReader])
  · exact refl s

theorem walk (s : State) : LedgerMoves s (walk s) := frame s (by simp) (by simp) (by simp)

theorem releaseAll (r : Requester) (s : State) : LedgerMoves s (releaseAll r s) :=
  frame s (by simp) (by simp) (by simp)

theorem rowEnds (r : RowProgress) (s : State) : LedgerMoves s (rowEnds r s) := (afterRow _).from_eq

theorem stepEnds (s : State) : LedgerMoves s (stepEnds s) := by
  have released : LedgerMoves s (Machine.releaseAll .motor { s with engine := { s.engine with stepRunning := none } }) :=
    (releaseAll ..).from_eq
  unfold Machine.stepEnds
  split
  · exact refl s
  dsimp only
  split
  · exact released.trans (proceed _).from_eq
  split
  · exact released
  split
  · exact released.trans (frame _ (by simp) (by simp) (by simp))
  · exact released.trans (rowEnds ..)

theorem cutEnds (s : State) : LedgerMoves s (cutEnds s) := by
  have released : LedgerMoves s (setSpeed 0 (Machine.releaseAll .cutter
      { s with engine := { s.engine with cutter := .rest, cutTimer := none, seenAway := false } })) :=
    frame s (by simp) (by simp) (by simp)
  unfold Machine.cutEnds
  dsimp only
  split
  · exact released.trans (proceed _).from_eq
  · exact released.trans (lineComplete _)

theorem homeReturns (s : State) : LedgerMoves s (homeReturns s) := by
  unfold Machine.homeReturns leaveFault
  dsimp only
  split
  · exact (startJob ..).from_eq
  split
  · exact (cutEnds _).from_eq
  · exact refl s

theorem withTrack_slot (h : HeadId) (t : Track) (r : Reader) : (Reader.withTrack h t r).slot = r.slot := by
  cases h <;> rfl

/-- The block events move the ledger by such moves alone. -/
theorem blockEvent {c : Instr} {f : State → State} (hf : blockEvent? c = some f) (s : State) : LedgerMoves s (f s) := by
  cases c with
  | sampleArrival ch x => cases hf; exact sampleArrives ch x s
  | bagTimerExpiry n => cases hf; exact bagTimerExpires n s
  | paperSensor b | coverSensor b =>
    cases hf
    simp only [causeFollows]
    split
    · exact causeRaised ..
    · exact causeGone ..
  | headTemperature x =>
    cases hf
    simp only [headReads]
    split
    · exact (causeRaised ..).from_eq
    · split
      · exact (causeGone ..).from_eq
      · exact refl s
  | supplyLow =>
    cases hf
    simp only [supplyFalls]
    split
    · exact refl s
    · exact (causeRaised ..).from_eq
  | supplyRecovery =>
    cases hf
    simp only [supplyRecovers]
    split
    · refine trans ?_ (walk _)
      exact (causeGone ..).from_eq
    · exact refl s
  | stepEnd => cases hf; exact stepEnds s
  | homeSensorReturn => cases hf; exact homeReturns s
  | swipeEnd => cases hf; exact swipeEnds s
  | holdTimerExpiry =>
    cases hf
    simp only [holdExpires]
    split
    · next h => exact of_frame rfl (by simp [emptySlot, setSlot, h, CardSlot.bound]) rfl
    · exact refl s
  | excitationLost ch =>
    cases hf
    simp only [excitationLeaves, setCondition_eq]
    repeat' split
    all_goals exact frame s (by simp) (by simp) (by simp)
  | excitationReturn ch =>
    cases hf
    simp only [excitationReturns]
    split
    · exact startChannel ch s
    · exact refl s
  | graceTimerExpiry =>
    cases hf
    exact frame s (by simp) (by simp) (by simp)
  | _ =>
    cases hf <;> simp only [weighTimerExpires, swipeBegins, fluxArrives, transitionInSwipe, senseChanged, senseGiven,
      pullInEnds, holdEnds, pwmBoundary, coolEnds, alarmExpires, paperLowChanges, phaseEnds, abandonedEnds, cutJams,
      homeLeaves, writeEnds]
    repeat' split
    all_goals exact of_frame (by simp) (by simp [beginSwipe, withTrack_slot]) (by simp)

end LedgerMoves
end Sys2Proof.Machine
end

section
namespace Sys2Proof.Machine

/-! ### The ledger over a step -/

/-- The ledger of a part just started (R50, R113, R146). -/
def Ledger.started : Ledger where
  sale := startedSale
  bound := false
  kinds := []

theorem startPart_ledger (why : StartCause) (x : StartInputs) (s : State) :
    (startPart why x s).ledger = Ledger.started := by
  unfold startPart
  dsimp only
  split <;> rfl

theorem keptByRequests_ledger : KeptByRequests LedgerMoves where
  refl := .refl
  trans := .trans
  link s _ := .refl s
  inputs s _ := .refl s
  request := LedgerMoves.request

/-- A millisecond counts a HELD card down and moves nothing of the ledger (section 6.5). -/
theorem idle_ledger (s : State) : (idle s).ledger = s.ledger := by
  unfold idle
  split
  · cases hs : s.reader.slot <;> simp [State.ledger, elapseMs, hs, CardSlot.countDown, CardSlot.bound]
  · rfl

/-- A step moves the ledger by the moves of its operations, or starts the part. -/
theorem step_ledger {s t : State} (h : step s = .next t) : LedgerMoves s t ∨ t.ledger = Ledger.started := by
  unfold step at h
  split at h
  · next c rest _ =>
    cases c with
    | powerOn x => cases h; exact .inr (startPart_ledger ..)
    | powerLoss =>
      cases h
      left
      split <;> exact .refl s
    | restartCarriedOut x =>
      cases h
      obtain he | he := asEvent_cases (restartHappens x) { s with pending := rest } <;> rw [he]
      · exact .inl (.refl s)
      · unfold restartHappens
        split
        · exact .inr (startPart_ledger ..)
        · exact .inl (.refl s)
    | _ =>
      left
      exact (keptByRequests_ledger.exec rfl (fun f hf => LedgerMoves.blockEvent hf _) h).from_eq
  · cases h
    exact .inl (.of_eq (idle_ledger s))

/-- A law of the ledger that every move keeps and a start meets is kept by every step. -/
theorem step_keeps_law {P : Ledger → Prop} (hmove : ∀ {l l'}, Ledger.Moves l l' → P l → P l') (hstart : P .started)
    {s t : State} (h : step s = .next t) (hs : P s.ledger) : P t.ledger := by
  obtain hm | hm := step_ledger h
  · unfold LedgerMoves at hm
    generalize t.ledger = l at hm ⊢
    induction hm with
    | refl => exact hs
    | tail _ hlast ih => exact hmove hlast ih
  · rw [hm]
    exact hstart

/-! ### The law of the total and the numbering of the basket -/

/-- The law of one record: its total is the sum of its entries, which are numbered from 1 and at most 120 (R54, R55). -/
structure SaleRecord.Adds (r : SaleRecord) : Prop where
  total : r.total = sumOf (r.basket.map Entry.amount)
  numbers : r.basket.map Entry.number = (List.range r.basket.length).map (· + 1)
  room : r.basket.length ≤ 120

/-- The law of the records a ledger holds. -/
structure Ledger.Adds (l : Ledger) : Prop where
  current : ∀ r, l.sale.current.record? = some r → r.Adds
  closed : ∀ c, l.sale.closed = some c → c.record.Adds

theorem adds_iff (s : State) : s.ledger.Adds ↔ s.totalsAgree ∧ s.basketsNumbered := by
  have hrec (P : SaleRecord → Prop) : (∀ r ∈ s.records, P r) ↔
      (∀ r, s.sale.current.record? = some r → P r) ∧ ∀ c, s.sale.closed = some c → P c.record := by
    simp [State.records, or_imp, forall_and]
  simp only [State.totalsAgree, State.basketsNumbered, hrec]
  constructor
  · rintro ⟨hc, hd⟩
    exact ⟨⟨fun r h => (hc r h).total, fun c h => (hd c h).total⟩,
      fun r h => ⟨(hc r h).numbers, (hc r h).room⟩, fun c h => ⟨(hd c h).numbers, (hd c h).room⟩⟩
  · rintro ⟨⟨h1, h2⟩, h3, h4⟩
    exact ⟨fun r h => ⟨h1 r h, (h3 r h).1, (h3 r h).2⟩, fun c h => ⟨h2 c h, (h4 c h).1, (h4 c h).2⟩⟩

theorem SaleRecord.Adds.relabelled {r : SaleRecord} {g : Entry → Entry} (h : r.Adds) (hg : KeepsLine g) :
    (r.relabelled g).Adds := by
  have hn : Entry.number ∘ g = Entry.number := funext fun e => (hg e).1
  have ha : Entry.amount ∘ g = Entry.amount := funext fun e => (hg e).2
  obtain ⟨h1, h2, h3⟩ := h
  exact ⟨by simpa [SaleRecord.relabelled, ha] using h1, by simpa [SaleRecord.relabelled, hn] using h2,
    by simpa [SaleRecord.relabelled] using h3⟩

theorem SaleRecord.Adds.append {r : SaleRecord} {e : Entry} (h : r.Adds) (hroom : r.basket.length < 120)
    (hn : e.number = r.basket.length + 1) : (r.append e).Adds := by
  obtain ⟨h1, h2, -⟩ := h
  refine ⟨?_, ?_, ?_⟩
  · simp only [SaleRecord.append, h1, sumOf_eq_sum]
    simp
  · simp [SaleRecord.append, h2, hn, List.range_succ]
  · simp only [SaleRecord.append, List.length_append, List.length_singleton]
    omega

theorem SaleRecord.Adds.of_eq {r r' : SaleRecord} (h : r.Adds) (hb : r'.basket = r.basket) (ht : r'.total = r.total) :
    r'.Adds := by
  obtain ⟨h1, h2, h3⟩ := h
  exact ⟨by rw [ht, hb]; exact h1, by rw [hb]; exact h2, by rw [hb]; exact h3⟩

/-- A new receipt state leaves the sale in the closed slot as it is (R69). -/
theorem closed_of_receipt {o : Option ClosedSale} {x : ReceiptState} {p : Prop} [Decidable p] {c : ClosedSale}
    (h : (if p then o.map fun d => { d with receipt := x } else o) = some c) :
    ∃ d, o = some d ∧ c.record = d.record ∧ c.changeDue = d.changeDue := by
  split at h
  · obtain ⟨d, hd, rfl⟩ := Option.map_eq_some_iff.1 h
    exact ⟨d, hd, rfl, rfl⟩
  · exact ⟨c, h, rfl, rfl⟩

theorem Ledger.Moves.keeps_adds {l l' : Ledger} (hm : l.Moves l') (h : l.Adds) : l'.Adds := by
  obtain ⟨hcurrent, hclosed⟩ := h
  have opened {r : SaleRecord} (hr : l.sale.current = .opened r) : r.Adds := hcurrent r (by rw [hr]; rfl)
  have tender {r : SaleRecord} (hr : l.sale.current = .tender r) : r.Adds := hcurrent r (by rw [hr]; rfl)
  have holds {c : CurrentSale} {r : SaleRecord} (hc : c.record? = some r) (hr : r.Adds) :
      ∀ q, c.record? = some q → q.Adds := by
    intro q hq
    rw [hc] at hq
    cases hq
    exact hr
  cases hm with
  | relabels hg =>
    refine ⟨fun r hr => ?_, hclosed⟩
    cases hc : l.sale.current with
    | idle => simp [Ledger.withCurrent, hc, CurrentSale.mapRecord, CurrentSale.record?] at hr
    | opened q => exact holds rfl ((opened hc).relabelled hg) r (by simpa [Ledger.withCurrent, hc] using hr)
    | tender q => exact holds rfl ((tender hc).relabelled hg) r (by simpa [Ledger.withCurrent, hc] using hr)
  | opens n _ => exact ⟨holds rfl ⟨rfl, rfl, by simp [SaleRecord.fresh]⟩, hclosed⟩
  | appends hr hroom hn => exact ⟨holds rfl ((opened hr).append hroom hn), hclosed⟩
  | begins hr _ => exact ⟨holds rfl (opened hr), hclosed⟩
  | resumes hr _ => exact ⟨holds rfl (tender hr), hclosed⟩
  | takesCash hr _ _ => exact ⟨holds rfl ((tender hr).of_eq rfl rfl), hclosed⟩
  | takesCard hr _ _ _ _ => exact ⟨holds rfl ((tender hr).of_eq rfl rfl), hclosed⟩
  | decides _ hr => exact ⟨holds rfl ((tender hr).of_eq rfl rfl), hclosed⟩
  | closes hr _ _ _ =>
    refine ⟨fun _ h => (nomatch h), fun c hc => ?_⟩
    cases hc
    exact tender hr
  | abandons => exact ⟨fun _ h => (nomatch h), hclosed⟩
  | reprints hc _ =>
    refine ⟨hcurrent, fun c h => ?_⟩
    cases h
    have hd := hclosed _ hc
    exact hd
  | queues _ _ => exact ⟨hcurrent, hclosed⟩
  | jobEnds _ =>
    refine ⟨hcurrent, fun c h => ?_⟩
    obtain ⟨d, hd, hrecord, -⟩ := closed_of_receipt h
    exact hrecord ▸ hclosed d hd
  | clears =>
    refine ⟨hcurrent, fun c h => ?_⟩
    obtain ⟨d, hd, hrecord, -⟩ := closed_of_receipt h
    exact hrecord ▸ hclosed d hd

/-- Settles O9: each move of the ledger keeps the law of the records, and a start holds no record. -/
theorem stepKeepsTotals : Obligations.StepKeepsTotals := by
  intro s t htotals hbaskets h
  rw [← adds_iff]
  exact step_keeps_law Ledger.Moves.keeps_adds ⟨fun _ h => (nomatch h), fun _ h => (nomatch h)⟩ h
    ((adds_iff s).2 ⟨htotals, hbaskets⟩)

/-! ### The law of tenders and of the closed sale -/

/-- The law of a record in TENDER (R60 to R65). -/
structure SaleRecord.Pays (r : SaleRecord) : Prop where
  total : 0 ≤ r.total
  room : r.tenders.length ≤ 8
  each : ∀ t ∈ r.tenders, 1 ≤ t.amount ∧ (t.state = .pending → t.kind = .card)
  onePending : countWhere (fun t => t.state == .pending) r.tenders ≤ 1
  cards : r.cardSum ≤ r.total

/-- The law of the closed sale (R67). -/
structure ClosedSale.Sound (c : ClosedSale) : Prop where
  change : c.changeDue = c.record.tendered - c.record.total
  nonneg : 0 ≤ c.changeDue
  cash : c.changeDue ≤ c.record.cashSum
  settled : c.record.cardPending = false

/-- The law of tenders and of the closed sale, of a ledger. -/
structure Ledger.Pays (l : Ledger) : Prop where
  opened : ∀ r, l.sale.current = .opened r → r.tenders = []
  tender : ∀ r, l.sale.current = .tender r → r.Pays
  closed : ∀ c, l.sale.closed = some c → c.Sound

theorem pays_iff (s : State) : s.ledger.Pays ↔ s.tendersLawful ∧ s.closeSound := by
  have hopened : (∀ r ∈ s.openRecord, r.tenders = []) ↔ ∀ r, s.sale.current = .opened r → r.tenders = [] := by
    unfold State.openRecord
    cases s.sale.current <;> simp
  have htender (P : SaleRecord → Prop) : (∀ r ∈ s.tenderRecord, P r) ↔ ∀ r, s.sale.current = .tender r → P r := by
    unfold State.tenderRecord
    cases s.sale.current <;> simp
  simp only [State.tendersLawful, State.closeSound, hopened, htender, Option.mem_toList]
  constructor
  · rintro ⟨h1, h2, h3⟩
    refine ⟨⟨h1, fun r hr => ?_⟩, fun c hc => ?_⟩
    · obtain ⟨a, b, c, d, e⟩ := h2 r hr
      exact ⟨a, b, c, d, e⟩
    · obtain ⟨a, b, d, e⟩ := h3 c hc
      exact ⟨a, b, d, e⟩
  · rintro ⟨⟨h1, h2⟩, h3⟩
    refine ⟨h1, fun r hr => ?_, fun c hc => ?_⟩
    · obtain ⟨a, b, c, d, e⟩ := h2 r hr
      exact ⟨a, b, c, d, e⟩
    · obtain ⟨a, b, d, e⟩ := h3 c hc
      exact ⟨a, b, d, e⟩

/-- CARD and CASH tenders make up all that is tendered (R62). -/
theorem tendered_eq (r : SaleRecord) : r.tendered = r.cardSum + r.cashSum := by
  unfold SaleRecord.tendered SaleRecord.cardSum SaleRecord.cashSum
  induction r.tenders with
  | nil => rfl
  | cons t ts ih => cases hk : t.kind <;> simp [sumOf, hk, ih] <;> omega

theorem cashSum_nonneg {r : SaleRecord} (h : ∀ t ∈ r.tenders, 1 ≤ t.amount) : 0 ≤ r.cashSum := by
  unfold SaleRecord.cashSum
  rw [sumOf_eq_sum]
  refine List.sum_nonneg fun a ha => ?_
  obtain ⟨t, ht, rfl⟩ := List.mem_map.1 ha
  have := h t (List.mem_of_mem_filter ht)
  omega

theorem countPending_zero {r : SaleRecord} (h : r.cardPending = false) :
    countWhere (fun t => t.state == .pending) r.tenders = 0 := by
  rw [countWhere_eq_countP, List.countP_eq_zero]
  simpa [SaleRecord.cardPending] using h

/-- A decision settles the PENDING tender: none is left (R65). -/
theorem not_pending_decided (approved : Bool) (r : SaleRecord) :
    SaleRecord.cardPending { r with
      tenders := if approved then approveTenders r.tenders else declineTenders r.tenders } = false := by
  cases approved
  · simp [SaleRecord.cardPending, declineTenders]
  · simp only [SaleRecord.cardPending, approveTenders, if_true, List.any_map, List.any_eq_false]
    intro t _
    by_cases ht : t.state = .pending <;> simp [ht]

namespace SaleRecord.Pays

theorem takesCash {r : SaleRecord} {a : Int} (h : r.Pays) (ha : 1 ≤ a) (hroom : r.tenders.length < 8) :
    (r.addTender { kind := .cash, amount := a, state := .accepted, masked := none }).Pays := by
  obtain ⟨h1, -, h3, h4, h5⟩ := h
  refine ⟨h1, ?_, ?_, ?_, ?_⟩
  · simp only [SaleRecord.addTender, List.length_append, List.length_singleton]
    omega
  · simpa [SaleRecord.addTender, or_imp, forall_and, ha] using h3
  · rw [countWhere_eq_countP] at h4 ⊢
    simpa [SaleRecord.addTender] using h4
  · simpa [SaleRecord.addTender, SaleRecord.cardSum] using h5

theorem takesCard {r : SaleRecord} {a : Int} {m : Option MaskedAccount} (h : r.Pays) (hp : r.cardPending = false)
    (ha : 1 ≤ a) (hdue : a ≤ r.total - r.tendered) (hroom : r.tenders.length < 8) :
    (r.addTender { kind := .card, amount := a, state := .pending, masked := m }).Pays := by
  obtain ⟨h1, -, h3, -, h5⟩ := h
  refine ⟨h1, ?_, ?_, ?_, ?_⟩
  · simp only [SaleRecord.addTender, List.length_append, List.length_singleton]
    omega
  · simpa [SaleRecord.addTender, or_imp, forall_and, ha] using h3
  · have hzero := countPending_zero hp
    rw [countWhere_eq_countP] at hzero ⊢
    simp [SaleRecord.addTender, hzero]
  · have hsum : (r.addTender { kind := .card, amount := a, state := .pending, masked := m }).cardSum = r.cardSum + a := by
      simp [SaleRecord.addTender, SaleRecord.cardSum, sumOf_eq_sum]
    have hcash := cashSum_nonneg fun t ht => (h3 t ht).1
    have hall := tendered_eq r
    have htotal : (r.addTender { kind := .card, amount := a, state := .pending, masked := m }).total = r.total := rfl
    omega

theorem approved {r : SaleRecord} (h : r.Pays) : ({ r with tenders := approveTenders r.tenders } : SaleRecord).Pays := by
  obtain ⟨h1, h2, h3, -, h5⟩ := h
  have hkind (t : Tender) : (if t.state = .pending then { t with state := .approved } else t).kind = t.kind := by
    split <;> rfl
  have hamount (t : Tender) : (if t.state = .pending then { t with state := .approved } else t).amount = t.amount := by
    split <;> rfl
  have hnone := not_pending_decided true r
  refine ⟨h1, by simpa [approveTenders] using h2, ?_, (countPending_zero hnone).le.trans (Nat.zero_le 1), ?_⟩
  · intro t ht
    obtain ⟨u, hu, rfl⟩ := List.mem_map.1 ht
    rw [hkind, hamount]
    refine ⟨(h3 u hu).1, fun hp => (h3 u hu).2 ?_⟩
    by_contra hu'
    simp [hu'] at hp
  · simpa [SaleRecord.cardSum, approveTenders, List.filter_map, Function.comp_def, hkind, hamount] using h5

theorem declined {r : SaleRecord} (h : r.Pays) : ({ r with tenders := declineTenders r.tenders } : SaleRecord).Pays := by
  obtain ⟨h1, h2, h3, -, h5⟩ := h
  have hsub : (declineTenders r.tenders).Sublist r.tenders := List.filter_sublist
  have hnone := not_pending_decided false r
  refine ⟨h1, hsub.length_le.trans h2, fun t ht => h3 t (hsub.subset ht),
    (countPending_zero hnone).le.trans (Nat.zero_le 1), le_trans ?_ h5⟩
  simp only [SaleRecord.cardSum, sumOf_eq_sum]
  refine ((hsub.filter _).map _).sum_le_sum fun a ha => ?_
  obtain ⟨t, ht, rfl⟩ := List.mem_map.1 ha
  have := (h3 t (List.mem_of_mem_filter ht)).1
  omega

end SaleRecord.Pays

theorem closedOf_sound {r : SaleRecord} (h : r.Pays) (hp : r.cardPending = false) (hpaid : r.total ≤ r.tendered) :
    (closedOf r).Sound := by
  have hall := tendered_eq r
  have hcards := h.cards
  refine ⟨rfl, ?_, ?_, hp⟩ <;> simp only [closedOf] <;> omega

theorem Ledger.Moves.keeps_pays {l l' : Ledger} (hm : l.Moves l') (h : l.Pays) : l'.Pays := by
  obtain ⟨hopened, htender, hclosed⟩ := h
  have opens {r : SaleRecord} (hr : r.tenders = []) : ∀ q, CurrentSale.opened r = .opened q → q.tenders = [] := by
    rintro q ⟨⟩
    exact hr
  have pays {r : SaleRecord} (hr : r.Pays) : ∀ q, CurrentSale.tender r = .tender q → q.Pays := by
    rintro q ⟨⟩
    exact hr
  cases hm with
  | relabels _ =>
    cases hc : l.sale.current with
    | idle => exact ⟨fun _ h => (nomatch h), fun _ h => (nomatch h), hclosed⟩
    | opened r =>
      have hnone := hopened r hc
      exact ⟨opens hnone, fun _ h => (nomatch h), hclosed⟩
    | tender r =>
      obtain ⟨h1, h2, h3, h4, h5⟩ := htender r hc
      exact ⟨fun _ h => (nomatch h), pays ⟨h1, h2, h3, h4, h5⟩, hclosed⟩
  | opens n _ => exact ⟨opens rfl, fun _ h => (nomatch h), hclosed⟩
  | appends hr _ _ =>
    have hnone := hopened _ hr
    exact ⟨opens hnone, fun _ h => (nomatch h), hclosed⟩
  | begins hr htotal =>
    have hnone := hopened _ hr
    refine ⟨fun _ h => (nomatch h), pays ⟨htotal, ?_, ?_, ?_, ?_⟩, hclosed⟩ <;>
      simp [hnone, SaleRecord.cardSum, countWhere, sumOf, htotal]
  | resumes _ hnone => exact ⟨opens hnone, fun _ h => (nomatch h), hclosed⟩
  | takesCash hr ha hroom =>
    exact ⟨fun _ h => (nomatch h), pays ((htender _ hr).takesCash ha hroom), hclosed⟩
  | takesCard hr hp ha hdue hroom =>
    exact ⟨fun _ h => (nomatch h), pays ((htender _ hr).takesCard hp ha hdue hroom), hclosed⟩
  | decides approved hr =>
    refine ⟨fun _ h => (nomatch h), pays ?_, hclosed⟩
    cases approved
    · exact (htender _ hr).declined
    · exact (htender _ hr).approved
  | closes hr hp hpaid _ =>
    refine ⟨fun _ h => (nomatch h), fun _ h => (nomatch h), ?_⟩
    rintro c ⟨⟩
    exact closedOf_sound (htender _ hr) hp hpaid
  | abandons => exact ⟨fun _ h => (nomatch h), fun _ h => (nomatch h), hclosed⟩
  | reprints hc _ =>
    refine ⟨hopened, htender, ?_⟩
    rintro c ⟨⟩
    obtain ⟨h1, h2, h3, h4⟩ := hclosed _ hc
    exact ⟨h1, h2, h3, h4⟩
  | queues _ _ => exact ⟨hopened, htender, hclosed⟩
  | jobEnds _ | clears =>
    refine ⟨hopened, htender, fun c h => ?_⟩
    obtain ⟨d, hd, hrecord, hchange⟩ := closed_of_receipt h
    obtain ⟨h1, h2, h3, h4⟩ := hclosed d hd
    exact ⟨by rw [hchange, hrecord]; exact h1, by rw [hchange]; exact h2, by rw [hchange, hrecord]; exact h3,
      by rw [hrecord]; exact h4⟩

/-- Settles O10: each move of the ledger keeps the law of tenders, and a start holds no sale. -/
theorem stepKeepsTenders : Obligations.StepKeepsTenders := by
  intro s t htenders hclosed h
  rw [← pays_iff]
  exact step_keeps_law Ledger.Moves.keeps_pays
    ⟨fun _ h => (nomatch h), fun _ h => (nomatch h), fun _ h => (nomatch h)⟩ h ((pays_iff s).2 ⟨htenders, hclosed⟩)

/-! ### The card slot is bound exactly while a card tender is PENDING -/

/-- The law of the card slot, of a ledger (R62, R113). -/
structure Ledger.Binds (l : Ledger) : Prop where
  bound : l.bound = l.sale.current.record?.any SaleRecord.cardPending
  tender : l.bound = true → l.sale.current.state = .tender

theorem binds_iff (s : State) : s.ledger.Binds ↔ s.slotBound := by
  constructor
  · rintro ⟨h1, h2⟩
    exact ⟨h1, fun h => h2 (h1.trans h)⟩
  · rintro ⟨h1, h2⟩
    exact ⟨h1, fun h => h2 (h1.symm.trans h)⟩

theorem Ledger.Moves.keeps_binds {l l' : Ledger} (hm : l.Moves l') (h : l.Binds) : l'.Binds := by
  obtain ⟨hbound, htender⟩ := h
  have held {r : SaleRecord} (hr : l.sale.current = .tender r) : l.bound = r.cardPending := by
    rw [hbound, hr]
    rfl
  have free {r : SaleRecord} (hr : l.sale.current = .opened r) : l.bound = false ∧ r.cardPending = false := by
    have hfree : l.bound = false := Bool.eq_false_iff.2 fun h => by simpa [hr, CurrentSale.state] using htender h
    refine ⟨hfree, ?_⟩
    rw [← hfree, hbound, hr]
    rfl
  have unbound {c : CurrentSale} (hb : l.bound = false) (hc : c.record?.any SaleRecord.cardPending = false) :
      (l.withCurrent c).Binds := ⟨hb.trans hc.symm, fun h => absurd h (by simp [Ledger.withCurrent, hb])⟩
  cases hm with
  | relabels _ =>
    cases hc : l.sale.current with
    | idle => exact unbound (by rw [hbound, hc]; rfl) rfl
    | opened r => exact unbound (free hc).1 (free hc).2
    | tender r =>
      have hr := held hc
      exact ⟨hr, fun _ => rfl⟩
  | opens _ hc => exact unbound (by rw [hbound, hc]; rfl) rfl
  | appends hr _ _ => exact unbound (free hr).1 (free hr).2
  | begins hr _ => exact ⟨(free hr).1.trans (free hr).2.symm, fun _ => rfl⟩
  | @resumes r hr hnone =>
    have hp : r.cardPending = false := by simp [SaleRecord.cardPending, hnone]
    exact unbound ((held hr).trans hp) hp
  | takesCash hr _ _ => exact ⟨(held hr).trans (by simp [SaleRecord.cardPending, SaleRecord.addTender, Ledger.withCurrent,
      CurrentSale.record?]), fun _ => rfl⟩
  | takesCard _ _ _ _ _ =>
    exact ⟨by simp [SaleRecord.cardPending, SaleRecord.addTender, Ledger.withCurrent, CurrentSale.record?], fun _ => rfl⟩
  | decides approved hr => exact ⟨(not_pending_decided approved _).symm, fun _ => rfl⟩
  | closes hr hp _ _ =>
    have hfree := (held hr).trans hp
    exact ⟨hfree, fun h => absurd h (by simp [hfree])⟩
  | abandons => exact ⟨rfl, fun h => (nomatch h)⟩
  | reprints | queues | jobEnds | clears => exact ⟨hbound, htender⟩

/-- Settles O11: each move of the ledger keeps the law of the card slot, and a start leaves it EMPTY. -/
theorem stepKeepsSlotBound : Obligations.StepKeepsSlotBound := by
  intro s t hbound h
  rw [← binds_iff]
  exact step_keeps_law Ledger.Moves.keeps_binds ⟨rfl, fun h => (nomatch h)⟩ h ((binds_iff s).2 hbound)

/-! ### The jobs the list holds -/

/-- The law of the job list, of a ledger (R69, R148). -/
structure Ledger.Queues (l : Ledger) : Prop where
  others : countWhere (fun k => k != .original) l.kinds ≤ 3
  originals : countWhere (fun k => k == .original) l.kinds =
    if l.sale.closed.map ClosedSale.receipt = some .pending then 1 else 0

theorem queues_iff (s : State) : s.ledger.Queues ↔ s.jobsLawful := by
  have h (p : JobKind → Bool) : countWhere p s.ledger.kinds = countWhere (fun j : Job => p j.kind) s.queue.jobs :=
    countWhere_map ..
  constructor
  · rintro ⟨h1, h2⟩
    exact ⟨by rw [h] at h1; exact h1, by rw [h] at h2; exact h2⟩
  · rintro ⟨h1, h2⟩
    exact ⟨by rw [h]; exact h1, by rw [h]; exact h2⟩

theorem Ledger.Moves.keeps_queues {l l' : Ledger} (hm : l.Moves l') (h : l.Queues) : l'.Queues := by
  obtain ⟨hothers, horiginals⟩ := h
  cases hm with
  | closes _ _ _ hslot =>
    have hzero : countWhere (fun k => k == JobKind.original) l.kinds = 0 := by
      rw [horiginals, if_neg]
      intro hp
      obtain ⟨c, hc, hr⟩ := Option.map_eq_some_iff.1 hp
      exact hslot c hc hr
    rw [countWhere_eq_countP] at hothers hzero
    refine ⟨?_, ?_⟩ <;> simp [countWhere_eq_countP, hothers, hzero, closedOf]
  | reprints hc ha =>
    have hzero : countWhere (fun k => k == JobKind.original) l.kinds = 0 := by
      rw [horiginals, if_neg]
      simp [hc, ha]
    rw [countWhere_eq_countP] at hothers hzero
    refine ⟨?_, ?_⟩ <;> simp [countWhere_eq_countP, hothers, hzero]
  | queues hk hroom =>
    rw [countWhere_eq_countP] at hroom horiginals
    refine ⟨?_, ?_⟩
    · simp only [countWhere_eq_countP, List.countP_append]
      have := List.countP_le_length (p := fun k => k != JobKind.original) (l := [‹JobKind›])
      simp only [List.length_singleton] at this
      omega
    · simpa [countWhere_eq_countP, hk] using horiginals
  | @jobEnds k rest hk =>
    rw [hk, countWhere] at hothers horiginals
    refine ⟨(Nat.le_add_left _ _).trans hothers, ?_⟩
    by_cases ho : k = .original
    · have hrest : countWhere (fun k => k == JobKind.original) rest = 0 := by
        have hone : (if l.sale.closed.map ClosedSale.receipt = some .pending then 1 else 0) ≤ 1 := by split <;> omega
        simp only [ho, beq_self_eq_true, if_true] at horiginals
        omega
      cases l.sale.closed <;> simp [hrest, ho]
    · simpa [ho] using horiginals
  | clears =>
    refine ⟨Nat.zero_le 3, ?_⟩
    dsimp only
    split
    · cases l.sale.closed <;> rfl
    · next hnone =>
      rw [← horiginals, countWhere_eq_countP _ l.kinds]
      exact (List.countP_eq_zero.2 fun k hk hp => hnone (List.any_eq_true.2 ⟨k, hk, hp⟩)).symm
  | _ => exact ⟨hothers, horiginals⟩

/-- Settles O14: each move of the ledger keeps the law of the job list, and a start empties it. -/
theorem stepKeepsJobs : Obligations.StepKeepsJobs := by
  intro s t hjobs h
  rw [← queues_iff]
  exact step_keeps_law Ledger.Moves.keeps_queues ⟨Nat.zero_le 3, rfl⟩ h ((queues_iff s).2 hjobs)

end Sys2Proof.Machine
end

section
namespace Sys2Proof.Machine

/-! ### Requests taken as they arrive -/

section
variable {s t : State} {c : Instr} {tag k : Byte} {r : Request}

/-- A request its handler refuses is answered with the status alone (R190, R192). -/
theorem exec_refused {st : Status} (ha : s.accepts) (hc : exec c s = .next (asRequest tag r s))
    (hk : requestKind r = k) (hr : handleRequest r s = refuse st s) :
    exec c s = .next (s.replies k tag st .empty) := exec_replies ha hc hk hr rfl rfl

/-- A request its handler grants, with reports alone queued on the link (R190, R193). -/
theorem exec_granted {f : ReplyFields} (ha : s.accepts) (hc : exec c s = .next (asRequest tag r s))
    (hk : requestKind r = k) (hr : handleRequest r s = answer f t) (ho : OnlyReports s t := by exact rfl) :
    exec c s = .next (t.replies k tag .ok f) := by
  subst hk
  exact exec_replies_of_onlyReports ha hc hr ho

end

/-! ### Reading the scale and the sale -/

theorem shownFine_ready {c : Channel} {o : FilterOutput} (hk : c.condition = .ready) (ho : c.latest = some o) :
    c.shownFine = o.fineGross ∧ c.shownStable = o.stable := by
  simp [Channel.shownFine, Channel.shownStable, hk, ho]

theorem shownFine_hidden {c : Channel} (hk : c.condition ≠ .ready) :
    c.shownFine = none ∧ c.shownStable = c.latest.any FilterOutput.stable := by
  refine ⟨if_neg hk, ?_⟩
  unfold Channel.shownStable
  cases c.latest <;> rfl

/-- READ_WEIGHT of a channel (R26). -/
theorem readWeight_fields (ch : ChannelId) (s : State) {n : Byte} (hn : channelOfByte n = some ch) :
    handleRequest (.readWeight n) s = answer (weightFields ch s) s := by
  simp [handleRequest, readWeightRequest, hn]

/-- Settles O33: each read finds its channel, record, entry or tender, and answers with what stands there. -/
theorem readsOfScaleAndSale : Obligations.ReadsOfScaleAndSale := by
  intro s tag n r ha p
  refine ⟨fun o f hk ho hf => ?_, fun hk => ?_, fun o f hk ho hf => ?_, fun hk => ?_, fun hn => ?_, fun hc => ?_,
    fun hc => ?_⟩
  · obtain ⟨hfine, hstable⟩ := shownFine_ready hk ho
    refine exec_granted ha rfl rfl ((readWeight_fields .platter s rfl).trans ?_)
    simp [weightFields, hfine, hstable, hk, hf, legalNet, p]
  · obtain ⟨hfine, hstable⟩ := shownFine_hidden hk
    refine exec_granted ha rfl rfl ((readWeight_fields .platter s rfl).trans ?_)
    simp [weightFields, hfine, hstable]
  · obtain ⟨hfine, hstable⟩ := shownFine_ready hk ho
    refine exec_granted ha rfl rfl ((readWeight_fields .bag s rfl).trans ?_)
    simp [weightFields, hfine, hstable, hk, hf, bagGross]
  · obtain ⟨hfine, hstable⟩ := shownFine_hidden hk
    refine exec_granted ha rfl rfl ((readWeight_fields .bag s rfl).trans ?_)
    simp [weightFields, hfine, hstable]
  · exact exec_refused ha rfl rfl (by simp [handleRequest, readWeightRequest, channelOfByte_none hn])
  · refine ⟨exec_granted ha rfl rfl ?_, exec_refused ha rfl rfl ?_, exec_refused ha rfl rfl ?_⟩
    · simp [handleRequest, readSaleRequest, hc, CurrentSale.state, CurrentSale.record?]
    · simp [handleRequest, readEntryRequest, hc, CurrentSale.record?]
    · simp [handleRequest, readTenderRequest, hc, CurrentSale.record?]
  · have hrecord : s.sale.current.record? = some r := by obtain h | h := hc <;> rw [h] <;> rfl
    refine ⟨exec_granted ha rfl rfl ?_, fun e he => exec_granted ha rfl rfl ?_, fun hnone => exec_refused ha rfl rfl ?_,
      fun t hn ht => exec_granted ha rfl rfl ?_, fun hn => exec_refused ha rfl rfl ?_⟩
    · simp only [handleRequest, readSaleRequest, hrecord]
      rfl
    · simp [handleRequest, readEntryRequest, hrecord, he]
    · simp [handleRequest, readEntryRequest, hrecord, hnone]
    · have hpos : n ≠ 0 := by rintro rfl; exact absurd hn (by decide)
      simp only [handleRequest, readTenderRequest, hrecord, if_neg hpos, ht]
    · simp only [handleRequest, readTenderRequest, hrecord]
      obtain h | h := hn
      · rw [if_pos h]
      · split
        · rfl
        · rw [List.getElem?_eq_none (by omega)]

/-! ### Opening a sale, to payment and back -/

/-- Settles O42: each request passes its checks in order, and a sale that moves queues one SALE_STATE. -/
theorem saleOpensAndMoves : Obligations.SaleOpensAndMoves := by
  intro s tag n r on ha goes
  have opens : s.sale.current = .idle → 1 ≤ n.toInt → n.toInt ≤ 9999999 → handleRequest (.openSale n) s =
      if s.store.live.drawerCloseRequired ∧ s.store.live.drawerSensePresent ∧ s.drawer.state ≠ .closed then
        refuse .drawerOpen s
      else done (saleReport .idle .opened (SaleRecord.fresh n.toInt) none
        (setSale (.opened (SaleRecord.fresh n.toInt)) s)) := by
    intro hc hlow hhigh
    simp [handleRequest, openSaleRequest, hc, CurrentSale.state, hlow, hhigh, State.live]
    rfl
  refine ⟨fun hc hlow hhigh => ⟨fun hdrawer => ?_, fun hreq hsense hopen => ?_⟩, fun hc => ?_, fun hc hn => ?_,
    fun hc => ?_, fun hc => ?_, fun hc => ⟨fun hm ht => ?_, fun hm => ?_, fun hm ht => ?_⟩,
    fun hc => ⟨fun ht => ?_, fun ht => ?_⟩, congrArg _ (asEvent_powered ha.1)⟩
  · refine exec_granted ha rfl rfl ((opens hc hlow hhigh).trans (if_neg ?_)) (.report _ (setSale _ s))
    rintro ⟨h1, h2, h3⟩
    obtain h | h | h := hdrawer
    · simp [h] at h1
    · simp [h] at h2
    · exact h3 h
  · exact exec_refused ha rfl rfl ((opens hc hlow hhigh).trans (if_pos ⟨hreq, hsense, hopen⟩))
  · refine exec_refused ha rfl rfl (if_pos ?_)
    cases h : s.sale.current with
    | idle => exact absurd h hc
    | opened _ | tender _ => simp [CurrentSale.state]
  · refine exec_refused ha rfl rfl ?_
    simp only [handleRequest, openSaleRequest, hc, CurrentSale.state]
    exact (if_neg (by simp)).trans (if_pos (by omega))
  · cases h : s.sale.current with
    | opened x => exact absurd h (hc x)
    | idle | tender _ => exact exec_refused ha rfl rfl (by simp only [handleRequest, beginTenderRequest, h])
  · cases h : s.sale.current with
    | tender x => exact absurd h (hc x)
    | idle | opened _ => exact exec_refused ha rfl rfl (by simp only [handleRequest, resumeSaleRequest, h])
  · refine exec_granted ha rfl rfl ?_ (.report _ (setSale _ s))
    simp only [handleRequest, beginTenderRequest, hc, hm, if_neg (not_lt.2 ht)]
    rfl
  · exact exec_refused ha rfl rfl (by simp [handleRequest, beginTenderRequest, hc, hm])
  · exact exec_refused ha rfl rfl (by simp [handleRequest, beginTenderRequest, hc, hm, ht])
  · refine exec_granted ha rfl rfl ?_ (.report _ (setSale _ s))
    simp only [handleRequest, resumeSaleRequest, hc, ht]
    rfl
  · exact exec_refused ha rfl rfl (by simp [handleRequest, resumeSaleRequest, hc, ht])

/-! ### Tenders -/

theorem decisionOfByte_none {d : Byte} (h : 2 ≤ d.toNat) : decisionOfByte d = none := by
  unfold decisionOfByte
  rw [if_neg (by rintro rfl; exact absurd h (by decide)), if_neg (by rintro rfl; exact absurd h (by decide))]

/-- A decision settles the tenders of the record and empties the slot (R65, R117). -/
theorem decideCard_eq {r : SaleRecord} (approved : Bool) {s : State} (hr : s.sale.current = .tender r) :
    decideCard approved s = { s with
      sale := { s.sale with current := .tender { r with
        tenders := if approved then approveTenders r.tenders else declineTenders r.tenders } }
      reader := { s.reader with slot := .empty } } := by
  simp only [decideCard, mapSale, hr, CurrentSale.mapRecord]
  rfl

/-- Settles O44: outside TENDER each request is refused; in TENDER the amount, the room and the slot decide in turn. -/
theorem tendersTaken : Obligations.TendersTaken := by
  intro s tag d a r ha with' owed
  refine ⟨fun hc => ?_, fun hc => ?_⟩
  · cases h : s.sale.current with
    | tender x => exact absurd h (hc x)
    | idle | opened _ =>
      refine ⟨exec_refused ha rfl rfl ?_, exec_refused ha rfl rfl ?_, exec_refused ha rfl rfl ?_⟩ <;>
        simp only [handleRequest, addCashRequest, addCardTenderRequest, cardDecisionRequest, h]
  have cash : handleRequest (.addCash a) s =
      if ¬(1 ≤ a.toInt ∧ a.toInt ≤ 99999999) then refuse .badValue s
      else if 8 ≤ r.tenders.length then refuse .queueFull s
      else answer (.positionSum (r.tenders.length + 1) (r.tendered + a.toInt))
        (with' (r.tenders ++ [{ kind := .cash, amount := a.toInt, state := .accepted, masked := none }]) s.reader.slot) := by
    simp only [handleRequest, addCashRequest, hc, mapSale]
    rfl
  refine ⟨fun h1 h2 h3 => ?_, fun h => ?_, fun h1 h2 h3 => ?_, fun x m h hp hs => ?_, fun hp hs => ?_, fun hp => ?_,
    fun hp => ?_⟩
  · exact exec_granted ha rfl rfl (cash.trans ((if_neg (by omega)).trans (if_neg (by omega))))
  · exact exec_refused ha rfl rfl (cash.trans (if_pos (by omega)))
  · exact exec_refused ha rfl rfl (cash.trans ((if_neg (by omega)).trans (if_pos h3)))
  · have card : handleRequest (.addCardTender a) s =
        if ¬(1 ≤ a.toInt ∧ a.toInt ≤ owed) then refuse .badValue s
        else if 8 ≤ r.tenders.length then refuse .queueFull s
        else answer (.positionMasked (r.tenders.length + 1) m)
          (with' (r.tenders ++ [{ kind := .card, amount := a.toInt, state := .pending, masked := some m }])
            (.attached x m)) := by
      simp only [handleRequest, addCardTenderRequest, hc, hp, hs, mapSale]
      rfl
    exact ⟨fun h1 h2 h3 => exec_granted ha rfl rfl (card.trans ((if_neg (by omega)).trans (if_neg (by omega)))),
      fun h => exec_refused ha rfl rfl (card.trans (if_pos (by omega))),
      fun h1 h2 h3 => exec_refused ha rfl rfl (card.trans ((if_neg (by omega)).trans (if_pos h3)))⟩
  · refine exec_refused ha rfl rfl ?_
    simp only [handleRequest, addCardTenderRequest, hc, hp]
    cases hslot : s.reader.slot <;> simp_all [CardSlot.isHeld]
  · exact exec_refused ha rfl rfl (by simp [handleRequest, cardDecisionRequest, hc, hp])
  · have decided (d : Byte) (approved : Bool) (hd : decisionOfByte d = some approved) :
        handleRequest (.cardDecision d) s =
          answer (.tenderSum (decideCard approved s).tendered) (decideCard approved s) := by
      simp [handleRequest, cardDecisionRequest, hc, hp, hd]
    simp only [decideCard_eq _ hc] at decided
    refine ⟨exec_refused ha rfl rfl ?_, fun hd => exec_refused ha rfl rfl ?_, ?_, ?_⟩
    · simp [handleRequest, addCardTenderRequest, hc, hp]
    · simp [handleRequest, cardDecisionRequest, hc, hp, decisionOfByte_none hd]
    · rintro ts rfl
      exact exec_granted ha rfl rfl (decided 0 true rfl)
    · rintro ts rfl
      exact exec_granted ha rfl rfl (decided 1 false rfl)

end Sys2Proof.Machine
end

section
namespace Sys2Proof.Machine

/-! ### An item added -/

theorem expectationFieldsOk_iff (w x : Option Half) : expectationFieldsOk w x = true ↔
    (∀ t ∈ x, w ≠ none ∧ 1 ≤ t.toNat ∧ t.toNat ≤ 2000) ∧ ∀ v ∈ w, 1 ≤ v.toNat ∧ v.toNat ≤ 30000 := by
  cases w <;> cases x <;> simp [expectationFieldsOk, and_comm]

theorem totalInRange_iff (t : Int) : totalInRange t = true ↔ -99999999 ≤ t ∧ t ≤ 99999999 := by
  simp [totalInRange]

theorem full_iff (r : SaleRecord) : r.full = true ↔ 120 ≤ r.basket.length := by
  simp [SaleRecord.full]

/-- The entry of an ADD_ITEM (R56). -/
theorem scannedEntry_eq (number : Nat) (d : List Byte) (a : Int) (w x : Option Half) :
    scannedEntry number d a w x =
      { number := number
        kind := .scanned
        description := d.map fun b => if 0x20 ≤ b.toNat ∧ b.toNat ≤ 0x7E then b else 0x3F
        amount := a
        voided := false
        voids := none
        weighing := none
        expected := w.map BitVec.toNat
        tolerance := x.map BitVec.toNat
        status := .none } := by
  simp [scannedEntry, printableText, isPrintable]

/-! ### An entry voided -/

section
variable {s : State} {r : SaleRecord} {e : Entry} {c : CurrentSale} {m : Monitor} {l : Link}

/-- An entry keeps its place under a change that keeps its number. -/
theorem findEntry_map {n : Nat} {b : List Entry} {g : Entry → Entry} (hg : ∀ y, (g y).number = y.number) :
    findEntry n (b.map g) = (findEntry n b).map g := by
  simp [findEntry, List.find?_map, hg]

/-- The basket after a VOID_ENTRY: the entry voided with its new status, and the VOID entry at the tail (R58). -/
def voidedBasket (e : Entry) (st : BaggingStatus) (b : List Entry) : List Entry :=
  (b.map fun y => if y.number = e.number then { y with voided := true, status := st } else y) ++
    [voidEntryOf (b.length + 1) e]

/-- The basket before the monitor has been told (R58). -/
def markedBasket (e : Entry) (b : List Entry) : List Entry := markVoided e.number b ++ [voidEntryOf (b.length + 1) e]

/-- A VOID_ENTRY marks the entry and appends the VOID entry; then the monitor is told (R58, R59). -/
theorem voidTaken_eq (hr : s.sale.current = .opened r) :
    voidTaken r.nextNumber e s = entryVoided e (bagOutcome s
      (.opened { r with basket := markedBasket e r.basket, total := r.total - e.amount }) s.monitor s.link) := by
  simp only [voidTaken, appendEntry, voidEntryOf, mapSale, hr, CurrentSale.mapRecord, SaleRecord.append, Int.sub_eq_add_neg]
  rfl

/-- The new status of the entry voided, with its report (R59, R94). -/
theorem setStatus_voided {total : Int} (st : BaggingStatus) (hf : findEntry e.number r.basket = some e)
    (hn : e.number ≤ r.basket.length) :
    setStatus e.number st .voided
        (bagOutcome s (.opened { r with basket := markedBasket e r.basket, total := total }) m l) =
      bagOutcome s (.opened { r with basket := voidedBasket e st r.basket, total := total }) m
        (l.push (.entryBagging e.number st (some e.status) .voided)) := by
  have hmarked : findEntry e.number (markedBasket e r.basket) = some { e with voided := true } := by
    have hmap := findEntry_map (n := e.number) (b := r.basket)
      (g := fun y => if y.number = e.number then { y with voided := true } else y) fun y => by split <;> rfl
    rw [hf] at hmap
    simp only [findEntry, markedBasket, markVoided, List.find?_append] at hmap ⊢
    simp [hmap]
  rw [setStatus_found (e := { e with voided := true }) st .voided hmarked]
  have hbasket : ((markedBasket e r.basket).map fun y => if y.number = e.number then { y with status := st } else y) =
      voidedBasket e st r.basket := by
    have hnew : (voidEntryOf (r.basket.length + 1) e).number ≠ e.number := by
      simp only [voidEntryOf]
      omega
    simp only [markedBasket, voidedBasket, markVoided, List.map_append, List.map_map, List.map_cons, List.map_nil,
      if_neg hnew]
    congr 1
    refine List.map_congr_left fun y _ => ?_
    by_cases hy : y.number = e.number <;> simp [hy]
  simp only [bagOutcome, CurrentSale.mapRecord, hbasket]

/-- The marked basket is the voided one where the entry keeps its status (R59). -/
theorem markedBasket_eq (huniq : ∀ y ∈ r.basket, y.number = e.number → y = e) :
    markedBasket e r.basket = voidedBasket e e.status r.basket := by
  unfold markedBasket voidedBasket markVoided
  congr 1
  refine List.map_congr_left fun y hy => ?_
  split
  · next hn => rw [huniq y hy hn]
  · rfl

/-- No exception of the kind names the entry: none is cleared (R86). -/
theorem clearNaming_absent {k : ExceptionKind} {n : Nat} {why : ExceptionCause}
    (h : ∀ z ∈ s.monitor.exceptions, ¬(z.kind = k ∧ z.entry = some n)) : clearNaming k n why s = s := by
  have hf := find?_of_none (p := fun z : BagException => z.kind == k && z.entry == some n) (by simp) h
  simp only [clearNaming, hf]

/-- The first exception of the kind that names the entry is cleared (R86). -/
theorem clearNaming_first {k : ExceptionKind} {n : Nat} {why : ExceptionCause} {z : BagException}
    {pre post : List BagException} (hz : s.monitor.exceptions = pre ++ z :: post) (h : z.kind = k ∧ z.entry = some n)
    (hpre : ∀ y ∈ pre, ¬(y.kind = k ∧ y.entry = some n)) : clearNaming k n why s = clearOne z why s := by
  have hf := find?_of_split (p := fun z : BagException => z.kind == k && z.entry == some n) (by simp) hz h hpre
  simp only [clearNaming, hf]

end

/-- Settles O43: an item is appended, and an entry voided, once the checks have passed in their order; the status of the
entry says what the monitor does. -/
theorem itemsAppendedAndVoided : Obligations.ItemsAppendedAndVoided := by
  intro s tag n d a w x r ha m number tol adds voids holds listed inRange
  refine ⟨fun hc => ?_, fun hc => ?_, fun hc hs => ?_, fun hc hs => ⟨fun hnone => ?_, fun e he => ?_⟩⟩
  · cases h : s.sale.current with
    | opened y => exact absurd h (hc y)
    | idle | tender _ =>
      refine ⟨exec_refused ha rfl rfl ?_, exec_refused ha rfl rfl ?_⟩ <;>
        simp only [handleRequest, addItemRequest, voidEntryRequest, h]
  · intro fits item total added
    have checked : handleRequest (.addItem d a w x) s =
        if ¬fits then refuse .badValue s
        else if 120 ≤ r.basket.length then refuse .queueFull s
        else if ¬inRange total then refuse .limit s
        else answer (.entryTotal number total) (appendEntry (scannedEntry number d a.toInt w x) s) := by
      simp only [handleRequest, addItemRequest, hc, ← Bool.not_eq_true, expectationFieldsOk_iff, full_iff,
        totalInRange_iff]
      by_cases hamount : d.length ≤ 24 ∧ -9999999 ≤ a.toInt ∧ a.toInt ≤ 9999999
      · rw [if_neg (not_not.2 hamount)]
        obtain ⟨h1, h2, h3⟩ := hamount
        simp only [fits, h1, h2, h3, true_and]
        by_cases hfields : (∀ t ∈ x, w ≠ none ∧ 1 ≤ t.toNat ∧ t.toNat ≤ 2000) ∧ ∀ v ∈ w, 1 ≤ v.toNat ∧ v.toNat ≤ 30000
        · rw [if_neg (not_not.2 hfields), if_neg (not_not.2 hfields)]
          rfl
        · rw [if_pos hfields, if_pos hfields]
      · rw [if_pos hamount, if_pos fun ⟨h1, h2, h3, _⟩ => hamount ⟨h1, h2, h3⟩]
    refine ⟨fun h => ?_, fun h hfull => ?_, fun h hroom hout => ?_, fun h hroom hin => ?_⟩
    · exact exec_refused ha rfl rfl (checked.trans (if_pos h))
    · exact exec_refused ha rfl rfl (checked.trans ((if_neg (not_not.2 h)).trans (if_pos hfull)))
    · exact exec_refused ha rfl rfl (checked.trans ((if_neg (not_not.2 h)).trans ((if_neg (by omega)).trans (if_pos hout))))
    have taken := checked.trans ((if_neg (not_not.2 h)).trans ((if_neg (by omega)).trans (if_neg (not_not.2 hin))))
    rw [scannedEntry_eq] at taken
    refine ⟨fun hw => ?_, fun v t hw ht hnew => ⟨fun u hu h1 h2 => ?_, fun hu => ?_⟩⟩
    · refine exec_granted ha rfl rfl (taken.trans ?_)
      subst hw
      simp only [appendEntry, Option.map_none, mapSale, hc]
      rfl
    · subst hw
      rw [appendEntry_claims (tol := t) hc rfl hnew ht hu ((matchesWeight_iff ..).2 ⟨h1, h2⟩)] at taken
      exact exec_granted ha rfl rfl taken (push_frame _ _)
    · subst hw
      rw [appendEntry_expects (tol := t) hc rfl hnew ht fun u hm => ?_] at taken
      · exact exec_granted ha rfl rfl taken (push_frame _ _)
      · have := hu u hm
        rw [Bool.eq_false_iff, ne_eq, matchesWeight_iff]
        omega
  · exact exec_refused ha rfl rfl (by simp [handleRequest, voidEntryRequest, hc, hs])
  · exact exec_refused ha rfl rfl (by simp [handleRequest, voidEntryRequest, hc, hs, hnone])
  · intro total
    have hnumber := findEntry_number he
    have checked : handleRequest (.voidEntry n) s =
        if e.kind = .void ∨ e.voided then refuse .badValue s
        else if 120 ≤ r.basket.length then refuse .queueFull s
        else if ¬inRange total then refuse .limit s
        else answer (.entryTotal number total) (voidTaken r.nextNumber e s) := by
      simp only [handleRequest, voidEntryRequest, hc, hs, he, ← Bool.not_eq_true, full_iff, totalInRange_iff]
      rfl
    refine ⟨fun h => ?_, fun hk hv hfull => ?_, fun hk hv hroom hout => ?_, fun hk hv hroom hin hle => ?_⟩
    · exact exec_refused ha rfl rfl (checked.trans (if_pos h))
    · exact exec_refused ha rfl rfl (checked.trans ((if_neg (by simp [hk, hv])).trans (if_pos hfull)))
    · exact exec_refused ha rfl rfl
        (checked.trans ((if_neg (by simp [hk, hv])).trans ((if_neg (by omega)).trans (if_pos hout))))
    intro basket voided told clears
    have taken := checked.trans
      ((if_neg (by simp [hk, hv])).trans ((if_neg (by omega)).trans (if_neg (not_not.2 hin))))
    rw [voidTaken_eq hc] at taken
    have hfound : findEntry e.number r.basket = some e := hnumber ▸ he
    have hbasket (st : BaggingStatus) : basket st = voidedBasket e st r.basket := by
      simp only [basket, voidedBasket, voidEntryOf, hnumber]
      rfl
    have voids_of {t : State} (h : entryVoided e (bagOutcome s
        (.opened { r with basket := markedBasket e r.basket, total := total }) m s.link) = t) (ho : OnlyReports s t) :
        voided t := exec_granted ha rfl rfl (taken.trans (congrArg _ h)) ho
    have hstatus (st : BaggingStatus) (m' : Monitor) : setStatus e.number st .voided (bagOutcome s
        (.opened { r with basket := markedBasket e r.basket, total := total }) m' s.link) =
        holds (basket st) total m' (told st) := by
      rw [setStatus_voided st hfound (hnumber ▸ hle), hbasket, hnumber]
      rfl
    have cleared {k : ExceptionKind} {m' : Monitor} (hm : m'.exceptions = m.exceptions)
        (hsuspended : m'.suspended = m.suspended) (h : entryVoided e (bagOutcome s
          (.opened { r with basket := markedBasket e r.basket, total := total }) m s.link) =
            clearNaming k e.number .voided (holds (basket .cleared) total m' (told .cleared))) : clears k m' := by
      rw [hnumber] at h
      refine ⟨fun hnone => ?_, fun z pre post hz hkind hentry hpre left hleft => ?_⟩
      · exact voids_of (h.trans (clearNaming_absent (by rw [← hm] at hnone; exact hnone))) (push_frame _ _)
      · have hclear := h.trans (clearNaming_first (hm.trans hz) ⟨hkind, hentry⟩ hpre)
        obtain ⟨t, ht, halert⟩ := clearOne_eq z .voided (holds (basket .cleared) total m' (told .cleared))
        simp only [hkind, hentry] at ht
        subst hleft
        rw [← hm, ← hsuspended]
        exact ⟨t, halert, voids_of (hclear.trans ht)
          (.trans (.report (.entryBagging n.toNat .cleared (some e.status) .voided) s) (push_frame _ _))⟩
    refine ⟨fun huniq hst => ?_, fun hst => cleared rfl rfl ?_, fun hst => cleared rfl rfl ?_, fun v hst hv => ?_⟩
    · have hkept : entryVoided e (bagOutcome s
          (.opened { r with basket := markedBasket e r.basket, total := total }) m s.link) =
          bagOutcome s (.opened { r with basket := markedBasket e r.basket, total := total }) m s.link := by
        cases hst' : e.status <;> simp_all [entryVoided]
      refine voids_of (hkept.trans ?_) rfl
      rw [markedBasket_eq (hnumber ▸ huniq), ← hbasket]
      rfl
    · obtain hst | hst := hst <;> simp only [entryVoided, hst, ← hstatus, hnumber] <;> rfl
    · simp only [entryVoided, hst, ← hstatus]
    · refine voids_of ?_ (push_frame _ _)
      simp only [entryVoided, hst, hv, ← hstatus, hnumber]
      rfl

end Sys2Proof.Machine
end

section
namespace Sys2Proof.Machine

/-- Two states with the same blocks are the same. -/
theorem State.ext {s t : State} (pending : s.pending = t.pending) (powered : s.powered = t.powered) (now : s.now = t.now)
    (inputs : s.inputs = t.inputs) (attendant : s.attendant = t.attendant) (platter : s.platter = t.platter)
    (bag : s.bag = t.bag) (scale : s.scale = t.scale) (settledS : s.settledS = t.settledS) (sale : s.sale = t.sale)
    (monitor : s.monitor = t.monitor) (reader : s.reader = t.reader) (drawer : s.drawer = t.drawer)
    (tone : s.tone = t.tone) (supply : s.supply = t.supply) (queue : s.queue = t.queue) (engine : s.engine = t.engine)
    (link : s.link = t.link) (store : s.store = t.store) : s = t := by
  cases s
  cases t
  simp only at *
  subst_vars
  rfl

/-! ### Requests for units while no drawer waits -/

/-- The engine and the supply alone have changed, and nothing of the drawer's units (R138, R139). -/
structure Undrawn (s t : State) : Prop where
  frame : t = { s with engine := t.engine, supply := t.supply }
  granted : t.supply.granted.drawer = s.supply.granted.drawer
  waiting : t.supply.waiting.drawer = none

namespace Undrawn

variable {s t u : State}

theorem refl (h : s.supply.waiting.drawer = none) : Undrawn s s := ⟨rfl, rfl, h⟩

theorem trans (h : Undrawn s t) (h' : Undrawn t u) : Undrawn s u := by
  refine ⟨?_, h'.granted.trans h.granted, h'.waiting⟩
  rw [h'.frame, h.frame]

/-- The engine changed, and the rest as it was. -/
theorem engine (h : s.supply.waiting.drawer = none) (e : Engine) : Undrawn s { s with engine := e } := ⟨rfl, rfl, h⟩

theorem grantUnits {r : Requester} (hr : r ≠ .drawer) (n : Nat) (h : s.supply.waiting.drawer = none) :
    Undrawn s (grantUnits r n s) := by
  cases r with
  | drawer => exact absurd rfl hr
  | cutter | motor | head => exact ⟨rfl, rfl, h⟩

/-- A walk passes over a drawer that does not wait (R139). -/
theorem walkOver (rs : List Requester) (h : s.supply.waiting.drawer = none) : Undrawn s (walkOver rs s) := by
  induction rs generalizing s with
  | nil => exact refl h
  | cons r rest ih =>
    unfold Machine.walkOver
    split
    · exact ih h
    · next need hneed =>
      have hr : r ≠ .drawer := by
        rintro rfl
        simp [Needs.of, h] at hneed
      split
      · have hg := grantUnits hr (by assumption) h
        exact hg.trans (ih hg.waiting)
      · exact refl h

/-- No drawer is granted, so no report is queued (R123, R139). -/
theorem walk (h : s.supply.waiting.drawer = none) : Undrawn s (walk s) := by
  have hq : Undrawn s (walkQuietly s) := by
    unfold walkQuietly
    split
    · exact refl h
    · exact walkOver _ h
  have hd : (walkQuietly s).drawer = s.drawer := by rw [hq.frame]
  unfold Machine.walk
  rw [if_neg]
  · exact hq
  · rintro ⟨hw, hp⟩
    rw [hd, hw] at hp
    cases hp

theorem requestUnits {r : Requester} (hr : r ≠ .drawer) (n : Nat) (h : s.supply.waiting.drawer = none) :
    Undrawn s (requestUnits r n s) := by
  have hp : Undrawn s (placeNeed r n s) := by
    cases r with
    | drawer => exact absurd rfl hr
    | cutter | motor | head => exact ⟨rfl, rfl, h⟩
  exact hp.trans (walk hp.waiting)

theorem requestMotor (h : s.supply.waiting.drawer = none) : Undrawn s (requestMotor s) := by
  have hr := requestUnits (r := .motor) (by simp) 3 h
  unfold Machine.requestMotor
  dsimp only
  split
  · exact hr.trans (engine hr.waiting _)
  · exact hr

theorem rowRequest (h : s.supply.waiting.drawer = none) : Undrawn s (rowRequest s) := by
  unfold Machine.rowRequest
  split
  · exact refl h
  · split_ifs
    · exact requestUnits (by simp) _ h
    · exact requestUnits (by simp) _ h
    · exact requestMotor h

theorem beginRow (l : LineProgress) (h : s.supply.waiting.drawer = none) : Undrawn s (beginRow l s) := by
  unfold Machine.beginRow
  exact (engine h _).trans (rowRequest h)

theorem requestCut (h : s.supply.waiting.drawer = none) : Undrawn s (requestCut s) := by
  unfold Machine.requestCut
  exact (engine h _).trans (requestUnits (by simp) 8 h)

/-- The engine goes on: a row begun or a cut requested (R170, R175, R177). -/
theorem proceed (h : s.supply.waiting.drawer = none) : Undrawn s (proceed s) := by
  have goes (l : LineProgress) : Undrawn s (if l.rowsDone < lineRows l.record l.spacing then Machine.beginRow l s
      else if l.record = .cut then Machine.requestCut s else s) := by
    split
    · exact beginRow l h
    split
    · exact requestCut h
    · exact refl h
  unfold Machine.proceed
  split
  · exact refl h
  split
  · exact goes _
  · exact refl h

end Undrawn

/-! ### A job started -/

/-- The line at a job's cursor as the engine is given it (R153). -/
def givenLine (s : State) (j : Job) : Option LineProgress :=
  (jobLine s j).map fun r => { record := r, rowsDone := 0, spacing := s.store.live.lineSpacing, interrupted := false }

/-- A job in progress that is first in the list gives its line (R153). -/
theorem giveLine_first {s : State} {j : Job} {rest : List Job} (hjobs : s.queue.jobs = j :: rest)
    (hj : j.state ≠ .queued) : giveLine s = { s with engine := { s.engine with line := givenLine s j } } := by
  simp only [giveLine, PrintQueue.current, hjobs, if_neg hj]
  rfl

/-- In any condition but PRINTING the engine stays (R175). -/
theorem proceed_still {s : State} (h : s.engine.condition ≠ .printing) : proceed s = s := by
  unfold proceed
  split
  · rfl
  · rw [if_neg fun hp => h hp.1]

section
variable {s : State} {j : Job} {rest : List Job} {cause : JobCause}

/-- The state a job leaves as it starts (R162): none for one that starts as it is accepted. -/
def startLeft (cause : JobCause) : Option JobState := if cause = .accepted then none else some .queued

/-- A QUEUED job starts with no pause cause held: PRINTING, with one report, and the engine goes on (R152, R167). -/
theorem startJob_printing (hjobs : s.queue.jobs = j :: rest) (hj : j.state = .queued) (hf : s.engine.condition ≠ .fault)
    (hc : s.engine.causes.held = false) :
    startJob cause s = proceed { s with
      queue := { s.queue with jobs := { j with state := .printing, reasons := Causes.none } :: rest }
      engine := { s.engine with memory := 0, condition := .printing, line := givenLine s j }
      link := s.link.push (.printJob j.id j.kind .printing (startLeft cause) cause none j.saleNumber (j.cursor - 1)
        j.lineCount) } := by
  simp only [startJob, hjobs, hj, hc, ne_eq, hf, not_false_eq_true, and_self, if_true, Bool.false_eq_true, if_false,
    false_and]
  rw [giveLine_first rfl (by simp)]
  rfl

/-- A QUEUED job starts with a pause cause held: PAUSED with the causes, one report, and another where the printer was
not PAUSED (R152, R167). -/
theorem startJob_paused (hjobs : s.queue.jobs = j :: rest) (hj : j.state = .queued) (hf : s.engine.condition ≠ .fault)
    (hc : s.engine.causes.held = true) :
    startJob cause s = { s with
      queue := { s.queue with jobs := { j with state := .paused, reasons := s.engine.causes } :: rest }
      engine := { s.engine with
        memory := 0, condition := .paused, line := givenLine s j, speedIndex := 0, pendingPeriod := 2500 }
      link :=
        let l := s.link.push (.printJob j.id j.kind .paused (startLeft cause) cause (some s.engine.causes) j.saleNumber
          (j.cursor - 1) j.lineCount)
        if s.engine.condition = .paused then l
        else l.push (.printerState .paused s.engine.condition s.engine.causes s.engine.paperLow .jobStarted none) } := by
  simp only [startJob, hjobs, hj, hc, ne_eq, hf, not_false_eq_true, and_self, if_true, true_and]
  rw [giveLine_first rfl (by simp)]
  by_cases hp : s.engine.condition = .paused
  · simp only [hp]
    rw [proceed_still (by simp [jobReport, Engine.setSpeed])]
    rfl
  · simp only [hp]
    rw [proceed_still (by simp [jobReport, Engine.setSpeed])]
    rfl

end

/-! ### A job accepted -/

/-- The number of the next job: the first after the last one that no job listed holds (R147). -/
def idAfter (s : State) : Nat :=
  nextFreeId (s.queue.jobs.map Job.id ++ [s.queue.nextJobId]) (s.queue.jobs.length + 2) s.queue.nextJobId

/-- A job accepted behind another, or in FAULT, is QUEUED at the tail with one report (R147, R152). -/
theorem acceptJob_queued {j : Job} {s : State} (hid : j.id = s.queue.nextJobId) (hj : j.state = .queued)
    (h : s.queue.jobs ≠ [] ∨ s.engine.condition = .fault) :
    acceptJob j s = { s with
      queue := { jobs := s.queue.jobs ++ [j], nextJobId := idAfter s }
      link := s.link.push (.printJob j.id j.kind .queued none .accepted none j.saleNumber 0 j.lineCount) } := by
  unfold acceptJob
  dsimp only
  rw [if_neg (by simpa [imp_iff_not_or] using h)]
  simp [jobReport, report, hj, hid, idAfter]

/-- A job accepted on an empty list starts (R152). -/
theorem acceptJob_starts {j : Job} {s : State} (hid : j.id = s.queue.nextJobId) (hempty : s.queue.jobs = [])
    (hf : s.engine.condition ≠ .fault) :
    acceptJob j s = startJob .accepted { s with queue := { jobs := [j], nextJobId := idAfter s } } := by
  simp [acceptJob, hempty, hf, idAfter, hid]

/-- The state a job is accepted in with no pause cause held: PRINTING at once, where the list was empty and the printer is
not in FAULT (R152). -/
def acceptedState (s : State) : JobState :=
  if s.queue.jobs = [] ∧ s.engine.condition ≠ .fault then .printing else .queued

/-- A job accepted with no pause cause held and no drawer waiting: it joins the tail with one report, and the engine and
the supply may begin its first row (R147, R152). -/
theorem acceptJob_undrawn {j : Job} {s : State} (hid : j.id = s.queue.nextJobId) (hj : j.state = .queued)
    (hreasons : j.reasons = Causes.none) (hcursor : j.cursor = 1)
    (h : s.queue.jobs = [] → s.engine.causes.held = false ∧ s.supply.waiting.drawer = none) :
    ∃ e v, acceptJob j s = { s with
        engine := e, supply := v
        queue := { jobs := s.queue.jobs ++ [{ j with state := acceptedState s }], nextJobId := idAfter s }
        link := s.link.push (.printJob j.id j.kind (acceptedState s) none .accepted none j.saleNumber 0 j.lineCount) } ∧
      v.granted.drawer = s.supply.granted.drawer := by
  unfold acceptedState
  by_cases hstart : s.queue.jobs = [] ∧ s.engine.condition ≠ .fault
  · obtain ⟨hempty, hfault⟩ := hstart
    obtain ⟨hcauses, hwaiting⟩ := h hempty
    let started : State := { s with
      queue := { jobs := [{ j with state := .printing, reasons := Causes.none }], nextJobId := idAfter s }
      engine := { s.engine with memory := 0, condition := .printing, line := givenLine s j }
      link := s.link.push (.printJob j.id j.kind .printing none .accepted none j.saleNumber 0 j.lineCount) }
    have hstarted : acceptJob j s = proceed started := by
      rw [acceptJob_starts hid hempty hfault]
      refine (startJob_printing (s := { s with queue := { jobs := [j], nextJobId := idAfter s } }) rfl hj hfault
        hcauses).trans ?_
      simp only [started, show j.cursor - 1 = 0 by rw [hcursor]]
      rfl
    obtain ⟨hframe, hgranted, -⟩ := Undrawn.proceed (s := started) hwaiting
    refine ⟨(proceed started).engine, (proceed started).supply, hstarted.trans (hframe.trans ?_), hgranted⟩
    rw [if_pos ⟨hempty, hfault⟩, hempty, List.nil_append, show ({ j with state := .printing } : Job) =
      { j with state := .printing, reasons := Causes.none } by rw [← hreasons]]
  · refine ⟨s.engine, s.supply, ?_, rfl⟩
    rw [acceptJob_queued hid hj (by simpa [imp_iff_not_or] using hstart), if_neg hstart, ← hj]

end Sys2Proof.Machine
end

section
namespace Sys2Proof.Machine

/-! ### The card slot and a swipe at a sale's end (R67, R68, R102) -/

/-- The reader with a swipe that is being decoded ignored (R99, R102) and another slot. -/
def Reader.saleEnded (x : CardSlot) (r : Reader) : Reader :=
  if r.gap = .swipe ∧ r.decoded = true then
    { r with
      decoded := false
      alpha := { r.alpha with bits := [] }
      numeric := { r.numeric with bits := [] }
      slot := x }
  else { r with slot := x }

theorem ignoreSwipe_setSlot (x : CardSlot) (s : State) :
    ignoreSwipe (setSlot x s) = { s with reader := s.reader.saleEnded x } := by
  unfold ignoreSwipe Reader.saleEnded setSlot
  dsimp only
  split_ifs <;> rfl

theorem emptyHeld_eq (s : State) : emptyHeld s = setSlot (if s.reader.slot.isHeld then .empty else s.reader.slot) s := by
  unfold emptyHeld
  split_ifs <;> rfl

/-! ### A sale closed (R66, R67) -/

section
variable {s : State} {r : SaleRecord}

/-- The link with the report of a weigh request that a sale's end has ended, where there was one (R46). -/
def State.weighEnded (s : State) (l : Link) : Link :=
  if s.scale.weigh.isSome then l.push (.weighDone .saleEnded none none none) else l

/-- A close up to its weigh request: the record in the closed slot, its report, and the weigh request ended (R67). -/
def closing (r : SaleRecord) (s : State) : State :=
  { s with
    scale := { s.scale with weigh := none }
    sale := { current := .idle, closed := some (closedOf r) }
    link := s.weighEnded (s.link.push (.saleState .idle .tender .closed r.number r.total (some (r.tendered - r.total)))) }

/-- A close up to its receipt job (R67). -/
def closePrinted (r : SaleRecord) (s : State) : State :=
  acceptJob (receiptJob .original (closedOf r) (closing r s)) (closing r s)

/-- A close up to its kick (R67). -/
def closeKicked (r : SaleRecord) (s : State) : State :=
  if r.hasCash then kick .closeSale (closePrinted r s) else closePrinted r s

/-- A close is its reports, its job and its kick, and then the unclaimed delta, the slot and the swipe (R67). -/
theorem closeSale_eq (r : SaleRecord) (s : State) : closeSale r s = { closeKicked r s with
    monitor := { s.monitor with unclaimed := none }
    reader := s.reader.saleEnded (if s.reader.slot.isHeld then .empty else s.reader.slot) } := by
  have hk : (closeKicked r s).monitor = s.monitor ∧ (closeKicked r s).reader = s.reader := by
    unfold closeKicked closePrinted
    split_ifs <;> simp [closing]
  unfold closeSale
  dsimp only
  rw [endWeigh_saleEnded, emptyHeld_eq, ignoreSwipe_setSlot]
  change { closeKicked r s with
    monitor := { (closeKicked r s).monitor with unclaimed := none }
    reader := Reader.saleEnded (if (closeKicked r s).reader.slot.isHeld then .empty else (closeKicked r s).reader.slot)
      (closeKicked r s).reader } = _
  rw [hk.1, hk.2]

theorem closeSale_onlyReports (r : SaleRecord) (s : State) : OnlyReports s (closeSale r s) := by
  have hc : OnlyReports s (closing r s) := by
    have h := (OnlyReports.report (.saleState .idle .tender .closed r.number r.total (some (r.tendered - r.total)))
      s).trans (OnlyReports.endW .saleEnded none none none _)
    rw [endWeigh_saleEnded] at h
    exact h
  have hk : OnlyReports s (closeKicked r s) := by
    unfold closeKicked
    split_ifs
    · exact (hc.trans (OnlyReports.accept _ _)).trans (OnlyReports.kick _ _)
    · exact hc.trans (OnlyReports.accept _ _)
  rw [closeSale_eq]
  exact hk

theorem receiptBacklog_iff : receiptBacklog s = true ↔
    (∃ c, s.sale.closed = some c ∧ c.receipt = .pending) ∨ ∃ j ∈ s.queue.jobs, j.kind = .copy := by
  unfold receiptBacklog
  cases s.sale.closed <;> simp

/-- A job accepted by a close with no pause cause held and nothing waiting for units, or behind another (R147, R152). -/
theorem closePrinted_eq (h : s.queue.jobs = [] → s.engine.causes.held = false ∧
      s.supply.waiting = { drawer := none, cutter := none, motor := none, head := none }) :
    ∃ e v n, ∃ j : Job, j.state = acceptedState s ∧ closePrinted r s = { closing r s with
        engine := e, supply := v
        queue := { jobs := s.queue.jobs ++ [j], nextJobId := n }
        link := (closing r s).link.push (.printJob s.queue.nextJobId .original (acceptedState s) none .accepted none
          (some r.number) 0 j.lineCount) } ∧
      v.granted.drawer = s.supply.granted.drawer := by
  obtain ⟨e, v, heq, hg⟩ := acceptJob_undrawn (j := receiptJob .original (closedOf r) (closing r s)) (s := closing r s)
    rfl rfl rfl rfl fun hempty => ⟨(h hempty).1, by simp [closing, (h hempty).2]⟩
  exact ⟨e, v, _, _, rfl, heq, hg⟩

/-- What a close up to its kick does to the sale, the job list, the scale and the rest (R67). -/
theorem closeKicked_keeps (r : SaleRecord) (s : State) :
    (closeKicked r s).sale = { current := .idle, closed := some (closedOf r) } ∧
    (closeKicked r s).queue.jobs.map Job.id = s.queue.jobs.map Job.id ++ [s.queue.nextJobId] ∧
    (closeKicked r s).queue.jobs.map Job.kind = s.queue.jobs.map Job.kind ++ [.original] ∧
    (closeKicked r s).scale = { s.scale with weigh := none } ∧
    closeKicked r s = { s with
      scale := (closeKicked r s).scale, sale := (closeKicked r s).sale, drawer := (closeKicked r s).drawer
      supply := (closeKicked r s).supply, queue := (closeKicked r s).queue, engine := (closeKicked r s).engine
      link := (closeKicked r s).link } := by
  have hp : closeKicked r s = closePrinted r s ∨ closeKicked r s = kick .closeSale (closePrinted r s) := by
    unfold closeKicked
    split_ifs <;> simp
  refine ⟨?_, ?_, ?_, ?_, ?_⟩
  · obtain hp | hp := hp <;> simp [hp, closePrinted, closing]
  · obtain hp | hp := hp <;> simp [hp, closePrinted, acceptJob_ids, receiptJob, closing]
  · obtain hp | hp := hp <;> simp [hp, closePrinted, acceptJob_ids, receiptJob, closing]
  · obtain hp | hp := hp <;> simp [hp, closePrinted, closing]
  · obtain hp | hp := hp <;> rw [hp] <;> apply State.ext <;> simp [closePrinted, closing]

/-- The drawer of a close: kicked where it is CLOSED and there is a CASH tender, and left as it was otherwise (R67,
R122). -/
theorem closeKicked_cases {cash : Bool} (hcash : cash = r.hasCash)
    (h : s.queue.jobs = [] → s.engine.causes.held = false ∧
      s.supply.waiting = { drawer := none, cutter := none, motor := none, head := none }) :
    (cash = false → (closeKicked r s).drawer = s.drawer) ∧
    (cash = true → s.drawer.state ≠ .closed → (closeKicked r s).drawer = s.drawer) ∧
    (cash = true → s.drawer.state = .closed →
      ((closeKicked r s).drawer.state = .pullIn ∧ (closeKicked r s).drawer.attempts = 1 ∧
        (closeKicked r s).drawer.phaseTimer = some s.store.live.drawerPullMs ∧
        (closeKicked r s).supply.granted.drawer = s.supply.granted.drawer + 14) ∨
      ((closeKicked r s).drawer.state = .waitSupply ∧ (closeKicked r s).drawer.attempts = 0 ∧
        (closeKicked r s).supply.waiting.drawer = some 14 ∧
        (closeKicked r s).supply.granted.drawer = s.supply.granted.drawer)) ∧
    ∃ j : Job, (closeKicked r s).queue.jobs.getLast? = some j ∧ j.state = acceptedState s ∧
      ∀ printed l, printed = (closing r s).link.push
          (.printJob s.queue.nextJobId .original j.state none .accepted none (some r.number) 0 j.lineCount) →
        l = (if cash = false then printed
          else if s.drawer.state = .closed then printed.push
            (.drawerState (closeKicked r s).drawer.state .closed .kick (closeKicked r s).drawer.attempts (some .closeSale))
          else printed.push
            (.drawerState s.drawer.state s.drawer.state .kickSkipped s.drawer.attempts (some .closeSale))) →
        (closeKicked r s).link = l := by
  subst hcash
  obtain ⟨e, v, n, j, hj, heq, hg⟩ := closePrinted_eq (r := r) h
  cases hcash : r.hasCash with
  | false =>
    have hk : closeKicked r s = closePrinted r s := by simp [closeKicked, hcash]
    rw [hk, heq]
    exact ⟨fun _ => rfl, nofun, nofun, j, by simp, hj, by rintro _ _ rfl rfl; rw [hj]; rfl⟩
  | true =>
    have hk : closeKicked r s = kick .closeSale (closePrinted r s) := by simp [closeKicked, hcash]
    obtain ⟨hskips, hkicks⟩ := kick_cases .closeSale (closePrinted r s)
    rw [← hk] at hskips hkicks
    refine ⟨nofun, ?_⟩
    by_cases hd : s.drawer.state = .closed
    · obtain ⟨-, hqueue, hdrawer, hlink⟩ := hkicks (by rw [heq]; exact hd)
      have hstore : (closePrinted r s).store = s.store ∧
          (closePrinted r s).supply.granted.drawer = s.supply.granted.drawer := by rw [heq]; exact ⟨rfl, hg⟩
      rw [hstore.1, hstore.2] at hdrawer
      refine ⟨fun _ hn => absurd hd hn, fun _ _ => hdrawer, j, by rw [hqueue, heq]; simp, hj, ?_⟩
      rintro _ _ rfl rfl
      rw [hlink, heq, hj, if_neg (by simp), if_pos hd]
    · rw [hskips (by rw [heq]; exact hd), heq]
      refine ⟨fun _ _ => rfl, fun _ h => absurd h hd, j, by simp, hj, ?_⟩
      rintro _ _ rfl rfl
      rw [hj, if_neg (by simp), if_neg hd]
      rfl

end

end Sys2Proof.Machine
end
section
namespace Sys2Proof.Machine

/-! ### A sale abandoned (R68, R93) -/

/-- With no exception held and the monitor not SUSPENDED, the bagging alert is withdrawn (R88); a tone that does not hold
it stays as it is. -/
theorem settleAlert_silent {s : State} (h : s.monitor.alerting = false) :
    ∃ tone : Tone, settleAlert s = { s with tone := tone } ∧ tone.bagAlertHeld = false ∧
      (s.tone.bagAlertHeld = false → tone = s.tone) := by
  refine ⟨_, settleAlert_eq s, (settleAlert_bagAlertHeld s).trans h, fun ht => ?_⟩
  unfold settleAlert
  simp [h, ht]

/-- The monitor emptied at a sale's end, with its one report when it held anything (R93, R95). -/
theorem emptyMonitor_saleEnded (s : State) :
    ∃ tone : Tone, (s.tone.bagAlertHeld = false → tone = s.tone) ∧ tone.bagAlertHeld = false ∧
      emptyMonitor .saleEnded 0 s = { s with
        monitor := { s.monitor with expectations := [], unclaimed := none, exceptions := [], suspended := false }
        tone := tone
        link := if s.monitor.outstanding = true ∨ s.monitor.unclaimed ≠ none then
            s.link.push (.bagException .allCleared none none none none (some .saleEnded) 0 false
              (some (0, s.monitor.exceptions.length)))
          else s.link } := by
  obtain ⟨tone, heq, hheld, hsame⟩ := settleAlert_silent (s := mapMonitor Monitor.emptied s) rfl
  have hh : ((0 : Nat) ≠ 0 ∨ s.monitor.holdsAnything = true) ↔
      s.monitor.outstanding = true ∨ s.monitor.unclaimed ≠ none := by
    simp [Monitor.holdsAnything, Option.isSome_iff_ne_none]
  refine ⟨tone, hsame, hheld, ?_⟩
  unfold emptyMonitor
  rw [heq]
  simp only [hh]
  split_ifs <;> rfl

section
variable {s : State} {r : SaleRecord}

/-- An abandon is its reports, and the scale, the monitor and the card slot without the sale (R68, R93, R117). -/
theorem abandonSale_eq (r : SaleRecord) (s : State) :
    ∃ tone : Tone, (s.tone.bagAlertHeld = false → tone = s.tone) ∧ tone.bagAlertHeld = false ∧
      abandonSale r s = { s with
        scale := { s.scale with weigh := none }
        sale := { s.sale with current := .idle }
        monitor := { s.monitor with expectations := [], unclaimed := none, exceptions := [], suspended := false }
        reader := s.reader.saleEnded .empty
        tone := tone
        link :=
          let l := s.weighEnded (s.link.push (.saleState .idle s.sale.current.state .abandoned r.number r.total none))
          if s.monitor.outstanding = true ∨ s.monitor.unclaimed ≠ none then
            l.push (.bagException .allCleared none none none none (some .saleEnded) 0 false
              (some (0, s.monitor.exceptions.length)))
          else l } := by
  obtain ⟨tone, hsame, hheld, heq⟩ := emptyMonitor_saleEnded (endWeigh .saleEnded none none none
    (saleReport s.sale.current.state .abandoned r none (setSale .idle s)))
  rw [endWeigh_saleEnded] at hsame heq
  refine ⟨tone, hsame, hheld, ?_⟩
  unfold abandonSale emptySlot
  dsimp only
  rw [endWeigh_saleEnded, heq, ignoreSwipe_setSlot]
  rfl

theorem abandonSale_onlyReports (r : SaleRecord) (s : State) : OnlyReports s (abandonSale r s) := by
  have h := ((OnlyReports.report (.saleState .idle s.sale.current.state .abandoned r.number r.total none)
    (setSale .idle s)).trans (OnlyReports.endW .saleEnded none none none _)).trans (OnlyReports.emptyMon .saleEnded 0 _)
  exact h.trans (OnlyReports.same (by simp [abandonSale, saleReport, setSlot, emptySlot]; rfl))

/-- Settles O45: a close is its sale, weigh request, job and kick in the order of their reports; an abandon empties what
the sale held. -/
theorem saleEnds : Obligations.SaleEnds := by
  intro s tag r ha closes abandons tendered backlog weighEnds reader
  refine ⟨fun hn => ?_, fun hr => ?_, fun hi => ?_, fun hr => ?_⟩
  · refine exec_refused ha rfl rfl ?_
    cases hc : s.sale.current with
    | tender x => exact absurd hc (hn x)
    | idle | opened => simp [handleRequest, closeSaleRequest, hc]
  · have hreq : handleRequest .closeSale s = if r.cardPending then refuse .badState s
        else if s.monitor.outstanding then refuse .exceptionPending s
        else if tendered < r.total then refuse .badValue s
        else if backlog then refuse .printerBacklog s
        else answer (.change (tendered - r.total)) (closeSale r s) := by
      simp [handleRequest, closeSaleRequest, hr, receiptBacklog_iff, backlog, tendered, SaleRecord.tendered]
    refine ⟨fun hp => exec_refused ha rfl rfl ?_, fun hp ho => exec_refused ha rfl rfl ?_,
      fun hp ho ht => exec_refused ha rfl rfl ?_, fun hp ho ht hb => exec_refused ha rfl rfl ?_,
      fun hp ho ht hb => ?_⟩
    · simp [hreq, hp]
    · simp [hreq, hp, ho]
    · simp [hreq, hp, ho, ht]
    · simp [hreq, hp, ho, ht, hb]
    · rw [if_neg (by simp [hp]), if_neg (by simp [ho]), if_neg (by omega), if_neg hb, closeSale_eq] at hreq
      obtain ⟨hsale, hids, hkinds, hscale, hrest⟩ := closeKicked_keeps r s
      refine ⟨_, exec_granted ha rfl rfl hreq (closeSale_eq r s ▸ closeSale_onlyReports r s), ?_, ?_, ?_, ?_, ?_, ?_, rfl, ?_, ?_⟩
      · exact hsale
      · exact hids
      · exact hkinds
      · exact hscale
      · rfl
      · rfl
      · unfold State.replies
        rw [hrest]
      · intro hquiet cash hcash
        obtain ⟨hnone, hskips, hkicks, j, hj, hstate, hlink⟩ := closeKicked_cases hcash hquiet
        exact ⟨hnone, hskips, hkicks, j, hj, hstate, fun printed l hprinted hl =>
          congrArg (Link.answered 0x13 tag .ok _) (hlink printed l hprinted hl)⟩
  · exact exec_refused ha rfl rfl (by simp [handleRequest, abandonSaleRequest, hi, CurrentSale.record?])
  · have hreq : handleRequest .abandonSale s = if s.attendant = false then refuse .notAttended s
        else if r.tenders.isEmpty = false then refuse .badState s
        else done (abandonSale r s) := by
      obtain hr | hr := hr <;> simp [handleRequest, abandonSaleRequest, hr, CurrentSale.record?]
    refine ⟨fun hn => exec_refused ha rfl rfl ?_, fun hs ht => exec_refused ha rfl rfl ?_, fun hs ht => ?_⟩
    · simp [hreq, hn]
    · simp [hreq, hs, ht]
    · obtain ⟨tone, hsame, hheld, heq⟩ := abandonSale_eq r s
      refine ⟨tone, fun _ => hsame, hheld, ?_⟩
      rw [if_neg (by simp [hs]), if_neg (by simp [ht]), heq] at hreq
      exact exec_granted ha rfl rfl hreq (heq ▸ abandonSale_onlyReports r s)

end

end Sys2Proof.Machine
end

section
namespace Sys2Proof.Machine

/-! ### A line's first row -/

/-- A line as the engine is given it, before its first row (R153). -/
def State.firstRow (s : State) (r : LineRecord) : LineProgress :=
  { record := r, rowsDone := 0, spacing := s.store.live.lineSpacing, interrupted := false }

section
variable {s : State}

/-- What a given line's first row changes: PRINTING on a quiet supply, with no row and no cutter's work, the engine begins
the row, whose dots are those of the line (R170, R172). -/
theorem proceed_firstRow {r : LineRecord} (hq : s.quietSupply) (hd : s.drawer.state ≠ .waitSupply)
    (hprinting : s.engine.condition = .printing) (habandoned : s.engine.abandoned = false)
    (hrow : s.engine.row = none) (hcutter : s.engine.cutter = .rest)
    (hline : s.engine.line = some (s.firstRow r)) (hrows : 0 < lineRows r s.store.live.lineSpacing) :
    ∃ u : State, proceed s = { s with engine := u.engine, supply := u.supply } ∧
      u.engine.row.map RowProgress.dots = some (rowDots r 0) ∧
      u.engine = { s.engine with
        band := bandOf s.inputs.headTemp, row := u.engine.row, phase := u.engine.phase
        stepRunning := u.engine.stepRunning, periodInForce := u.engine.periodInForce
        speedIndex := u.engine.speedIndex, pendingPeriod := u.engine.pendingPeriod } := by
  have hbegins : proceed s = beginRow (s.firstRow r) s := by
    unfold proceed
    rw [hline]
    simp only [hprinting, habandoned, hrow, hcutter, and_self, if_true, State.firstRow]
    exact if_pos hrows
  obtain ⟨hdots, -, hframe⟩ := beginRow_keeps (s.firstRow r) s (by rw [hq.1]) hd
  refine ⟨beginRow (s.firstRow r) s, hbegins.trans hframe, hdots, ?_⟩
  unfold beginRow
  dsimp only
  refine (congrArg State.engine (rowRequest_engine _ (by exact hq.1) (by exact hq.2.1) (by exact hd)).1).trans ?_
  rw [hline]

/-- A job's line that is given begins its first row (R153, R170). -/
theorem proceed_given {k : Job} {r : LineRecord} (hr : jobLine s k = some r) (hq : s.quietSupply)
    (hd : s.drawer.state ≠ .waitSupply) (hprinting : s.engine.condition = .printing)
    (habandoned : s.engine.abandoned = false) (hrow : s.engine.row = none) (hcutter : s.engine.cutter = .rest)
    (hrows : 0 < lineRows r s.store.live.lineSpacing) :
    ∃ u : State, proceed { s with engine := { s.engine with line := givenLine s k } } =
        { s with engine := u.engine, supply := u.supply } ∧
      u.engine.row.map RowProgress.dots = some (rowDots r 0) ∧
      u.engine = { s.engine with
        line := some (s.firstRow r), band := bandOf s.inputs.headTemp, row := u.engine.row, phase := u.engine.phase
        stepRunning := u.engine.stepRunning, periodInForce := u.engine.periodInForce
        speedIndex := u.engine.speedIndex, pendingPeriod := u.engine.pendingPeriod } := by
  have hgiven : givenLine s k = some (s.firstRow r) := by rw [givenLine, hr]; rfl
  rw [hgiven]
  exact proceed_firstRow (s := { s with engine := { s.engine with line := some (s.firstRow r) } }) hq hd hprinting
    habandoned hrow hcutter rfl hrows

end

/-! ### The cut cycle (R177) -/

section
variable {s : State} {j : Job} {rest : List Job}

/-- The state at the end of a cut cycle, before the line completes (R173, R177). -/
def cutDone (s : State) : State :=
  { s with
    supply := { s.supply with granted := { s.supply.granted with cutter := 0 } }
    engine := { s.engine with
      cutter := .rest, cutTimer := none, seenAway := false, speedIndex := 0, pendingPeriod := 2500 } }

theorem releaseAll_cutter (hq : s.quietSupply) (hd : s.drawer.state ≠ .waitSupply) :
    releaseAll .cutter s = { s with supply := { s.supply with granted := { s.supply.granted with cutter := 0 } } } := by
  unfold releaseAll
  rw [releaseUnits_quiet _ _ _ hq hd]
  simp [Grants.sub, Grants.of]

theorem cutEnds_quiet (hq : s.quietSupply) (hd : s.drawer.state ≠ .waitSupply) (ha : s.engine.abandoned = false) :
    cutEnds s = lineComplete (cutDone s) := by
  unfold cutEnds
  rw [releaseAll_cutter (by exact hq) (by exact hd), ha]
  rfl

/-- A line that is not its job's last: the cursor moves and the next line is given (R153). -/
theorem lineComplete_next (hjobs : s.queue.jobs = j :: rest) (hj : j.state ≠ .queued) (hc : j.cursor < j.lineCount) :
    lineComplete s = proceed { s with
      queue := { s.queue with jobs := { j with cursor := j.cursor + 1 } :: rest }
      engine := { s.engine with line := givenLine s { j with cursor := j.cursor + 1 } } } := by
  unfold lineComplete
  rw [hjobs]
  simp only [if_pos hc]
  rw [giveLine_first (j := { j with cursor := j.cursor + 1 }) rfl hj]
  rfl

/-- A job that has ended DONE, before the next job starts (R69, R153). -/
def doneJob (j : Job) (rest : List Job) (s : State) : State :=
  { s with
    sale := { s.sale with closed :=
      if j.kind = .original then s.sale.closed.map fun c => { c with receipt := .done } else s.sale.closed }
    queue := { s.queue with jobs := rest }
    engine := { s.engine with line := none, speedIndex := 0, pendingPeriod := 2500 }
    link := s.link.push (.printJob j.id j.kind .done (some j.state) .done none j.saleNumber j.lineCount j.lineCount) }

theorem lineComplete_last (hjobs : s.queue.jobs = j :: rest) (hc : j.cursor = j.lineCount) :
    lineComplete s = if rest = [] then
        { doneJob j rest s with
          engine := { (doneJob j rest s).engine with condition := .idle }
          link := if s.engine.condition = .paused then
              (doneJob j rest s).link.push
                (.printerState .idle .paused s.engine.causes s.engine.paperLow .jobEnded none)
            else (doneJob j rest s).link }
      else startJob .started (doneJob j rest s) := by
  have hdone : (if j.kind = .original then
        setReceipt .done (jobReport { j with state := .done } (some j.state) .done j.lineCount (setSpeed 0
          { s with queue := { s.queue with jobs := rest }, engine := { s.engine with line := none } }))
      else jobReport { j with state := .done } (some j.state) .done j.lineCount (setSpeed 0
          { s with queue := { s.queue with jobs := rest }, engine := { s.engine with line := none } })) =
      doneJob j rest s := by
    unfold doneJob
    split_ifs <;> rfl
  unfold lineComplete
  rw [hjobs]
  simp only [hc, lt_irrefl, if_false]
  unfold jobDone
  dsimp only
  rw [hdone]
  cases rest with
  | nil =>
    rw [if_pos List.isEmpty_nil, if_pos rfl]
    split_ifs <;> rfl
  | cons => rfl

end

/-! ### The home sensor and the cut timer (R177 to R179) -/

section
variable {s : State} {j : Job} {rest : List Job}

/-- The printer out of FAULT, before a job first in the list starts (R179). -/
def faultLeft (s : State) : State :=
  { s with
    engine := { s.engine with
      condition := .idle, cutter := .rest, clearTaken := false, line := none, speedIndex := 0, pendingPeriod := 2500 }
    link := s.link.push (.printerState .idle .fault s.engine.causes s.engine.paperLow .faultLeft none) }

theorem leaveFault_eq (s : State) : leaveFault s = startJob .started (faultLeft s) := rfl

theorem startJob_empty (cause : JobCause) (h : s.queue.jobs = []) : startJob cause s = s := by
  unfold startJob
  rw [h]

/-- The return of the home sensor to a part that does not wait for it (R177, R179). -/
theorem homeReturns_idle (hcut : s.engine.cutter ≠ .cutting ∨ s.engine.seenAway = false)
    (hfault : s.engine.condition ≠ .fault ∨ s.engine.clearTaken = false) :
    homeReturns s = { s with inputs := { s.inputs with cutterHome := true } } := by
  unfold homeReturns
  dsimp only
  rw [if_neg, if_neg]
  · rintro ⟨h, h'⟩
    simp [h, h'] at hcut
  · rintro ⟨h, h'⟩
    simp [h, h'] at hfault

/-- The return of the home sensor ends a cut cycle (R177). -/
theorem homeReturns_cut (hcut : s.engine.cutter = .cutting) (haway : s.engine.seenAway = true)
    (hfault : s.engine.condition ≠ .fault) :
    homeReturns s = cutEnds { s with inputs := { s.inputs with cutterHome := true } } := by
  unfold homeReturns
  simp [hcut, haway, hfault]

/-- After PRINTER_CLEAR the return of the home sensor leaves FAULT (R179). -/
theorem homeReturns_fault (hfault : s.engine.condition = .fault) (hclear : s.engine.clearTaken = true) :
    homeReturns s = startJob .started (faultLeft { s with inputs := { s.inputs with cutterHome := true } }) := by
  unfold homeReturns
  simp [hfault, hclear, leaveFault_eq]

theorem cutJams_quiet (hq : s.quietSupply) (hd : s.drawer.state ≠ .waitSupply) (hcut : s.engine.cutter = .cutting) :
    cutJams s = { s with
      supply := { s.supply with granted := { s.supply.granted with cutter := 0 } }
      engine := { s.engine with
        cutter := .jammed, cutTimer := none, clearTaken := false, abandoned := false, condition := .fault }
      link := s.link.push (.printerState .fault s.engine.condition s.engine.causes s.engine.paperLow .jammed none) } := by
  unfold cutJams
  rw [if_pos hcut, releaseAll_cutter (by exact hq) (by exact hd)]
  rfl

/-- Settles O60: the return of the home sensor is the end of the cut cycle or of FAULT, and each ends in a line's first row,
in a PAUSED job or in an empty list. -/
theorem cutCycleEnds : Obligations.CutCycleEnds := by
  intro s j hp hq hd e home freed idle left returns given beginsLine
  have hreturn : exec .homeSensorReturn s = .next (endEvent (homeReturns s)) := congrArg _ (asEvent_powered hp)
  have begins (t : State) (k : Job)
      (hnext : homeReturns s = proceed { t with engine := { t.engine with line := givenLine t k } })
      (hq : t.quietSupply) (hd : t.drawer.state ≠ .waitSupply) (hprinting : t.engine.condition = .printing)
      (habandoned : t.engine.abandoned = false) (hcutter : t.engine.cutter = .rest) (hrow : t.engine.row = e.row)
      (hstore : t.store = s.store) (htemp : t.inputs.headTemp = s.inputs.headTemp) : beginsLine t k := by
    intro r hr hnone hrows
    obtain ⟨u, heq, hdots, hu⟩ := proceed_given hr hq hd hprinting habandoned (hrow.trans hnone) hcutter
      (by rw [hstore]; exact hrows)
    refine ⟨u, hreturn.trans (by rw [hnext, heq]), hdots, hu.trans ?_⟩
    rw [State.firstRow, hstore, htemp]
  refine ⟨?_, fun hcut hfault => ?_, ?_, ?_, ?_, fun hcut => ?_, fun hcut => ?_⟩
  · refine (congrArg _ (asEvent_powered hp)).trans ?_
    simp [homeLeaves, beq_eq_decide, e]
  · exact hreturn.trans (by rw [homeReturns_idle hcut hfault])
  · intro rest j' hcut haway hcond habandoned hjobs hj hc hj' t
    subst hj'
    have hfault : e.condition ≠ .fault := by
      obtain h | h := hcond <;> simp [h]
    have hnext : homeReturns s =
        proceed { t with engine := { t.engine with line := givenLine t { j with cursor := j.cursor + 1 } } } := by
      rw [homeReturns_cut hcut haway hfault, cutEnds_quiet (by exact hq) (by exact hd) (by exact habandoned),
        lineComplete_next (by exact hjobs) hj hc]
      rfl
    refine ⟨fun hprinting => ?_, fun hpaused => ?_⟩
    · exact begins t _ hnext hq hd hprinting habandoned rfl rfl rfl rfl
    · rw [proceed_still (by simp [t, hpaused, e])] at hnext
      exact hreturn.trans (by rw [hnext]; rfl)
  · intro rest hcut haway hcond habandoned hjobs hc t
    have hfault : e.condition ≠ .fault := by
      obtain ⟨h, -⟩ | ⟨h, -⟩ := hcond <;> simp [h]
    have hdone := lineComplete_last (s := cutDone { s with inputs := home }) hjobs hc
    rw [← cutEnds_quiet (by exact hq) (by exact hd) (by exact habandoned), ← homeReturns_cut hcut haway hfault] at hdone
    refine ⟨?_, ?_⟩
    · rintro rfl
      rw [if_pos rfl] at hdone
      exact hreturn.trans (by rw [hdone]; rfl)
    · rintro k k' more rfl hk
      rw [if_neg (by simp)] at hdone
      refine ⟨?_, ?_⟩
      · rintro hprinting rfl
        have hcauses : e.causes.held = false := by
          obtain ⟨-, h⟩ | ⟨h, -⟩ := hcond
          · exact h
          · cases hprinting.symm.trans h
        have hstart := hdone.trans (startJob_printing (cause := .started) rfl hk hfault hcauses)
        rw [← hprinting] at hstart
        exact begins _ _ hstart hq hd hprinting habandoned rfl rfl rfl rfl
      · rintro hpaused rfl
        have hcauses : e.causes.held = true := by
          obtain ⟨h, -⟩ | ⟨-, h⟩ := hcond
          · cases hpaused.symm.trans h
          · exact h
        have hstart := hdone.trans (startJob_paused (cause := .started) rfl hk hfault hcauses)
        dsimp only at hstart
        rw [if_pos (by exact hpaused), ← hpaused] at hstart
        exact hreturn.trans (by rw [hstart]; rfl)
  · intro hfault hclear
    have hleft := homeReturns_fault hfault hclear
    refine ⟨fun hempty => ?_, fun rest j' hjobs hj => ⟨?_, ?_⟩⟩
    · exact hreturn.trans (by rw [hleft, startJob_empty _ (by exact hempty)]; rfl)
    · rintro hcauses rfl
      have hstart := hleft.trans (startJob_paused (by exact hjobs) hj (by simp [faultLeft]) (by exact hcauses))
      exact hreturn.trans (by rw [hstart]; rfl)
    · rintro hcauses rfl habandoned
      have hstart := hleft.trans (startJob_printing (by exact hjobs) hj (by simp [faultLeft]) (by exact hcauses))
      exact begins _ _ hstart hq hd rfl habandoned rfl rfl rfl rfl
  · exact (congrArg _ (asEvent_powered hp)).trans (by rw [cutJams_quiet hq hd hcut])
  · exact (congrArg _ (asEvent_powered hp)).trans (by rw [cutJams, if_neg hcut])

end

end Sys2Proof.Machine
end

section
namespace Sys2Proof.Machine

/-! ### Lines given to PRINT_TEXT (R149, R150) -/

theorem flagOfByte_eq_some {b : Byte} {f : Bool} : flagOfByte b = some f ↔ b.toNat ≤ 1 ∧ f = (b == 1) := by
  unfold flagOfByte
  by_cases h0 : b = 0
  · simp [h0, eq_comm]
  · by_cases h1 : b = 1
    · simp [h1, eq_comm]
    · have : ¬ b.toNat ≤ 1 := by
        rw [← ne_eq] at h0 h1
        bv_omega
      rw [if_neg h0, if_neg h1]
      simp [this]

theorem alignOfByte_eq_some {b : Byte} {a : Align} : alignOfByte b = some a ↔
    b.toNat ≤ 2 ∧ a = if b = 0 then .left else if b = 1 then .centre else .right := by
  unfold alignOfByte
  by_cases h0 : b = 0
  · simp [h0, eq_comm]
  by_cases h1 : b = 1
  · simp [h1, eq_comm]
  by_cases h2 : b = 2
  · simp [h2, eq_comm]
  have : ¬ b.toNat ≤ 2 := by
    rw [← ne_eq] at h0 h1 h2
    bv_omega
  rw [if_neg h0, if_neg h1, if_neg h2]
  simp [this]

/-- A TEXT line that passes check 1 of R151, and its record: cut to its width, with `?` for what is not printable (R150). -/
theorem lineOfArg_text {chars : List Byte} {w h b a : Byte} {r : LineRecord} :
    lineOfArg (.text chars w h b a) = some r ↔
      chars.length ≤ 32 ∧ w.toNat ≤ 1 ∧ h.toNat ≤ 1 ∧ b.toNat ≤ 1 ∧ a.toNat ≤ 2 ∧ r = .text
        ((chars.take (if w = 1 then 16 else 32)).map fun c => if 0x20 ≤ c.toNat ∧ c.toNat ≤ 0x7E then c else 0x3F)
        (w == 1) (h == 1) (b == 1) (if a = 0 then .left else if a = 1 then .centre else .right) := by
  have htext (k : Bool) (hk : k = (w == 1)) : printableText (chars.take (if k then 16 else 32)) =
      (chars.take (if w = 1 then 16 else 32)).map fun c => if 0x20 ≤ c.toNat ∧ c.toNat ≤ 0x7E then c else 0x3F := by
    simp [hk, printableText, isPrintable]
  constructor
  · intro hr
    dsimp only [lineOfArg] at hr
    split at hr
    · next hw hh hb ha =>
      obtain ⟨w_flag, rfl⟩ := flagOfByte_eq_some.1 hw
      obtain ⟨h_flag, rfl⟩ := flagOfByte_eq_some.1 hh
      obtain ⟨b_flag, rfl⟩ := flagOfByte_eq_some.1 hb
      obtain ⟨a_align, rfl⟩ := alignOfByte_eq_some.1 ha
      split at hr
      · next hlen =>
        cases hr
        exact ⟨hlen, w_flag, h_flag, b_flag, a_align, by rw [htext _ rfl]⟩
      · cases hr
    · cases hr
  · rintro ⟨hlen, hw, hh, hb, ha, rfl⟩
    simp only [lineOfArg, flagOfByte_eq_some.2 ⟨hw, rfl⟩, flagOfByte_eq_some.2 ⟨hh, rfl⟩, flagOfByte_eq_some.2 ⟨hb, rfl⟩,
      alignOfByte_eq_some.2 ⟨ha, rfl⟩, if_pos hlen, htext _ rfl]

/-! ### The text line store and the job list (R148, R149) -/

theorem recordsHeld_eq_sum (js : List Job) : recordsHeld js = (js.map fun j => j.records.length).sum := by
  induction js with
  | nil => rfl
  | cons j js ih => simp [recordsHeld, ih]

theorem textAndCopy_eq_length (q : PrintQueue) :
    q.textAndCopy = (q.jobs.filter fun j => j.kind != .original).length := by
  rw [PrintQueue.textAndCopy, countWhere_eq_countP, List.countP_eq_length_filter]

theorem idAfter_empty {s : State} (h : s.queue.jobs = []) :
    idAfter s = if s.queue.nextJobId < 255 then s.queue.nextJobId + 1 else 1 := by
  unfold idAfter
  rw [h]
  simp only [List.map_nil, List.nil_append, List.length_nil, nextFreeId]
  rw [if_neg]
  simp only [List.contains_eq_mem, List.mem_singleton, decide_eq_true_eq]
  split_ifs <;> omega

theorem idAfter_first {s : State} {k next : Nat} {after : Nat → Nat} (ha : after = fun n => if n < 255 then n + 1 else 1)
    (hnext : next = after^[k + 1] s.queue.nextJobId) (hfree : next ∉ s.queue.jobs.map Job.id ++ [s.queue.nextJobId])
    (hheld : ∀ i, i < k → after^[i + 1] s.queue.nextJobId ∈ s.queue.jobs.map Job.id ++ [s.queue.nextJobId])
    (hk : k ≤ (s.queue.jobs.map Job.id ++ [s.queue.nextJobId]).length) : idAfter s = next := by
  subst hnext
  refine nextFreeId_first _ _ _ _ after ha hfree hheld ?_
  simp at hk
  omega

/-! ### PRINT_TEXT (R151) -/

section
variable {s : State} {lines : List LineArg} {given : List LineRecord}

/-- A CUT is added at most (R151). -/
theorem withFinalCut_length (given : List LineRecord) :
    given.length ≤ (withFinalCut given).length ∧ (withFinalCut given).length ≤ given.length + 1 := by
  unfold withFinalCut
  split_ifs
  · omega
  · simp

/-- The checks of PRINT_TEXT after the first (R151). -/
theorem printText_checks (hgiven : linesOfArgs lines = some given) (hlow : 1 ≤ lines.length) (hhigh : lines.length ≤ 48) :
    handleRequest (.printText lines) s = if s.engine.condition = .fault then refuse .badState s
      else if 3 ≤ s.queue.textAndCopy then refuse .queueFull s
      else if s.queue.free < (withFinalCut given).length then refuse .queueFull s
      else answer (.printText s.queue.nextJobId (withFinalCut given).length (s.queue.free - (withFinalCut given).length))
        (acceptJob (textJob (withFinalCut given) s) s) := by
  have hlen := linesOfArgs_length hgiven
  simp only [handleRequest, printTextRequest, hgiven]
  rw [if_neg (by omega)]

/-- A PRINT_TEXT of no line, of too many, or with a line outside R149's values (R151). -/
theorem printText_badLines
    (h : lines = [] ∨ 48 < lines.length ∨ ∃ x ∈ lines, lineOfArg x = none) :
    handleRequest (.printText lines) s = refuse .badValue s := by
  simp only [handleRequest, printTextRequest]
  split
  · rfl
  · next given hgiven =>
    have hlen := linesOfArgs_length hgiven
    rw [if_pos]
    obtain rfl | hlong | ⟨x, hx, hnone⟩ := h
    · left
      simpa using hlen
    · omega
    · cases (linesOfArgs_none hx hnone).symm.trans hgiven

/-- A TEXT job that starts as it is accepted, PRINTING, before its first row (R152, R153). -/
def textBegun (records : List LineRecord) (s : State) : State :=
  { s with
    queue :=
      { jobs := [{ textJob records s with state := .printing }]
        nextJobId := if s.queue.nextJobId < 255 then s.queue.nextJobId + 1 else 1 }
    engine := { s.engine with memory := 0, condition := .printing, line := records[0]?.map s.firstRow }
    link := s.link.push
      (.printJob s.queue.nextJobId .text .printing none .accepted none none 0 records.length) }

variable {records : List LineRecord}

theorem acceptText_printing (hjobs : s.queue.jobs = []) (hfault : s.engine.condition ≠ .fault)
    (hheld : s.engine.causes.held = false) :
    acceptJob (textJob records s) s = proceed (textBegun records s) := by
  have hstarts := acceptJob_starts (j := textJob records s) rfl hjobs hfault
  rw [idAfter_empty hjobs] at hstarts
  exact hstarts.trans (startJob_printing rfl rfl (by exact hfault) (by exact hheld))

theorem acceptText_paused (hjobs : s.queue.jobs = []) (hidle : s.engine.condition = .idle)
    (hheld : s.engine.causes.held = true) :
    acceptJob (textJob records s) s = { s with
      queue :=
        { jobs := [{ textJob records s with state := .paused, reasons := s.engine.causes }]
          nextJobId := if s.queue.nextJobId < 255 then s.queue.nextJobId + 1 else 1 }
      engine := { s.engine with
        condition := .paused, memory := 0, line := records[0]?.map s.firstRow, speedIndex := 0, pendingPeriod := 2500 }
      link := (s.link.push (.printJob s.queue.nextJobId .text .paused none .accepted (some s.engine.causes) none 0
        records.length)).push
          (.printerState .paused .idle s.engine.causes s.engine.paperLow .jobStarted none) } := by
  have hfault : s.engine.condition ≠ .fault := by simp [hidle]
  have hstarts := acceptJob_starts (j := textJob records s) rfl hjobs hfault
  rw [idAfter_empty hjobs] at hstarts
  have hpaused := hstarts.trans (startJob_paused rfl rfl (by exact hfault) (by exact hheld))
  dsimp only at hpaused
  rw [if_neg (show ¬ s.engine.condition = .paused by simp [hidle]), hidle] at hpaused
  exact hpaused

/-- With the work of an abandoned line running the engine waits (R180). -/
theorem proceed_abandoned (h : s.engine.abandoned = true) : proceed s = s := by
  unfold proceed
  split
  · rfl
  · rw [if_neg (by simp [h])]

/-! ### PRINTER_CLEAR (R155, R179, R180) -/

/-- A clear up to the engine's own part: the jobs reported and gone, the closed slot told of an ORIGINAL, and the speed index
0 with a job in progress (R69, R155). -/
def jobsCleared (s : State) : State :=
  let u := reportAborted s.queue.jobs { s with queue := { s.queue with jobs := [] } }
  let v := if s.queue.jobs.any (fun j => j.kind == .original) then setReceipt .aborted u else u
  if s.queue.current.isSome then setSpeed 0 v else v

theorem printerClear_eq (s : State) :
    printerClear s = if s.engine.condition = .fault then
        let u := { jobsCleared s with
          engine := { (jobsCleared s).engine with clearTaken := true, line := none, row := none } }
        if u.inputs.cutterHome then leaveFault u else u
      else
        let u := abandonLine (jobsCleared s)
        if s.engine.condition = .paused then printerReport .paused .jobEnded none u else u := rfl

theorem setSpeed_if (b : Bool) (s : State) : (if b then setSpeed 0 s else s) = { s with engine := { s.engine with
    speedIndex := if b then 0 else s.engine.speedIndex
    pendingPeriod := if b then 2500 else s.engine.pendingPeriod } } := by
  cases b <;> rfl

theorem setReceipt_if (b : Bool) (x : ReceiptState) (s : State) : (if b then setReceipt x s else s) =
    { s with sale := { s.sale with closed := s.sale.closed.map fun c => if b then { c with receipt := x } else c } } := by
  cases b
  · simp
  · rfl

/-- A job is in progress exactly where the first of the list is not QUEUED (R152). -/
theorem current_isSome (q : PrintQueue) :
    q.current.isSome = (q.jobs.head?.map Job.state).any fun st => st != .queued := by
  unfold PrintQueue.current
  cases q.jobs with
  | nil => rfl
  | cons j _ => by_cases hj : j.state = .queued <;> simp [hj]

theorem jobsCleared_eq (s : State) :
    let began := (s.queue.jobs.head?.map Job.state).any fun st => st != .queued
    jobsCleared s = { s with
      sale := { s.sale with closed := s.sale.closed.map fun c =>
        if (s.queue.jobs.any fun j => j.kind == .original) then { c with receipt := .aborted } else c }
      queue := { s.queue with jobs := [] }
      engine := { s.engine with
        speedIndex := if began then 0 else s.engine.speedIndex
        pendingPeriod := if began then 2500 else s.engine.pendingPeriod }
      link := s.queue.jobs.foldl (fun l j => l.push (.printJob j.id j.kind .aborted (some j.state) .cleared none
        j.saleNumber (j.cursor - 1) j.lineCount)) s.link } := by
  unfold jobsCleared
  dsimp only
  rw [setReceipt_if, setSpeed_if, reportAborted_eq, current_isSome]

/-- The requests of the printer withdrawn from a supply whose walks can grant nothing then (R138, R139, R180). -/
theorem abandonLine_alone {c m h : Option Nat}
    (hw : (s.supply.waiting = ⟨none, c, none, none⟩ ∨ s.supply.waiting = ⟨none, none, m, none⟩ ∨
        s.supply.waiting = ⟨none, none, none, h⟩) ∧ s.drawer.state ≠ .waitSupply ∨
      s.supply.waiting = ⟨some 14, c, m, h⟩ ∧ (s.supply.low = true ∨ s.supply.budget - s.supply.granted.total < 14)) :
    abandonLine s = { s with
      supply := { s.supply with waiting := ⟨s.supply.waiting.drawer, none, none, none⟩ }
      engine := { s.engine with
        condition := .idle, line := none, row := none
        cutter := if s.engine.cutter = .waiting then .rest else s.engine.cutter
        abandoned := s.engine.phase.isSome || s.engine.stepRunning.isSome || s.engine.cutter == .cutting } } := by
  have hcutter : withdrawRequest .cutter s =
      { s with supply := { s.supply with waiting := s.supply.waiting.put .cutter none } } := by
    refine withdrawRequest_alone _ _ (by simp) ?_
    obtain ⟨hw | hw | hw, hd⟩ | ⟨hw, hlow⟩ := hw <;> simp [*, Needs.of, Needs.put, Supply.free]
  have hmotor (v : Supply) (hv : v = { s.supply with waiting := s.supply.waiting.put .cutter none }) :
      withdrawRequest .motor { s with supply := v } =
        { s with supply := { v with waiting := v.waiting.put .motor none } } := by
    refine withdrawRequest_alone _ _ (by simp) ?_
    subst hv
    obtain ⟨hw | hw | hw, hd⟩ | ⟨hw, hlow⟩ := hw <;> simp [*, Needs.of, Needs.put, Supply.free]
  have hhead (v : Supply)
      (hv : v = { s.supply with waiting := (s.supply.waiting.put .cutter none).put .motor none }) :
      withdrawRequest .head { s with supply := v } =
        { s with supply := { v with waiting := v.waiting.put .head none } } := by
    refine withdrawRequest_alone _ _ (by simp) ?_
    subst hv
    obtain ⟨hw | hw | hw, hd⟩ | ⟨hw, hlow⟩ := hw <;> simp [*, Needs.of, Needs.put, Supply.free]
  unfold abandonLine
  rw [hcutter, hmotor _ rfl, hhead _ rfl]
  rfl

/-- In FAULT with the blade away a clear leaves FAULT as it is, with clear taken (R179). -/
theorem printerClear_away (hfault : s.engine.condition = .fault) (haway : s.inputs.cutterHome = false) :
    printerClear s = { jobsCleared s with
      engine := { (jobsCleared s).engine with clearTaken := true, line := none, row := none } } := by
  have hinputs : (jobsCleared s).inputs = s.inputs := by rw [jobsCleared_eq]
  rw [printerClear_eq, if_pos hfault]
  dsimp only
  rw [hinputs, if_neg (by simp [haway])]

/-- In FAULT with the blade home a clear leaves FAULT (R179). -/
theorem printerClear_home (hfault : s.engine.condition = .fault) (hhome : s.inputs.cutterHome = true) :
    printerClear s = faultLeft { jobsCleared s with
      engine := { (jobsCleared s).engine with clearTaken := true, line := none, row := none } } := by
  have hinputs : (jobsCleared s).inputs = s.inputs := by rw [jobsCleared_eq]
  rw [printerClear_eq, if_pos hfault]
  dsimp only
  rw [hinputs, if_pos hhome, leaveFault_eq, startJob_empty]
  rw [jobsCleared_eq]
  rfl

/-- Outside FAULT a clear abandons the line, with one report from PAUSED (R180, R181). -/
theorem printerClear_running (hfault : s.engine.condition ≠ .fault) :
    printerClear s = { abandonLine (jobsCleared s) with
      link := if s.engine.condition = .paused then (abandonLine (jobsCleared s)).link.push
          (.printerState .idle .paused (abandonLine (jobsCleared s)).engine.causes
            (abandonLine (jobsCleared s)).engine.paperLow .jobEnded none)
        else (abandonLine (jobsCleared s)).link } := by
  rw [printerClear_eq, if_neg hfault]
  dsimp only
  split_ifs <;> rfl

/-- A clear empties the job list, tells the closed slot of an ORIGINAL, and leaves the other blocks but the drawer, the supply
and the engine (R155). -/
theorem printerClear_keeps (s : State) :
    (printerClear s).queue = { s.queue with jobs := [] } ∧
    (printerClear s).sale = { s.sale with closed := s.sale.closed.map fun c =>
      if (s.queue.jobs.any fun j => j.kind == .original) then { c with receipt := .aborted } else c } ∧
    printerClear s = { s with
      sale := (printerClear s).sale, drawer := (printerClear s).drawer, supply := (printerClear s).supply
      queue := (printerClear s).queue, engine := (printerClear s).engine, link := (printerClear s).link } := by
  by_cases hfault : s.engine.condition = .fault
  · cases hhome : s.inputs.cutterHome with
    | false =>
      rw [printerClear_away hfault hhome, jobsCleared_eq]
      exact ⟨rfl, rfl, rfl⟩
    | true =>
      rw [printerClear_home hfault hhome, jobsCleared_eq]
      exact ⟨rfl, rfl, rfl⟩
  · rw [printerClear_running hfault]
    refine ⟨by simp [jobsCleared_eq], by simp [jobsCleared_eq], ?_⟩
    apply State.ext <;> simp [jobsCleared_eq]

theorem printerClear_onlyReports (s : State) : OnlyReports s (printerClear s) := by
  have aborted (js : List Job) (u : State) : OnlyReports u (reportAborted js u) := by
    induction js generalizing u with
    | nil => exact OnlyReports.refl u
    | cons j js ih => exact (OnlyReports.job _ _ _ _ u).trans (ih _)
  have withdrawn (r : Requester) (u : State) : OnlyReports u (withdrawRequest r u) := by
    unfold withdrawRequest
    split
    · exact OnlyReports.refl u
    · exact (OnlyReports.same rfl).trans (OnlyReports.walk _)
  have cleared : OnlyReports s (jobsCleared s) := by
    have h := aborted s.queue.jobs { s with queue := { s.queue with jobs := [] } }
    rw [reportAborted_eq] at h
    rw [jobsCleared_eq]
    exact h
  by_cases hfault : s.engine.condition = .fault
  · cases hhome : s.inputs.cutterHome with
    | false =>
      rw [printerClear_away hfault hhome]
      exact cleared
    | true =>
      rw [printerClear_home hfault hhome]
      exact cleared.trans (OnlyReports.report _ _)
  · have abandoned : OnlyReports s (abandonLine (jobsCleared s)) :=
      ((cleared.trans (withdrawn .cutter _)).trans (withdrawn .motor _)).trans (withdrawn .head _)
    rw [printerClear_running hfault]
    split_ifs
    · exact abandoned.trans (OnlyReports.report _ _)
    · exact abandoned

/-- Settles O57: PRINT_TEXT by its checks and by the list it finds; PRINTER_CLEAR by the condition it finds. -/
theorem printTextAndClear : Obligations.PrintTextAndClear := by
  intro s tag ha e jobs id noNeed stores
  have hstores : ∀ x r, stores x r ↔ lineOfArg x = some r := by
    intro x r
    cases x with
    | text => exact lineOfArg_text.symm
    | feed n => by_cases h : 1 ≤ n.toNat <;> simp [stores, lineOfArg, h, eq_comm (a := r)]
    | cut => simp [stores, lineOfArg, eq_comm (a := r)]
    | unknown => simp [stores, lineOfArg]
  have hclear : exec (.printerClear tag) s = .next ((printerClear s).replies 0x26 tag .ok .empty) :=
    exec_granted ha rfl rfl rfl (printerClear_onlyReports s)
  obtain ⟨hqueue, hsale, hrest⟩ := printerClear_keeps s
  refine ⟨?_, ⟨_, hclear, ?_, ?_, ?_, ?_, ?_, ?_, rfl, ?_⟩, ?_⟩
  · intro lines refused
    refine ⟨fun h => exec_refused ha rfl rfl (printText_badLines ?_), ?_⟩
    · simpa [hstores, Option.eq_none_iff_forall_ne_some] using h
    · intro given records hlow hhigh hall hrecords used others fields job accepted first alone answers
      have hgiven := linesOfArgs_some (hall.imp fun x r => (hstores x r).1)
      have hcut : withFinalCut given = records := hrecords.symm
      have hchecks := printText_checks (s := s) hgiven hlow hhigh
      rw [hcut] at hchecks
      have hused : recordsHeld s.queue.jobs = used := recordsHeld_eq_sum _
      have hothers : s.queue.textAndCopy = others := textAndCopy_eq_length _
      have hbounds : given.length ≤ records.length ∧ records.length ≤ given.length + 1 := hcut ▸ withFinalCut_length given
      have hlength := linesOfArgs_length hgiven
      have hfree : s.queue.free = 96 - used := by rw [PrintQueue.free, hused]
      rw [hothers, hfree] at hchecks
      have hanswers (hfault : e.condition ≠ .fault) (hother : others < 3) (hroom : used + records.length ≤ 96)
          {u : State} (hu : acceptJob (textJob records s) s = u) : answers u := by
        rw [if_neg hfault, if_neg (by omega), if_neg (by omega), hu] at hchecks
        exact exec_granted ha rfl rfl hchecks (hu ▸ OnlyReports.accept _ _)
      refine ⟨fun hfault => exec_refused ha rfl rfl ?_, fun hfault hfull => exec_refused ha rfl rfl ?_,
        fun hfault hother hroom hjobs => ?_, fun hjobs hidle => ?_⟩
      · rw [hchecks, if_pos hfault]
      · rw [hchecks, if_neg hfault]
        by_cases h3 : 3 ≤ others
        · rw [if_pos h3]
        · rw [if_neg h3, if_pos (by omega)]
      · intro k next after ids hnext hnew hheld hk
        refine hanswers hfault hother hroom ((acceptJob_queued rfl rfl (.inl hjobs)).trans ?_)
        rw [idAfter_first rfl hnext hnew hheld hk]
        rfl
      · have hfault : e.condition ≠ .fault := by simp [hidle]
        have hused : used = 0 := by rw [← hused, show s.queue.jobs = [] from hjobs]; rfl
        have hothers : others = 0 := by rw [← hothers, PrintQueue.textAndCopy, show s.queue.jobs = [] from hjobs]; rfl
        have hanswers {u : State} := hanswers hfault (by omega) (by omega) (u := u)
        refine ⟨fun hheld => ?_, fun hheld => ?_⟩
        · exact hanswers (acceptText_paused hjobs hidle hheld)
        · have hprinting := acceptText_printing (records := records) hjobs hfault hheld
          refine ⟨⟨_, hanswers hprinting, ?_, ?_, rfl, ?_⟩, fun habandoned => ?_,
            fun l r habandoned hrow hcutter hq hd hr hl hrows => ?_⟩
          · simp [State.replies]
            rfl
          · exact proceed_cond _
          · apply State.ext <;> simp [State.replies, textBegun]
          · exact hanswers (hprinting.trans (proceed_abandoned habandoned))
          · have hfirst : first = some (s.firstRow r) := by simp only [first, hr]; rfl
            cases hfirst.symm.trans hl
            obtain ⟨u, heq, hdots, hu⟩ := proceed_firstRow (s := textBegun records s) hq hd rfl habandoned hrow hcutter
              hfirst hrows
            exact ⟨u, hanswers (hprinting.trans heq), hdots, hu.trans (by rw [← hfirst]; rfl)⟩
  · exact hqueue
  · exact (congrArg SaleBlock.current hsale :)
  · exact (congrArg SaleBlock.closed hsale :)
  · intro hfault
    rw [printerClear_running hfault]
    exact ⟨rfl, rfl, rfl⟩
  · intro hfault haway
    rw [printerClear_away hfault haway, jobsCleared_eq]
    exact ⟨hfault, rfl, rfl⟩
  · intro hfault hhome
    rw [printerClear_home hfault hhome]
    exact ⟨rfl, rfl, rfl⟩
  · unfold State.replies
    rw [hrest]
  · intro began aborted stopped clears
    refine ⟨fun hfault haway => ?_, fun hfault hhome => ?_, fun c m h hfault hw => ?_⟩
    · exact hclear.trans (by rw [printerClear_away hfault haway, jobsCleared_eq])
    · exact hclear.trans (by rw [printerClear_home hfault hhome, jobsCleared_eq]; rfl)
    · have halone := abandonLine_alone (s := jobsCleared s) (c := c) (m := m) (h := h) (by rw [jobsCleared_eq]; exact hw)
      exact hclear.trans (by rw [printerClear_running hfault, halone, jobsCleared_eq])

end

end Sys2Proof.Machine
end

section
namespace Sys2Proof.Machine

/-! ### Numbers written (R156, R157) -/

/-- A number in decimal as its digits, most significant first. -/
def digitsText (n : Nat) : List Byte :=
  if n = 0 then [0x30] else (Nat.digits 10 n).reverse.map fun k => BitVec.ofNat 8 (0x30 + k)

/-- A number in decimal with zeros before it up to `w` digits. -/
def paddedText (w n : Nat) : List Byte := List.replicate (w - (digitsText n).length) 0x30 ++ digitsText n

theorem digitsText_lt {n : Nat} (h : n < 10) : digitsText n = [digitChar n] := by
  unfold digitsText
  split_ifs with h0
  · subst h0
    rfl
  · rw [Nat.digits_of_lt 10 n h0 h]
    simp [digitChar, byteOf, Nat.mod_eq_of_lt h]

theorem digitsText_ge {n : Nat} (h : 10 ≤ n) : digitsText n = digitsText (n / 10) ++ [digitChar n] := by
  unfold digitsText
  rw [if_neg (by omega), if_neg (by omega), Nat.digits_def' (by omega) (by omega)]
  simp [digitChar, byteOf]

theorem decimalBefore_eq (fuel : Nat) {n : Nat} (acc : List Byte) (h : n < 10 ^ (fuel + 1)) :
    decimalBefore (fuel + 1) n acc = digitsText n ++ acc := by
  induction fuel generalizing n acc with
  | zero =>
    rw [decimalBefore, if_pos (by omega), digitsText_lt (by omega)]
    rfl
  | succ fuel ih =>
    rw [decimalBefore]
    split_ifs with hlt
    · rw [digitsText_lt hlt]
      rfl
    · rw [ih (n := n / 10) _ (by rw [pow_succ] at h; omega), digitsText_ge (by omega : 10 ≤ n), List.append_assoc]
      rfl

theorem decimalText_eq {n : Nat} (h : n < 10 ^ 40) : decimalText n = digitsText n := by
  rw [decimalText, decimalBefore_eq 39 [] h, List.append_nil]

theorem fixedText_eq (d : Nat) {n : Nat} (h : n < 10 ^ (d + 1)) : fixedText (d + 1) n = paddedText (d + 1) n := by
  induction d generalizing n with
  | zero => simp [fixedText, paddedText, digitsText_lt (by omega : n < 10)]
  | succ d ih =>
    rw [fixedText, ih (by rw [pow_succ] at h; omega)]
    unfold paddedText
    by_cases hlt : n < 10
    · rw [Nat.div_eq_of_lt hlt, digitsText_lt hlt, digitsText_lt (by omega)]
      simp [List.replicate_succ', digitChar, byteOf]
    · rw [digitsText_ge (by omega : 10 ≤ n)]
      simp

/-- A money amount as its digits (R156). -/
def writtenAmount (d : Nat) (a : Int) : List Byte :=
  (if a < 0 then [0x2D] else []) ++ digitsText (a.natAbs / 10 ^ d) ++
    (if d = 0 then [] else 0x2E :: paddedText d (a.natAbs % 10 ^ d))

theorem amountText_eq (d : Nat) {a : Int} (h : a.natAbs ≤ 799999992) : amountText d a = writtenAmount d a := by
  have hdiv : a.natAbs / 10 ^ d ≤ a.natAbs := Nat.div_le_self _ _
  unfold amountText writtenAmount
  rw [decimalText_eq (by omega)]
  cases d with
  | zero => rfl
  | succ d => rw [fixedText_eq d (Nat.mod_lt _ (by positivity))]

/-- A weight in kilograms as its digits (R157). -/
def writtenKilograms (g : Int) : List Byte := digitsText (g.toNat / 1000) ++ 0x2E :: paddedText 3 (g.toNat % 1000)

theorem kilogramText_eq {g : Int} (h : g.natAbs ≤ 799999992) : kilogramText g = writtenKilograms g := by
  unfold kilogramText writtenKilograms
  rw [decimalText_eq (by omega), fixedText_eq 2 (by omega)]

theorem saleNumberText_eq {n : Int} (h : n ≤ 9999999) : saleNumberText n = paddedText 7 n.toNat :=
  fixedText_eq 6 (by omega)

/-! ### The lines of a receipt (R158 to R161) -/

theorem bannerLines_eq (ts : List (List Byte)) :
    bannerLines ts = (ts.filter fun t => !t.isEmpty).map centredLine := by
  induction ts with
  | nil => rfl
  | cons t ts ih => cases h : t.isEmpty <;> simp [bannerLines, h, ih]

theorem basketLines_eq (d : Nat) (es : List Entry) : basketLines d es = es.flatMap (entryLines d) := by
  induction es with
  | nil => rfl
  | cons e es ih => simp [basketLines, ih]

/-- The amounts and weights of an entry within the bounds that the rules keep. -/
def Entry.Small (e : Entry) : Prop :=
  e.amount.natAbs ≤ 799999992 ∧
    ∀ w ∈ e.weighing, w.netG.natAbs ≤ 799999992 ∧ w.tareG.natAbs ≤ 799999992 ∧ w.unitPrice.natAbs ≤ 799999992

/-- The lines of an entry with its amounts and weights written (R159, R160). -/
def writtenEntry (d : Nat) (e : Entry) : List LineRecord :=
  match e.kind, e.weighing with
  | .void, _ => [plainLine (pairText (textOf "VOID " ++ e.description) (writtenAmount d e.amount))]
  | .weighed, some w =>
    [plainLine (pairText e.description (writtenAmount d e.amount)),
      plainLine (textOf "  " ++ writtenKilograms w.netG ++ textOf " kg @ " ++ writtenAmount d w.unitPrice ++
        textOf "/kg")] ++
      if w.tareG = 0 then [] else [plainLine (textOf "  tare " ++ writtenKilograms w.tareG ++ textOf " kg")]
  | _, _ => [plainLine (pairText e.description (writtenAmount d e.amount))]

theorem entryLines_eq (d : Nat) {e : Entry} (h : e.Small) : entryLines d e = writtenEntry d e := by
  obtain ⟨hamount, hweighing⟩ := h
  unfold entryLines writtenEntry
  rw [amountText_eq d hamount]
  cases e.kind with
  | scanned => rfl
  | void => rfl
  | weighed =>
    cases hw : e.weighing with
    | none => rfl
    | some w =>
      obtain ⟨hnet, htare, hprice⟩ := hweighing w hw
      dsimp only
      rw [amountText_eq d hprice, kilogramText_eq hnet, kilogramText_eq htare]
      rfl

/-- The line of a tender with its amount written (R161). -/
def writtenTender (d : Nat) (t : Tender) : LineRecord :=
  match t.kind, t.masked with
  | .card, some m => plainLine (pairText (textOf "CARD ****" ++ m.last4.map digitChar) (writtenAmount d t.amount))
  | .card, none => plainLine (pairText (textOf "CARD ****") (writtenAmount d t.amount))
  | .cash, _ => plainLine (pairText (textOf "CASH") (writtenAmount d t.amount))

theorem tenderLine_eq (d : Nat) {t : Tender} (h : t.amount.natAbs ≤ 799999992) : tenderLine d t = writtenTender d t := by
  unfold tenderLine writtenTender
  rw [amountText_eq d h]
  cases t.kind <;> cases t.masked <;> rfl

/-- A closed sale within the bounds that the rules keep. -/
def ClosedSale.Small (c : ClosedSale) : Prop :=
  c.record.total.natAbs ≤ 799999992 ∧ c.changeDue.natAbs ≤ 799999992 ∧
    (∀ t ∈ c.record.tenders, t.amount.natAbs ≤ 799999992) ∧ c.record.number ≤ 9999999 ∧ ∀ e ∈ c.record.basket, e.Small

/-- A receipt with its amounts and weights written (R158). -/
theorem receiptLines_eq (kind : JobKind) (v : ReceiptSettings) {c : ClosedSale} (h : c.Small) :
    receiptLines kind v c =
      (v.headers.filter fun t => !t.isEmpty).map centredLine ++
        [plainLine (textOf "SALE " ++ paddedText 7 c.record.number.toNat)] ++
        (if kind = .copy then [.text (textOf "COPY") true false false .centre] else []) ++
        c.record.basket.flatMap (writtenEntry v.decimals) ++
        [plainLine (List.replicate 32 0x2D)] ++
        [.text (pairText (textOf "TOTAL") (writtenAmount v.decimals c.record.total)) false true false .left] ++
        c.record.tenders.map (writtenTender v.decimals) ++
        (if 0 < c.changeDue then [plainLine (pairText (textOf "CHANGE") (writtenAmount v.decimals c.changeDue))]
          else []) ++
        (v.trailers.filter fun t => !t.isEmpty).map centredLine ++ [.feed 4, .cut] := by
  obtain ⟨htotal, hchange, htenders, hnumber, hbasket⟩ := h
  have hentries : c.record.basket.flatMap (entryLines v.decimals) = c.record.basket.flatMap (writtenEntry v.decimals) :=
    List.flatMap_congr fun e he => entryLines_eq _ (hbasket e he)
  have hlines : c.record.tenders.map (tenderLine v.decimals) = c.record.tenders.map (writtenTender v.decimals) :=
    List.map_congr_left fun t ht => tenderLine_eq _ (htenders t ht)
  rw [receiptLines, bannerLines_eq, bannerLines_eq, basketLines_eq, hentries, hlines, saleNumberText_eq hnumber,
    amountText_eq _ htotal, amountText_eq _ hchange]

/-! ### REPRINT (R70) -/

/-- A job accepted keeps its lines and its cursor, whatever state it starts in (R147, R152). -/
theorem acceptJob_jobs {j : Job} {s : State} (hid : j.id = s.queue.nextJobId) (hj : j.state = .queued) :
    ∃ st c, (acceptJob j s).queue.jobs = s.queue.jobs ++ [{ j with state := st, reasons := c }] := by
  by_cases hstart : s.queue.jobs = [] ∧ s.engine.condition ≠ .fault
  · obtain ⟨hempty, hfault⟩ := hstart
    rw [acceptJob_starts hid hempty hfault, hempty]
    cases hheld : s.engine.causes.held with
    | true =>
      rw [startJob_paused rfl hj (by exact hfault) (by exact hheld)]
      exact ⟨_, _, rfl⟩
    | false =>
      rw [startJob_printing rfl hj (by exact hfault) (by exact hheld)]
      exact ⟨.printing, Causes.none, by simp⟩
  · rw [acceptJob_queued hid hj (by simpa [imp_iff_not_or] using hstart)]
    exact ⟨j.state, j.reasons, rfl⟩

/-- REPRINT of a DONE receipt queues a COPY, and of an ABORTED one an ORIGINAL with the slot RECEIPT_PENDING (R70). -/
theorem reprint_grants {s : State} {c : ClosedSale} {kind : JobKind} (hc : s.sale.closed = some c)
    (h : (c.receipt = .done ∧ s.queue.textAndCopy < 3 ∧ kind = .copy) ∨ (c.receipt = .aborted ∧ kind = .original)) :
    ∃ u, u = { s with sale := { s.sale with closed := some { c with
          receipt := if kind = .copy then .done else .pending } } } ∧
      handleRequest .reprint s = answer (.jobId s.queue.nextJobId) (acceptJob (receiptJob kind c u) u) := by
  obtain ⟨hd, hroom, rfl⟩ | ⟨hab, rfl⟩ := h
  · have hsame : ({ s.sale with closed := some { c with receipt := .done } } : SaleBlock) = s.sale := by
      rw [← hd]
      change ({ s.sale with closed := some c } : SaleBlock) = s.sale
      rw [← hc]
    refine ⟨s, ?_, ?_⟩
    · rw [if_pos rfl, hsame]
    · simp [handleRequest, reprintRequest, hc, hd, hroom]
  · refine ⟨setReceipt .pending s, ?_, ?_⟩
    · simp [setReceipt, hc]
    · simp [handleRequest, reprintRequest, hc, hab]

/-- Settles O46: the receipt's lines one by one, and REPRINT by the receipt state of the closed slot. -/
theorem reprintByReceiptState : Obligations.ReprintByReceiptState := by
  unfold Obligations.ReprintByReceiptState
  intro lines small lawful
  have hlines (kind : JobKind) (v : ReceiptSettings) (c : ClosedSale) (h : lawful c) :
      receiptLines kind v c = lines kind v c := by
    rw [receiptLines_eq kind v h]
    rfl
  refine ⟨fun s j c v i hc hl hv => ?_, fun s tag ha => ⟨fun hc => ?_, fun c hc => ⟨fun hp => ?_, fun hd h3 => ?_,
    fun kind hk => ?_⟩⟩⟩
  · simp only [jobLine, hv, hc, hlines _ v c hl, Nat.add_sub_cancel]
  · exact exec_refused ha rfl rfl (by simp [handleRequest, reprintRequest, hc])
  · exact exec_refused ha rfl rfl (by simp [handleRequest, reprintRequest, hc, hp])
  · exact exec_refused ha rfl rfl (by simp [handleRequest, reprintRequest, hc, hd, h3])
  · obtain ⟨u, hu, hr⟩ := reprint_grants hc hk
    have honly : OnlyReports s (acceptJob (receiptJob kind c u) u) :=
      (OnlyReports.same (by rw [hu])).trans (OnlyReports.accept _ _)
    have hqueue : u.queue = s.queue := by rw [hu]
    obtain ⟨st, causes, hjobs⟩ := acceptJob_jobs (j := receiptJob kind c u) (s := u) rfl rfl
    obtain ⟨hids, hkinds⟩ := acceptJob_ids (receiptJob kind c u) u
    refine ⟨_, exec_granted ha rfl rfl hr honly, ?_, ?_, ?_, ⟨{ receiptJob kind c u with state := st, reasons := causes },
      u.store.live.receipt, ?_, rfl, rfl, rfl, ?_, ?_, ?_, ?_⟩, rfl, ?_⟩
    · simp [State.replies, hu]
    · simpa [State.replies, hqueue, receiptJob] using hids
    · simpa [State.replies, hqueue, receiptJob] using hkinds
    · simp [State.replies, hjobs]
    · rw [hu]; rfl
    · rw [hu]; rfl
    · rw [hu]; rfl
    · exact fun h => congrArg List.length (hlines kind _ c h)
    · apply State.ext <;> simp [State.replies, hu]

end Sys2Proof.Machine
end

section
namespace Sys2Proof.Machine

/-! ### Reading the other blocks -/

/-- Settles O47: a read answers with what its block holds and changes nothing; READ_BAGGING first looks for the position
asked for. -/
theorem readsOfBlocks : Obligations.ReadsOfBlocks := by
  intro s tag n ha listed
  refine ⟨fun hn => ?_, fun hn => ?_, fun fields hfields => ?_, exec_granted ha rfl rfl rfl,
    exec_granted ha rfl rfl rfl, exec_granted ha rfl rfl rfl, exec_granted ha rfl rfl rfl⟩
  · exact exec_granted ha rfl rfl (if_pos (hn.symm.imp_left And.symm))
  · exact exec_refused ha rfl rfl (if_neg (by omega))
  · refine exec_granted ha rfl rfl ?_
    subst hfields
    cases hslot : s.reader.slot <;> simp only [handleRequest, readCardRequest, hslot] <;> rfl

/-! ### The timers of the monitor -/

/-- The status an entry of the basket has (R94). -/
theorem statusOf_found {n : Nat} {e : Entry} {s : State} (h : findEntry n s.basket = some e) :
    statusOf n s = e.status := by
  simp [statusOf, h]

/-- An expectation keeps its place without a bag timer (R78). -/
def timedOut (n : Nat) (s : State) : State :=
  mapMonitor (fun m => { m with
    expectations := m.expectations.map fun x => if x.entry = n then { x with timer := none } else x }) s

/-- An expired bag timer tells of an entry still PENDING and of one still awaiting removal (R78, R89). -/
theorem bagTimerExpires_late {n : Nat} {x : Expectation} {e : Entry} {late : BaggingStatus} {kind : ExceptionKind}
    {s : State} (hx : x ∈ s.monitor.expectations) (hn : x.entry = n) (ht : x.timer.isSome = true)
    (he : findEntry n s.basket = some e)
    (hlate : (e.status = .pending ∧ late = .overdue ∧ kind = .itemNotBagged) ∨
      (e.status = .awaitRemoval ∧ late = .removalOverdue ∧ kind = .voidNotRemoved)) :
    bagTimerExpires n s = raiseException kind (some n) none (setStatus n late .timeout (timedOut n s)) := by
  have hfind : ∃ y, s.monitor.expectations.find? (fun y => y.entry == n && y.timer.isSome) = some y :=
    Option.isSome_iff_exists.1 (List.find?_isSome.2 ⟨x, hx, by simp [hn, ht]⟩)
  obtain ⟨y, hy⟩ := hfind
  unfold bagTimerExpires
  obtain ⟨hst, rfl, rfl⟩ | ⟨hst, rfl, rfl⟩ := hlate <;> simp only [hy, statusOf_found he, hst] <;> rfl

/-- An exception raised joins the list, or the monitor is SUSPENDED when eight are held; the alert is held either way
(R86 to R88). -/
theorem raiseException_outcome (k : ExceptionKind) (e : Option Nat) (d : Option Int) (s : State) :
    let t := raiseException k e d s
    t.monitor.expectations = s.monitor.expectations ∧
      (s.monitor.exceptions.length < 8 → t.monitor.exceptions = s.monitor.exceptions ++
        [{ id := s.monitor.nextExceptionId, kind := k, entry := e, delta := d }]) ∧
      (8 ≤ s.monitor.exceptions.length →
        t.monitor.exceptions = s.monitor.exceptions ∧ t.monitor.suspended = true) ∧
      t.tone.bagAlertHeld = true := by
  obtain ⟨hexp, hroom, hfull⟩ := raiseException_monitor k e d s
  exact ⟨hexp, fun h => (hroom h).1, fun h => ⟨(hfull h).1, (hfull h).2.1⟩, raiseException_bagAlertHeld k e d s⟩

/-- An exception raised while no unclaimed delta is held makes none (R85, R87). -/
theorem raiseException_unclaimed {k : ExceptionKind} {e : Option Nat} {d : Option Int} {s : State}
    (h : s.monitor.unclaimed = none) : (raiseException k e d s).monitor.unclaimed = none := by
  obtain ⟨-, hroom, hfull⟩ := raiseException_monitor k e d s
  obtain hlt | hge := lt_or_ge s.monitor.exceptions.length 8
  · exact (hroom hlt).2.trans h
  · exact (hfull hge).2.2

/-- Settles O49: each expired timer that runs raises its exception over the monitor without the timer; one that does not
run changes nothing. -/
theorem bagTimers : Obligations.BagTimers := by
  intro s n r hp
  have expires : exec (.bagTimerExpiry n) s = .next (endEvent (bagTimerExpires n s)) :=
    congrArg _ (asEvent_powered hp)
  have grace : exec .graceTimerExpiry s = .next (endEvent (graceExpires s)) := congrArg _ (asEvent_powered hp)
  refine ⟨fun hnone => ?_, fun x e late kind hx hn ht hr he hlate => ?_, fun hu => ?_, fun u hu => ?_⟩
  · have hfind : s.monitor.expectations.find? (fun x => x.entry == n && x.timer.isSome) = none := by
      refine List.find?_eq_none.2 fun x hx => ?_
      have hidle := List.all_eq_true.1 hnone x hx
      simpa [imp_iff_not_or] using hidle
    rw [expires]
    simp [bagTimerExpires, hfind]
  · have hbasket : s.basket = r.basket := by simp [State.basket, hr, CurrentSale.record?]
    rw [← hbasket] at he
    rw [bagTimerExpires_late hx hn ht he hlate] at expires
    obtain ⟨hexp, hroom, hfull, halert⟩ :=
      raiseException_outcome kind (some n) none (setStatus n late .timeout (timedOut n s))
    have hsale : (setStatus n late .timeout (timedOut n s)).sale = { s.sale with
        current := .opened { r with
          basket := r.basket.map fun y => if y.number = n then { y with status := late } else y } } := by
      rw [setStatus_found (s := timedOut n s) late .timeout he]
      simp [timedOut, mapMonitor, hr, CurrentSale.mapRecord]
    have hmonitor : (setStatus n late .timeout (timedOut n s)).monitor = (timedOut n s).monitor := by simp
    rw [hmonitor] at hexp hroom hfull
    refine ⟨_, expires, ?_, hexp, hroom, hfull, halert, ?_⟩
    · simp [hsale]
    · apply State.ext <;> simp [timedOut, mapMonitor]
  · rw [grace]
    simp [graceExpires, hu]
  · have hg : graceExpires s =
        raiseException .unexpectedItem none (some (Int.ofNat u.amount)) (discardUnclaimed s) := by
      simp only [graceExpires, hu]
    rw [hg] at grace
    obtain ⟨hexp, hroom, hfull, halert⟩ :=
      raiseException_outcome .unexpectedItem none (some (Int.ofNat u.amount)) (discardUnclaimed s)
    refine ⟨_, grace, raiseException_unclaimed rfl, hexp, hroom, hfull, halert, ?_⟩
    apply State.ext <;> simp [discardUnclaimed, mapMonitor]

end Sys2Proof.Machine
end

section
namespace Sys2Proof.Machine

/-! ### The attendant's requests of the monitor (R90 to R92) -/

/-- The statuses that WAIVE_BAGGING and BAG_RESYNC release, as a list (R91, R92). -/
def outstandingStatuses : List BaggingStatus := [.pending, .overdue, .removed, .awaitRemoval, .removalOverdue]

theorem waivable_iff (st : BaggingStatus) : st.waivable = true ↔ st ∈ outstandingStatuses := by
  cases st <;> decide

section
variable {s t : State} {c : Instr} {tag k : Byte} {r : Request} {x : BagException} {why : ExceptionCause}

/-- A request that ends by clearing one exception: the list without it, its one report, and the alert as the rest of the
list has it (R86, R88, R95). -/
theorem exec_clears (ha : s.accepts) (hc : exec c s = .next (asRequest tag r s)) (hk : requestKind r = k)
    (hr : handleRequest r s = done (clearOne x why t)) (ho : OnlyReports s t) {left : List BagException}
    (hleft : left = t.monitor.exceptions.filter fun y => y.id != x.id) :
    ∃ tone : Tone, tone.bagAlertHeld = (!left.isEmpty || t.monitor.suspended) ∧
      exec c s = .next (({ t with
        monitor := { t.monitor with exceptions := left }
        tone := tone
        link := t.link.push (.bagException .cleared (some x.id) (some x.kind) x.entry x.delta (some why) left.length
          t.monitor.suspended none) } : State).replies k tag .ok .empty) := by
  subst hleft
  obtain ⟨tone, heq, hheld⟩ := clearOne_eq x why t
  refine ⟨tone, hheld, ?_⟩
  rw [← heq]
  exact exec_granted ha hc hk hr (ho.trans (.clear x why t))

end

/-- An entry waived and its expectation gone, with the one ENTRY_BAGGING (R90, R91, R94). -/
def entryWaived (n : Nat) (st : BaggingStatus) (why : BaggingCause) (s : State) : State :=
  { s with
    sale := { s.sale with current := s.sale.current.mapRecord fun q => { q with
      basket := q.basket.map fun y => if y.number = n then { y with status := .waived } else y } }
    monitor := { s.monitor with expectations := s.monitor.expectations.filter fun x => x.entry != n }
    link := s.link.push (.entryBagging n .waived (some st) why) }

theorem entryWaived_eq {n : Nat} {e : Entry} {s : State} (why : BaggingCause) (he : findEntry n s.basket = some e) :
    setStatus n .waived why (removeExpectation n s) = entryWaived n e.status why s :=
  setStatus_found (s := removeExpectation n s) .waived why he

theorem entryWaived_onlyReports (n : Nat) (st : BaggingStatus) (why : BaggingCause) (s : State) :
    OnlyReports s (entryWaived n st why s) := OnlyReports.report (.entryBagging n .waived (some st) why) s

theorem clearAnyNaming_none {n : Nat} {why : ExceptionCause} {s : State}
    (h : (s.monitor.exceptions.find? fun x => x.entry == some n) = none) : clearAnyNaming n why s = s := by
  simp only [clearAnyNaming, h]

theorem clearAnyNaming_some {n : Nat} {x : BagException} {why : ExceptionCause} {s : State}
    (h : (s.monitor.exceptions.find? fun x => x.entry == some n) = some x) :
    clearAnyNaming n why s = clearOne x why s := by
  simp only [clearAnyNaming, h]

/-- CLEAR_EXCEPTION of an exception held (R90). -/
theorem clearException_found {s : State} {n : Byte} {x : BagException} (hatt : s.attendant = true)
    (hx : (s.monitor.exceptions.find? fun y => y.id == n.toNat) = some x) :
    (x.kind ≠ .itemNotBagged → handleRequest (.clearException n) s = done (clearOne x .attendant s)) ∧
      ∀ k e, x.kind = .itemNotBagged → x.entry = some k → findEntry k s.basket = some e →
        handleRequest (.clearException n) s = done (clearOne x .attendant (entryWaived k e.status .attendant s)) := by
  refine ⟨fun hkind => ?_, fun k e hkind hentry he => ?_⟩
  · simp only [handleRequest, clearExceptionRequest, hatt, hx, Bool.true_eq_false, if_false]
    split
    · next h _ => exact absurd h hkind
    · rfl
  · simp [handleRequest, clearExceptionRequest, hatt, hx, hkind, hentry, entryWaived_eq .attendant he]

/-- WAIVE_BAGGING with the attendant's switch on, while a record is open (R91). -/
theorem waiveBagging_open {s : State} {n : Byte} {r : SaleRecord} (hatt : s.attendant = true)
    (hr : s.sale.current = .opened r ∨ s.sale.current = .tender r) :
    (findEntry n.toNat r.basket = none → handleRequest (.waiveBagging n) s = refuse .notFound s) ∧
      ∀ e, findEntry n.toNat r.basket = some e →
        (e.status ∉ outstandingStatuses → handleRequest (.waiveBagging n) s = refuse .badState s) ∧
        (e.status ∈ outstandingStatuses → handleRequest (.waiveBagging n) s =
          done (clearAnyNaming n.toNat .waived (entryWaived n.toNat e.status .waived s))) := by
  have hstate : s.sale.current.state ≠ .idle := by obtain hr | hr := hr <;> rw [hr] <;> simp [CurrentSale.state]
  have hbasket : s.basket = r.basket := by
    obtain hr | hr := hr <;> simp [State.basket, hr, CurrentSale.record?]
  refine ⟨fun hnone => ?_, fun e he => ⟨fun hst => ?_, fun hst => ?_⟩⟩
  · simp only [handleRequest, waiveBaggingRequest, hatt, if_neg hstate, hbasket, Bool.true_eq_false, if_false, hnone]
  · simp only [handleRequest, waiveBaggingRequest, hatt, if_neg hstate, hbasket, Bool.true_eq_false, if_false, he]
    exact if_neg (mt (waivable_iff _).1 hst)
  · simp only [handleRequest, waiveBaggingRequest, hatt, if_neg hstate, hbasket, Bool.true_eq_false, if_false, he]
    rw [if_pos ((waivable_iff _).2 hst), findEntry_number he, entryWaived_eq .waived (hbasket ▸ he)]

/-! ### BAG_RESYNC (R92) -/

/-- The monitor emptied: its lists gone, the alert withdrawn, and one report when there was anything (R92, R93, R95). -/
theorem emptyMonitor_eq (cause : ExceptionCause) (n : Nat) (s : State) :
    ∃ tone : Tone, tone.bagAlertHeld = false ∧ emptyMonitor cause n s = { s with
      monitor := { s.monitor with expectations := [], unclaimed := none, exceptions := [], suspended := false }
      tone := tone
      link := if n ≠ 0 ∨ s.monitor.holdsAnything = true then
          s.link.push (.bagException .allCleared none none none none (some cause) 0 false
            (some (n, s.monitor.exceptions.length)))
        else s.link } := by
  obtain ⟨tone, heq, hheld, -⟩ := settleAlert_silent (s := mapMonitor Monitor.emptied s) rfl
  refine ⟨tone, hheld, ?_⟩
  unfold emptyMonitor
  rw [heq]
  dsimp only
  split_ifs <;> rfl

theorem waivableCount_eq (basket : List Entry) :
    waivableCount basket = countWhere (fun y => decide (y.status ∈ outstandingStatuses)) basket := by
  simp only [waivableCount, ← waivable_iff, Bool.decide_eq_true]

theorem waiveAll_eq : waiveAll = fun basket =>
    basket.map fun y => if y.status ∈ outstandingStatuses then { y with status := .waived } else y := by
  funext basket
  simp only [waiveAll, waivable_iff]

theorem holdsAnything_iff (m : Monitor) : m.holdsAnything = true ↔
    m.expectations ≠ [] ∨ m.exceptions ≠ [] ∨ m.unclaimed ≠ none ∨ m.suspended = true := by
  simp only [Monitor.holdsAnything, Monitor.outstanding, Monitor.alerting, Bool.or_eq_true, Bool.not_eq_true',
    List.isEmpty_eq_false_iff, Option.isSome_iff_ne_none]
  tauto

/-- S is taken from a stable output of a READY bag channel, and is absent without one (R24, R92). -/
theorem resyncedS_eq {c : Channel} {settled : Option Int}
    (htaken : ∀ o f, c.condition = .ready → c.latest = some o → o.stable = true → o.fineGross = some f →
      settled = some (roundAway f 50 * 5))
    (habsent : c.condition ≠ .ready ∨ (∀ o, c.latest = some o → o.stable = false ∨ o.fineGross = none) →
      settled = none) : resyncedS c = settled := by
  unfold resyncedS
  split
  · next o ho =>
    split
    · next f hready hf =>
      obtain ⟨hs, hc⟩ : o.stable = true ∧ c.condition = .ready := by simpa using hready
      exact (htaken o f hc ho hs hf).symm
    · next hmiss =>
      refine (habsent ?_).symm
      by_cases hc : c.condition = .ready
      · refine .inr fun o' ho' => ?_
        obtain rfl : o = o' := Option.some.inj (ho.symm.trans ho')
        cases hs : o.stable with
        | false => exact .inl rfl
        | true => exact .inr (Option.eq_none_iff_forall_ne_some.2 fun f => hmiss f (by simp [hs, hc]))
      · exact .inl hc
  · next ho => exact (habsent (.inr fun o h => by simp [ho] at h)).symm

/-- The part after a BAG_RESYNC: S anew, every outstanding entry WAIVED, and the monitor emptied (R92). -/
def resynced (tone : Tone) (settled : Option Int) (count : Nat) (basket : List Entry → List Entry) (s : State) :
    State :=
  { s with
    settledS := settled
    sale := { s.sale with current := s.sale.current.mapRecord fun q => { q with basket := basket q.basket } }
    monitor := { s.monitor with expectations := [], unclaimed := none, exceptions := [], suspended := false }
    tone := tone
    link := if count ≠ 0 ∨ s.monitor.expectations ≠ [] ∨ s.monitor.exceptions ≠ [] ∨ s.monitor.unclaimed ≠ none ∨
        s.monitor.suspended = true then
        s.link.push (.bagException .allCleared none none none none (some .resync) 0 false
          (some (count, s.monitor.exceptions.length)))
      else s.link }

/-- BAG_RESYNC with the attendant's switch on (R92). -/
theorem bagResync_attended {s : State} (hatt : s.attendant = true) :
    ∃ tone : Tone, tone.bagAlertHeld = false ∧
      handleRequest .bagResync s =
        answer (.resync (waivableCount s.basket) s.monitor.exceptions.length (resyncedS s.bag))
          (resynced tone (resyncedS s.bag) (waivableCount s.basket) waiveAll s) ∧
      ∀ settled count basket, OnlyReports s (resynced tone settled count basket s) := by
  obtain ⟨tone, hheld, hemptied⟩ := emptyMonitor_eq .resync (waivableCount s.basket)
    (mapSale (fun q => { q with basket := waiveAll q.basket }) s)
  refine ⟨tone, hheld, ?_, fun settled count basket => ?_⟩
  · simp only [handleRequest, bagResyncRequest, hatt, Bool.true_eq_false, if_false, hemptied, holdsAnything_iff]
    rfl
  · unfold OnlyReports resynced
    dsimp only
    split_ifs
    · exact push_frame ..
    · rfl

/-- Settles O48: each request passes its checks in order, then clears its one exception over the entry waived, or
empties the monitor. -/
theorem baggingRequests : Obligations.BaggingRequests := by
  intro s tag n r ha m outstanding waives released clears
  refine ⟨fun hoff => ⟨exec_refused ha rfl rfl (if_pos hoff), fun hidle => exec_refused ha rfl rfl ?_,
    exec_refused ha rfl rfl (if_pos hoff)⟩, fun hidle => exec_refused ha rfl rfl ?_, fun hatt => ⟨fun hnone => ?_,
    fun x hx => ⟨fun hkind => ?_, fun k e hkind hentry he => ?_⟩, fun hr => ?_,
    fun settled count htaken habsent hcount => ?_⟩⟩
  · have hstate : s.sale.current.state ≠ .idle := by cases h : s.sale.current <;> simp_all [CurrentSale.state]
    exact (if_neg hstate).trans (if_pos hoff)
  · exact if_pos (by rw [hidle]; rfl)
  · exact exec_refused ha rfl rfl (by simp [handleRequest, clearExceptionRequest, hatt, m, hnone])
  · exact fun left hleft => exec_clears ha rfl rfl ((clearException_found hatt hx).1 hkind) (.refl s) hleft
  · exact fun left hleft => exec_clears ha rfl rfl ((clearException_found hatt hx).2 k e hkind hentry he)
      (entryWaived_onlyReports k e.status .attendant s) hleft
  · obtain ⟨habsent, hheld⟩ := waiveBagging_open (n := n) hatt hr
    refine ⟨fun hnone => exec_refused ha rfl rfl (habsent hnone), fun e he => ?_⟩
    obtain ⟨hbad, hok⟩ := hheld e he
    refine ⟨fun hst => exec_refused ha rfl rfl (hbad hst), fun hst => ⟨fun hfree => ?_, fun x hx left hleft => ?_⟩⟩
    · have hclear := clearAnyNaming_none (why := .waived) (s := entryWaived n.toNat e.status .waived s) hfree
      exact exec_granted ha rfl rfl ((hok hst).trans (congrArg done hclear)) (entryWaived_onlyReports ..)
    · have hclear := clearAnyNaming_some (why := .waived) (s := entryWaived n.toNat e.status .waived s) hx
      exact exec_clears ha rfl rfl ((hok hst).trans (congrArg done hclear)) (entryWaived_onlyReports ..) hleft
  · obtain ⟨tone, hheld, hreq, honly⟩ := bagResync_attended hatt
    rw [resyncedS_eq htaken habsent, waivableCount_eq, waiveAll_eq] at hreq
    refine ⟨tone, hheld, ?_⟩
    subst hcount
    exact exec_granted ha rfl rfl hreq (honly ..)

end Sys2Proof.Machine
end

section
namespace Sys2Proof.Machine

/-! ### The held requests of the tone output -/

/-- The two held requests stand as they stood (R134). -/
def Tone.SameHeld (t x : Tone) : Prop := x.drawerAlarmHeld = t.drawerAlarmHeld ∧ x.bagAlertHeld = t.bagAlertHeld

namespace Tone

theorem sound_held (old f : Nat) (t : Tone) : SameHeld t (t.sound old f) := by
  unfold sound
  split_ifs <;> exact ⟨rfl, rfl⟩

theorem gain_held (o : ToneOwner) (b : Option BeepParams) (t : Tone) : SameHeld t (t.gain o b) :=
  sound_held _ _ { t with owner := o, beep := b, position := _ }

theorem release_held (t : Tone) : SameHeld t t.release := by
  unfold release
  split_ifs
  · exact gain_held ..
  · exact gain_held ..
  · exact ⟨rfl, rfl⟩

/-- A held request placed marks itself alone, whoever owns the output then (R135). -/
theorem placeHeld_held (o : ToneOwner) (t : Tone) : SameHeld (t.mark o true) (t.placeHeld o) := by
  unfold placeHeld
  dsimp only
  split
  · exact gain_held ..
  · exact ⟨rfl, rfl⟩

/-- A held request withdrawn unmarks itself alone, whoever owns the output then (R135). -/
theorem withdraw_held (o : ToneOwner) (t : Tone) : SameHeld (t.mark o false) (t.withdraw o) := by
  unfold withdraw
  dsimp only
  split
  · exact release_held _
  · exact ⟨rfl, rfl⟩

theorem placeOneShot_held (o : ToneOwner) (b : Option BeepParams) (t : Tone) : SameHeld t (t.placeOneShot o b) := by
  unfold placeOneShot
  split
  · exact ⟨rfl, rfl⟩
  · exact gain_held ..

theorem stepEnd_held (t : Tone) : SameHeld t t.stepEnd := by
  unfold stepEnd
  split
  · exact ⟨rfl, rfl⟩
  split
  · exact release_held t
  · dsimp only
    split
    · exact sound_held _ _ { t with position := _ }
    · exact ⟨rfl, rfl⟩

theorem toggle_held (t : Tone) : SameHeld t t.toggle := by
  unfold toggle
  repeat' split
  all_goals exact ⟨rfl, rfl⟩

end Tone

/-! ### The law of the held tones -/

/-- The bagging alert follows the monitor, the drawer alarm the drawer, and a drawer waits for units in WAIT_SUPPLY
alone, so that a grant never leaves OPEN_ALARM (R88, R123, R128). -/
structure State.TonesLawful (s : State) : Prop where
  room : s.monitor.exceptions.length ≤ 8
  alert : s.tone.bagAlertHeld = s.monitor.alerting
  alarm : s.alarmFollows
  waits : s.supply.waiting.drawer.isSome = true → s.drawer.state = .waitSupply

/-- What the law looks at: the exceptions, SUSPENDED, the tone, the drawer's state and its waiting request. -/
structure ToneView where
  exceptions : List BagException
  suspended  : Bool
  tone       : Tone
  drawer     : DrawerState
  waiting    : Option Nat

/-- That part of a state. -/
def State.toneView (s : State) : ToneView where
  exceptions := s.monitor.exceptions
  suspended  := s.monitor.suspended
  tone       := s.tone
  drawer     := s.drawer.state
  waiting    := s.supply.waiting.drawer

/-- A later state that keeps the law. -/
structure KeepsTones (s t : State) : Prop where
  keeps : s.TonesLawful → t.TonesLawful

namespace KeepsTones

theorem refl (s : State) : KeepsTones s s := ⟨id⟩

theorem trans {a b c : State} (h : KeepsTones a b) (h' : KeepsTones b c) : KeepsTones a c :=
  ⟨h'.keeps ∘ h.keeps⟩

/-- A later state that the law cannot tell apart. -/
theorem frame {s t : State} (h : t.toneView = s.toneView) : KeepsTones s t := by
  simp only [State.toneView, ToneView.mk.injEq] at h
  obtain ⟨hx, hu, ht, hd, hw⟩ := h
  refine ⟨?_⟩
  rintro ⟨room, alert, alarm, waits⟩
  refine ⟨hx ▸ room, ?_, ?_, ?_⟩
  · simpa [Monitor.alerting, hx, hu, ht] using alert
  · simpa [State.alarmFollows, ht, hd] using alarm
  · simpa [hw, hd] using waits

/-- An earlier state that the law cannot tell apart. -/
theorem after {s s' t : State} (h : KeepsTones s' t) (hs : s'.toneView = s.toneView) : KeepsTones s t :=
  (frame hs).trans h

/-- A one-shot or a step of the pattern leaves the held requests (R134). -/
theorem withTone {s : State} {x : Tone} (h : s.tone.SameHeld x) : KeepsTones s { s with tone := x } := by
  refine ⟨?_⟩
  rintro ⟨room, alert, alarm, waits⟩
  exact ⟨room, h.2.trans alert, h.1.trans alarm, waits⟩

/-! ### The monitor -/

/-- The alert settled over a monitor with at most eight exceptions (R88). -/
theorem settled {s t : State} (hx : s.monitor.exceptions.length ≤ 8 → t.monitor.exceptions.length ≤ 8)
    (ht : t.tone = s.tone) (hd : t.drawer = s.drawer) (hw : t.supply = s.supply) :
    KeepsTones s (settleAlert t) := by
  have halarm : (settleAlert t).tone.drawerAlarmHeld = t.tone.drawerAlarmHeld := by
    unfold settleAlert
    split_ifs
    · rfl
    · exact (Tone.placeHeld_held .bagAlert t.tone).1
    · exact (Tone.withdraw_held .bagAlert t.tone).1
    · rfl
  refine ⟨?_⟩
  rintro ⟨room, alert, alarm, waits⟩
  refine ⟨?_, ?_, ?_, ?_⟩
  · simpa using hx room
  · simpa using settleAlert_bagAlertHeld t
  · simpa [State.alarmFollows, halarm, ht, hd] using alarm
  · simpa [hd, hw] using waits

theorem clearOne (x : BagException) (c : ExceptionCause) (s : State) : KeepsTones s (clearOne x c s) :=
  settled (fun h => (List.length_filter_le ..).trans h) rfl rfl rfl

/-- An exception joins the list only while there is room (R86, R87). -/
theorem raiseException (k : ExceptionKind) (e : Option Nat) (d : Option Int) (s : State) :
    KeepsTones s (raiseException k e d s) := by
  unfold Machine.raiseException
  dsimp only
  split
  · next hroom =>
    refine settled (fun _ => ?_) rfl rfl rfl
    simpa [exceptionReport, mapMonitor] using hroom
  · exact settled id rfl rfl rfl

theorem emptyMonitor (c : ExceptionCause) (n : Nat) (s : State) : KeepsTones s (emptyMonitor c n s) := by
  have hs : KeepsTones s (settleAlert (mapMonitor Monitor.emptied s)) :=
    settled (fun _ => by simp [mapMonitor, Monitor.emptied]) rfl rfl rfl
  unfold Machine.emptyMonitor
  dsimp only
  split
  · exact hs.trans (frame rfl)
  · exact hs

theorem clearNaming (k : ExceptionKind) (n : Nat) (c : ExceptionCause) (s : State) :
    KeepsTones s (clearNaming k n c s) := by
  unfold Machine.clearNaming
  split
  · exact clearOne ..
  · exact refl s

theorem clearAnyNaming (n : Nat) (c : ExceptionCause) (s : State) : KeepsTones s (clearAnyNaming n c s) := by
  unfold Machine.clearAnyNaming
  split
  · exact clearOne ..
  · exact refl s

theorem setStatus (n : Nat) (st : BaggingStatus) (c : BaggingCause) (s : State) : KeepsTones s (setStatus n st c s) :=
  frame (by simp [State.toneView])

theorem removeExpectation (n : Nat) (s : State) : KeepsTones s (removeExpectation n s) := frame rfl

theorem discardUnclaimed (s : State) : KeepsTones s (discardUnclaimed s) := frame rfl

theorem listExpectation (n : Nat) (dir : Direction) (w t : Nat) (s : State) :
    KeepsTones s (listExpectation n dir w t s) := frame rfl

theorem addExpectation (n w : Nat) (t : Option Nat) (s : State) : KeepsTones s (addExpectation n w t s) := by
  have appended (st : BaggingStatus) (u : State) : KeepsTones u (appendStatus n st u) :=
    frame (by simp [State.toneView])
  unfold Machine.addExpectation
  dsimp only
  repeat' split
  · exact (discardUnclaimed s).trans (appended ..)
  · exact (listExpectation ..).trans (appended ..)
  · exact (listExpectation ..).trans (appended ..)

theorem appendEntry (e : Entry) (s : State) : KeepsTones s (appendEntry e s) := by
  unfold Machine.appendEntry
  dsimp only
  split
  · exact (addExpectation ..).after rfl
  · exact frame (by simp [State.toneView])

theorem entryVoided (e : Entry) (s : State) : KeepsTones s (entryVoided e s) := by
  unfold Machine.entryVoided
  repeat' split
  any_goals exact refl s
  · exact ((removeExpectation ..).trans (setStatus ..)).trans (clearNaming ..)
  · exact ((removeExpectation ..).trans (setStatus ..)).trans (clearNaming ..)
  · exact (listExpectation ..).trans (setStatus ..)
  · exact (setStatus ..).trans (clearNaming ..)

theorem meetAdd (x : Expectation) (s : State) : KeepsTones s (meetAdd x s) :=
  ((removeExpectation ..).trans (setStatus ..)).trans (clearNaming ..)

theorem unclaimedGrows (d : Nat) (s : State) : KeepsTones s (unclaimedGrows d s) := by
  have grown (u : Option Unclaimed) : KeepsTones s (mapMonitor (fun m => { m with unclaimed := u }) s) := frame rfl
  unfold Machine.unclaimedGrows
  dsimp only
  split_ifs <;> split
  · exact (discardUnclaimed s).trans (meetAdd ..)
  · exact (discardUnclaimed s).trans (raiseException ..)
  · exact ((grown _).trans (discardUnclaimed _)).trans (meetAdd ..)
  · exact grown _

theorem positiveChange (d : Nat) (s : State) : KeepsTones s (positiveChange d s) := by
  unfold Machine.positiveChange
  repeat' split
  · exact (setStatus ..).trans (clearOne ..)
  · exact clearOne ..
  · exact meetAdd ..
  · exact unclaimedGrows ..

theorem negativeAfterUnclaimed (d : Nat) (s : State) : KeepsTones s (negativeAfterUnclaimed d s) := by
  unfold Machine.negativeAfterUnclaimed removalFromBasket
  repeat' split
  · exact clearOne ..
  · exact ((removeExpectation ..).trans (setStatus ..)).trans (clearNaming ..)
  · exact (setStatus ..).trans (raiseException ..)
  · exact raiseException ..

theorem bagChange (d : Int) (s : State) : KeepsTones s (bagChange d s) := by
  unfold Machine.bagChange negativeChange
  repeat' split
  · exact refl s
  · exact positiveChange ..
  · exact discardUnclaimed s
  · exact negativeAfterUnclaimed ..
  · exact negativeAfterUnclaimed ..

theorem bagTimerExpires (n : Nat) (s : State) : KeepsTones s (bagTimerExpires n s) := by
  have timed : KeepsTones s (timedOut n s) := frame rfl
  unfold Machine.bagTimerExpires
  dsimp only
  repeat' split
  · exact refl s
  · exact (timed.trans (setStatus ..)).trans (raiseException ..)
  · exact (timed.trans (setStatus ..)).trans (raiseException ..)
  · exact timed

theorem graceExpires (s : State) : KeepsTones s (graceExpires s) := by
  unfold Machine.graceExpires
  split
  · exact refl s
  · exact (discardUnclaimed s).trans (raiseException ..)

end KeepsTones
end Sys2Proof.Machine
end

section
namespace Sys2Proof.Machine
namespace KeepsTones

/-! ### Grants: a drawer is granted in WAIT_SUPPLY alone -/

/-- A waiting request granted. The drawer's leaves WAIT_SUPPLY for PULL_IN, and the alarm is held in neither (R123). -/
theorem grantUnits {r : Requester} {need : Nat} {s : State} (h : s.supply.waiting.of r = some need) (n : Nat) :
    KeepsTones s (grantUnits r n s) := by
  cases r with
  | cutter | motor | head => exact frame rfl
  | drawer =>
    refine ⟨?_⟩
    rintro ⟨room, alert, alarm, waits⟩
    have hwait : s.drawer.state = .waitSupply := waits (by simpa [Needs.of] using congrArg Option.isSome h)
    refine ⟨room, alert, ?_, fun hw => ?_⟩
    · rw [State.alarmFollows, hwait] at alarm
      exact alarm
    · cases hw

theorem walkOver (rs : List Requester) (s : State) : KeepsTones s (walkOver rs s) := by
  induction rs generalizing s with
  | nil => exact refl s
  | cons r rest ih =>
    unfold Machine.walkOver
    split
    · exact ih s
    · next need hneed =>
      split
      · exact (grantUnits hneed _).trans (ih _)
      · exact refl s

theorem walkQuietly (s : State) : KeepsTones s (walkQuietly s) := by
  unfold Machine.walkQuietly
  split
  · exact refl s
  · exact walkOver _ s

theorem drawerReport (left : DrawerState) (c : DrawerCause) (s : State) : KeepsTones s (drawerReport left c s) :=
  frame rfl

theorem walk (s : State) : KeepsTones s (walk s) := by
  unfold Machine.walk
  dsimp only
  split
  · exact (walkQuietly s).trans (drawerReport ..)
  · exact walkQuietly s

theorem requestUnits {r : Requester} (hr : r ≠ .drawer) (n : Nat) (s : State) : KeepsTones s (requestUnits r n s) := by
  have placed : KeepsTones s (placeNeed r n s) := by
    cases r with
    | drawer => exact absurd rfl hr
    | cutter | motor | head => exact frame rfl
  exact placed.trans (walk _)

theorem withdrawRequest (r : Requester) (s : State) : KeepsTones s (withdrawRequest r s) := by
  have gone : KeepsTones s { s with supply := { s.supply with waiting := s.supply.waiting.put r none } } := by
    cases r with
    | cutter | motor | head => exact frame rfl
    | drawer =>
      refine ⟨?_⟩
      rintro ⟨room, alert, alarm, -⟩
      exact ⟨room, alert, alarm, fun hw => by cases hw⟩
  unfold Machine.withdrawRequest
  split
  · exact refl s
  · exact gone.trans (walk _)

theorem settleBudget (s : State) : KeepsTones s (settleBudget s) := by
  unfold Machine.settleBudget
  split
  · exact frame rfl
  · exact refl s

theorem budgetSet (s : State) : KeepsTones s (budgetSet s) := (settleBudget s).trans (walk _)

theorem releaseUnits (r : Requester) (n : Nat) (s : State) : KeepsTones s (releaseUnits r n s) :=
  ((settleBudget _).trans (walk _)).after rfl

theorem releaseAll (r : Requester) (s : State) : KeepsTones s (releaseAll r s) := releaseUnits ..

/-! ### The drawer -/

/-- The drawer moves from a state where it does not wait to another; neither has the alarm (R128). -/
theorem moveDrawer {s : State} {d : Drawer} (hs : s.drawer.state ≠ .openAlarm) (hd : d.state ≠ .openAlarm)
    (hw : s.drawer.state ≠ .waitSupply ∨ s.supply.waiting.drawer = none) : KeepsTones s { s with drawer := d } := by
  refine ⟨?_⟩
  rintro ⟨room, alert, alarm, waits⟩
  refine ⟨room, alert, ?_, fun hsome => ?_⟩
  · rw [State.alarmFollows, beq_false_of_ne hs] at alarm
    exact alarm.trans (beq_false_of_ne hd).symm
  · obtain hw | hw := hw
    · exact absurd (waits hsome) hw
    · rw [hw] at hsome
      cases hsome

/-- The same with its report (R132). -/
theorem moveReported {s : State} {d : Drawer} (hs : s.drawer.state ≠ .openAlarm ∧ s.drawer.state ≠ .waitSupply)
    (hd : d.state ≠ .openAlarm) (left : DrawerState) (c : DrawerCause) :
    KeepsTones s (Machine.drawerReport left c { s with drawer := d }) :=
  (moveDrawer hs.1 hd (.inl hs.2)).trans (drawerReport ..)

/-- An attempt waits for its 14 units in WAIT_SUPPLY (R123). -/
theorem beginAttempt {s : State} (hs : s.drawer.state ≠ .openAlarm) (c : DrawerCause) :
    KeepsTones s (beginAttempt c s) := by
  have asks : KeepsTones s (placeNeed .drawer 14
      { s with drawer := { s.drawer with state := .waitSupply, phaseTimer := none } }) := by
    refine ⟨?_⟩
    rintro ⟨room, alert, alarm, -⟩
    rw [State.alarmFollows, beq_false_of_ne hs] at alarm
    exact ⟨room, alert, alarm, fun _ => rfl⟩
  exact (asks.trans (walkQuietly _)).trans (drawerReport ..)

theorem kick (k : KickSource) (s : State) : KeepsTones s (kick k s) := by
  unfold Machine.kick
  split
  · next hc => exact (beginAttempt (by simp [hc]) _).after rfl
  · exact frame (by simp [State.toneView])

/-- A walk leaves the drawer where it is or in PULL_IN (R139). -/
theorem walkOver_drawerState (rs : List Requester) (s : State) :
    (Machine.walkOver rs s).drawer.state = s.drawer.state ∨ (Machine.walkOver rs s).drawer.state = .pullIn := by
  induction rs generalizing s with
  | nil => exact .inl rfl
  | cons r rest ih =>
    unfold Machine.walkOver
    split
    · exact ih s
    · split
      · next units _ =>
        refine (ih _).elim (fun h => ?_) .inr
        rw [h]
        cases r with
        | drawer => exact .inr rfl
        | cutter | motor | head => exact .inl rfl
      · exact .inl rfl

theorem releaseUnits_drawerState (r : Requester) (n : Nat) (s : State) :
    (Machine.releaseUnits r n s).drawer.state = s.drawer.state ∨
      (Machine.releaseUnits r n s).drawer.state = .pullIn := by
  have hquiet (u : State) : (Machine.walk u).drawer = (Machine.walkQuietly u).drawer := by
    unfold Machine.walk
    dsimp only
    split <;> rfl
  have hwalk (u : State) :
      (Machine.walk u).drawer.state = u.drawer.state ∨ (Machine.walk u).drawer.state = .pullIn := by
    rw [hquiet]
    unfold Machine.walkQuietly
    split
    · exact .inl rfl
    · exact walkOver_drawerState _ u
  simpa [Machine.releaseUnits] using hwalk (Machine.settleBudget
    { s with supply := { s.supply with granted := s.supply.granted.sub r n } })

/-- A drive ends from PULL_IN and HOLD, where no request of the drawer waits (R124 to R126). -/
theorem endDrive {s : State} (hs : s.drawer.state = .pullIn ∨ s.drawer.state = .hold) (c : DrawerCause) :
    KeepsTones s (endDrive c s) := by
  have hreleased := releaseUnits_drawerState .drawer (s.supply.granted.of .drawer) s
  have moved (d : Drawer) (hd : d.state ≠ .openAlarm) :
      KeepsTones s { Machine.releaseAll .drawer s with drawer := d } := by
    refine (releaseAll .drawer s).trans (moveDrawer ?_ hd (.inl ?_)) <;>
      rcases hs with hs | hs <;> rcases hreleased with h | h <;> simp [Machine.releaseAll, h, hs]
  unfold Machine.endDrive
  dsimp only
  refine trans ?_ (drawerReport ..)
  split_ifs <;> exact moved _ (by simp)

theorem beginHold {s : State} (hs : s.drawer.state = .pullIn) : KeepsTones s (beginHold s) :=
  ((moveDrawer (by simp [hs]) (by simp) (.inl (by simp [hs]))).trans (releaseUnits ..)).trans (drawerReport ..)

/-- The sense opens: a request that waits is withdrawn first (R123 to R129). -/
theorem senseToOpen (s : State) : KeepsTones s (senseToOpen s) := by
  unfold Machine.senseToOpen
  split
  · next h => exact moveReported (by simp [h]) (by simp) ..
  · next h =>
    refine trans ?_ (drawerReport ..)
    unfold Machine.withdrawRequest
    split
    · next hnone => exact moveDrawer (by simp [h]) (by simp) (.inr hnone)
    · next n hsome =>
      have hu := Undrawn.walk
        (s := { s with supply := { s.supply with waiting := s.supply.waiting.put .drawer none } }) rfl
      have hw := withdrawRequest .drawer s
      simp only [Machine.withdrawRequest, hsome] at hw
      refine hw.trans (moveDrawer ?_ (by simp) (.inr hu.waiting))
      rw [hu.frame]
      simp [h]
  · next h => exact endDrive (.inr h) _
  · next h => exact moveReported (by simp [h]) (by simp) ..
  · next h => exact moveReported (by simp [h]) (by simp) ..
  all_goals exact refl s

/-- The sense closes: OPEN_ALARM is left with its alarm withdrawn (R128). -/
theorem senseToClosed (s : State) : KeepsTones s (senseToClosed s) := by
  unfold Machine.senseToClosed
  split
  · next h => exact moveReported (by simp [h]) (by simp) ..
  · next h =>
    obtain ⟨halarm, hbag⟩ := Tone.withdraw_held .drawerAlarm s.tone
    refine ⟨?_⟩
    rintro ⟨room, alert, -, waits⟩
    exact ⟨room, hbag.trans alert, halarm, fun hw => absurd ((waits hw).symm.trans h) (by simp)⟩
  all_goals exact refl s

theorem senseGiven (b : Bool) (s : State) : KeepsTones s (senseGiven b s) := by
  unfold Machine.senseGiven
  split
  · exact senseToOpen s
  · exact senseToClosed s

theorem sensePresentSet (s : State) : KeepsTones s (sensePresentSet s) := by
  unfold Machine.sensePresentSet
  split_ifs
  · exact senseGiven ..
  · exact senseToClosed s
  · exact refl s

theorem senseChanged (b : Bool) (s : State) : KeepsTones s (senseChanged b s) := by
  unfold Machine.senseChanged
  dsimp only
  split_ifs
  · exact refl s
  · exact (senseGiven ..).after rfl
  · exact frame rfl

theorem pullInEnds (s : State) : KeepsTones s (pullInEnds s) := by
  unfold Machine.pullInEnds
  split_ifs with hs
  · exact endDrive (.inl hs) _
  · exact beginHold hs
  · exact refl s

theorem holdEnds (s : State) : KeepsTones s (holdEnds s) := by
  unfold Machine.holdEnds
  split_ifs with hs
  · exact endDrive (.inr hs) _
  · exact refl s

theorem coolEnds (s : State) : KeepsTones s (coolEnds s) := by
  unfold Machine.coolEnds
  split_ifs with hs
  · exact beginAttempt (by simp [hs]) _
  · exact moveReported (by simp [hs]) (by simp) ..
  · exact refl s

/-- The alarm timer puts the drawer in OPEN_ALARM and holds the alarm (R128). -/
theorem alarmExpires (s : State) : KeepsTones s (alarmExpires s) := by
  unfold Machine.alarmExpires
  split
  · next h =>
    obtain ⟨halarm, hbag⟩ := Tone.placeHeld_held .drawerAlarm s.tone
    refine ⟨?_⟩
    rintro ⟨room, alert, -, waits⟩
    exact ⟨room, hbag.trans alert, halarm, fun hw => absurd ((waits hw).symm.trans h.1) (by simp)⟩
  · exact refl s

end KeepsTones
end Sys2Proof.Machine
end

section
namespace Sys2Proof.Machine
namespace KeepsTones

/-! ### The printer: its releases and requests alone reach the drawer -/

theorem printerReport (left : PrinterCondition) (e : PrinterEvent) (c : Option PauseCause) (s : State) :
    KeepsTones s (printerReport left e c s) := frame rfl

theorem jobReport (j : Job) (left : Option JobState) (c : JobCause) (n : Nat) (s : State) :
    KeepsTones s (jobReport j left c n s) := frame rfl

theorem setSpeed (i : Nat) (s : State) : KeepsTones s (setSpeed i s) := frame rfl

theorem requestMotor (s : State) : KeepsTones s (requestMotor s) := by
  have h := requestUnits (r := .motor) (by simp) 3 s
  unfold Machine.requestMotor
  dsimp only
  split
  · exact h.trans (frame rfl)
  · exact h

theorem rowRequest (s : State) : KeepsTones s (rowRequest s) := by
  unfold Machine.rowRequest
  split
  · exact refl s
  · split_ifs
    · exact requestUnits (by simp) _ s
    · exact requestUnits (by simp) _ s
    · exact requestMotor s

theorem beginRow (l : LineProgress) (s : State) : KeepsTones s (beginRow l s) := by
  unfold Machine.beginRow
  exact (rowRequest _).after rfl

theorem requestCut (s : State) : KeepsTones s (requestCut s) := (requestUnits (by simp) 8 _).after rfl

theorem proceed (s : State) : KeepsTones s (proceed s) := by
  have goes (l : LineProgress) : KeepsTones s (if l.rowsDone < lineRows l.record l.spacing then Machine.beginRow l s
      else if l.record = .cut then Machine.requestCut s else s) := by
    split
    · exact beginRow l s
    split
    · exact requestCut s
    · exact refl s
  unfold Machine.proceed
  split
  · exact refl s
  split
  · exact goes _
  · exact refl s

theorem giveLine (s : State) : KeepsTones s (giveLine s) := frame (by simp [State.toneView])

theorem startJob (c : JobCause) (s : State) : KeepsTones s (startJob c s) := by
  unfold Machine.startJob
  split
  · exact refl s
  · split
    · refine trans ?_ (proceed _)
      dsimp only
      split
      · exact (((giveLine _).trans (jobReport ..)).trans (printerReport ..)).after rfl
      · exact ((giveLine _).trans (jobReport ..)).after rfl
    · exact refl s

theorem acceptJob (j : Job) (s : State) : KeepsTones s (acceptJob j s) := by
  unfold Machine.acceptJob
  dsimp only
  split
  · exact (startJob ..).after rfl
  · exact frame (by simp [State.toneView])

theorem jobDone (j : Job) (rest : List Job) (s : State) : KeepsTones s (jobDone j rest s) := by
  unfold Machine.jobDone
  dsimp only
  split_ifs
  · exact frame rfl
  · exact frame rfl
  · exact frame rfl
  · exact frame rfl
  · exact (startJob ..).after rfl
  · exact (startJob ..).after rfl

theorem lineComplete (s : State) : KeepsTones s (lineComplete s) := by
  unfold Machine.lineComplete
  split
  · exact frame rfl
  · split
    · exact ((giveLine _).trans (proceed _)).after rfl
    · exact jobDone ..

theorem abandonedEnds (s : State) : KeepsTones s (abandonedEnds s) := (proceed _).after rfl

theorem afterRow (s : State) : KeepsTones s (afterRow s) := by
  unfold Machine.afterRow
  split
  · exact refl s
  · split_ifs
    · exact lineComplete s
    · exact frame (by simp [State.toneView])
    · exact proceed s

theorem phaseEnds (s : State) : KeepsTones s (phaseEnds s) := by
  unfold Machine.phaseEnds
  split
  · exact refl s
  · dsimp only
    split
    · exact ((releaseAll .head _).trans (abandonedEnds _)).after rfl
    · exact ((releaseAll .head _).trans (rowRequest _)).after rfl

theorem stepEnds (s : State) : KeepsTones s (stepEnds s) := by
  have released : KeepsTones s (Machine.releaseAll .motor { s with engine := { s.engine with stepRunning := none } }) :=
    (releaseAll ..).after rfl
  unfold Machine.stepEnds
  split
  · exact refl s
  dsimp only
  split
  · exact released.trans (abandonedEnds _)
  split
  · exact released
  split
  · exact released.trans ((requestMotor _).after rfl)
  · exact released.trans ((afterRow _).after rfl)

theorem cutEnds (s : State) : KeepsTones s (cutEnds s) := by
  have released : KeepsTones s (Machine.setSpeed 0 (Machine.releaseAll .cutter
      { s with engine := { s.engine with cutter := .rest, cutTimer := none, seenAway := false } })) :=
    ((releaseAll .cutter _).trans (setSpeed 0 _)).after rfl
  unfold Machine.cutEnds
  dsimp only
  split
  · exact released.trans (abandonedEnds _)
  · exact released.trans (lineComplete _)

theorem leaveFault (s : State) : KeepsTones s (leaveFault s) := (startJob ..).after rfl

theorem homeReturns (s : State) : KeepsTones s (homeReturns s) := by
  unfold Machine.homeReturns
  dsimp only
  split_ifs
  · exact (leaveFault _).after rfl
  · exact (cutEnds _).after rfl
  · exact frame rfl

theorem cutJams (s : State) : KeepsTones s (cutJams s) := by
  unfold Machine.cutJams
  split
  · exact ((releaseAll .cutter _).trans (printerReport ..)).after rfl
  · exact refl s

theorem causeRaised (c : PauseCause) (s : State) : KeepsTones s (causeRaised c s) := frame (by simp [State.toneView])

theorem leavePause (c : PauseCause) (s : State) : KeepsTones s (leavePause c s) := by
  have resumed (u : State) : KeepsTones u (match u.engine.line with
      | none => u
      | some l =>
        if l.interrupted ∧ u.engine.row = none then Machine.proceed (Machine.giveLine u) else Machine.proceed u) := by
    split
    · exact refl u
    · split
      · exact (giveLine u).trans (proceed _)
      · exact proceed u
  unfold Machine.leavePause
  refine trans ?_ (resumed _)
  dsimp only
  split <;> exact frame rfl

theorem causeGone (c : PauseCause) (s : State) : KeepsTones s (causeGone c s) := by
  unfold Machine.causeGone
  split
  · exact refl s
  · dsimp only
    split
    · split
      · exact frame rfl
      · exact (leavePause ..).after rfl
    all_goals exact frame rfl

theorem causeFollows (c : PauseCause) (b : Bool) (s : State) : KeepsTones s (causeFollows c b s) := by
  unfold Machine.causeFollows
  split
  · exact causeRaised ..
  · exact causeGone ..

theorem headReads (x : Int) (s : State) : KeepsTones s (headReads x s) := by
  unfold Machine.headReads
  dsimp only
  split_ifs
  · exact (causeRaised ..).after rfl
  · exact (causeGone ..).after rfl
  · exact frame rfl

theorem supplyFalls (s : State) : KeepsTones s (supplyFalls s) := by
  unfold Machine.supplyFalls
  split
  · exact refl s
  · exact (causeRaised ..).after rfl

theorem supplyRecovers (s : State) : KeepsTones s (supplyRecovers s) := by
  unfold Machine.supplyRecovers
  split
  · exact ((causeGone ..).trans (walk _)).after rfl
  · exact refl s

theorem abandonLine (s : State) : KeepsTones s (abandonLine s) :=
  (((withdrawRequest .cutter s).trans (withdrawRequest .motor _)).trans (withdrawRequest .head _)).trans
    (frame rfl)

theorem printerClear (s : State) : KeepsTones s (printerClear s) := by
  have cleared : KeepsTones s (jobsCleared s) := by
    rw [jobsCleared_eq]
    exact frame (by simp [State.toneView])
  rw [printerClear_eq]
  dsimp only
  split_ifs
  · exact cleared.trans ((leaveFault _).after rfl)
  · exact cleared.trans (frame rfl)
  · exact cleared.trans ((abandonLine _).trans (printerReport ..))
  · exact cleared.trans (abandonLine _)

end KeepsTones
end Sys2Proof.Machine
end

section
namespace Sys2Proof.Machine
namespace KeepsTones

/-! ### The requests -/

theorem placeOneShot (o : ToneOwner) (b : Option BeepParams) (s : State) : KeepsTones s (placeOneShot o b s) :=
  withTone (Tone.placeOneShot_held o b s.tone)

theorem endWeigh (r : WeighResult) (e : Option Nat) (g p : Option Int) (s : State) :
    KeepsTones s (endWeigh r e g p s) := frame (by simp [State.toneView])

theorem ignoreSwipe (s : State) : KeepsTones s (ignoreSwipe s) := frame (by simp [State.toneView])

theorem setSlot (x : CardSlot) (s : State) : KeepsTones s (setSlot x s) := frame rfl

theorem emptyHeld (s : State) : KeepsTones s (emptyHeld s) := by
  unfold Machine.emptyHeld
  split
  · exact setSlot .empty s
  · exact refl s

theorem closeSale (r : SaleRecord) (s : State) : KeepsTones s (closeSale r s) := by
  have ended (u : State) : KeepsTones u (Machine.ignoreSwipe (Machine.emptyHeld (Machine.discardUnclaimed u))) :=
    ((discardUnclaimed u).trans (emptyHeld _)).trans (ignoreSwipe _)
  unfold Machine.closeSale
  dsimp only
  refine trans ?_ (ended _)
  split
  · exact (((endWeigh ..).trans (acceptJob ..)).trans (kick ..)).after rfl
  · exact ((endWeigh ..).trans (acceptJob ..)).after rfl

theorem abandonSale (r : SaleRecord) (s : State) : KeepsTones s (abandonSale r s) :=
  ((((endWeigh ..).trans (emptyMonitor ..)).trans (setSlot .empty _)).trans (ignoreSwipe _)).after rfl

theorem startChannel (ch : ChannelId) (s : State) : KeepsTones s (startChannel ch s) := by
  rw [startChannel_eq]
  exact frame (by simp [State.toneView])

theorem zeroTaken (ch : ChannelId) (v : Int) (s : State) : KeepsTones s (zeroTaken ch v s) := by
  rw [zeroTaken_eq rfl]
  exact frame (by simp [State.toneView])

theorem calibrationStep (ch : ChannelId) (b : Bool) (r : CalRecord) (s : State) :
    KeepsTones s (calibrationStep ch b r s).1 := by
  rw [calibrationStep_eq]
  exact frame (by simp [State.toneView])

theorem settingEffect (id : Nat) (s : State) : KeepsTones s (settingEffect id s) := by
  have restarted (ch : ChannelId) : KeepsTones s (restartChannel ch s) := by
    unfold restartChannel
    split
    · exact refl s
    · exact startChannel ch s
  unfold Machine.settingEffect
  repeat' split
  all_goals first
    | exact restarted _
    | exact sensePresentSet s
    | exact budgetSet s
    | exact ignoreSwipe s
    | exact frame rfl

theorem setRequest (n : Byte) (v : SettingArg) (s : State) : KeepsTones s (setRequest n v s).1 := by
  have taken (x : SettingValue) (b : Bool) : KeepsTones s (setAnswer n.toNat x b s).1 := by
    unfold setAnswer changeSetting
    dsimp only
    split
    · exact refl s
    · exact (settingEffect ..).after rfl
  unfold Machine.setRequest
  dsimp only [refuse]
  repeat' split
  all_goals first | exact refl s | exact taken _ _

/-- Every request keeps the law: it is refused, it leaves what the law looks at, or it is made of operations that keep
it. -/
theorem request (r : Request) (s : State) : KeepsTones s (handleRequest r s).1 := by
  cases r with
  | set n v => exact setRequest n v s
  | addItem =>
    simp only [handleRequest, addItemRequest, refuse, answer]
    repeat' split
    all_goals first | exact refl s | exact appendEntry ..
  | voidEntry =>
    simp only [handleRequest, voidEntryRequest, refuse, answer]
    repeat' split
    all_goals first | exact refl s | exact ((appendEntry ..).trans (entryVoided ..)).after rfl
  | closeSale =>
    simp only [handleRequest, closeSaleRequest, refuse, answer]
    repeat' split
    all_goals first | exact refl s | exact closeSale ..
  | abandonSale =>
    simp only [handleRequest, abandonSaleRequest, refuse, done]
    repeat' split
    all_goals first | exact refl s | exact abandonSale ..
  | reprint =>
    simp only [handleRequest, reprintRequest, refuse, answer]
    repeat' split
    all_goals first | exact refl s | exact acceptJob .. | exact (acceptJob ..).after rfl
  | clearException =>
    simp only [handleRequest, clearExceptionRequest, refuse, done]
    repeat' split
    all_goals first
      | exact refl s
      | exact clearOne ..
      | exact ((removeExpectation ..).trans (setStatus ..)).trans (clearOne ..)
  | waiveBagging =>
    simp only [handleRequest, waiveBaggingRequest, refuse, done]
    repeat' split
    all_goals first
      | exact refl s
      | exact ((removeExpectation ..).trans (setStatus ..)).trans (clearAnyNaming ..)
  | bagResync =>
    simp only [handleRequest, bagResyncRequest, refuse, answer]
    split
    · exact refl s
    · have anew (g : Option Int) (u : State) : KeepsTones u { u with settledS := g } := frame rfl
      exact ((emptyMonitor ..).trans (anew ..)).after rfl
  | printText =>
    simp only [handleRequest, printTextRequest, refuse, answer]
    repeat' split
    all_goals first | exact refl s | exact acceptJob ..
  | printerClear => exact printerClear s
  | noSale =>
    simp only [handleRequest, noSaleRequest, refuse, done]
    repeat' split
    all_goals first | exact refl s | exact kick ..
  | drawerReset =>
    simp only [handleRequest, drawerResetRequest, refuse, done]
    split
    · exact refl s
    split
    · exact refl s
    · next h =>
      rw [not_not] at h
      exact moveReported (by simp [h]) (by simp) ..
  | beep =>
    simp only [handleRequest, beepRequest, refuse, done]
    repeat' split
    all_goals first | exact refl s | exact placeOneShot ..
  | calZero | calSpan | setProfile =>
    simp only [handleRequest, calZeroRequest, calZeroOn, calSpanRequest, calSpanOn, setProfileRequest, refuse]
    repeat' split
    all_goals first | exact refl s | exact calibrationStep ..
  | zero =>
    simp only [handleRequest, zeroRequest, zeroOn, refuse, done]
    repeat' split
    all_goals first | exact refl s | exact zeroTaken ..
  | _ =>
    simp only [handleRequest, readWeightRequest, setTareRequest, takeTareRequest, clearTareRequest, weighItemRequest,
      cancelWeighRequest, openSaleRequest, beginTenderRequest, resumeSaleRequest, addCashRequest, addCardTenderRequest,
      cardDecisionRequest, readSaleRequest, readEntryRequest, readTenderRequest, readBaggingRequest, releaseCardRequest,
      discardCardRequest, readCardRequest, readDrawerRequest, readSupplyRequest, readPrintQueueRequest,
      readPrinterRequest, getRequest, saveSettingsRequest, restartRequest, identifyRequest, setTareT, acceptWeigh,
      decideCard, answer, done, refuse]
    repeat' split
    all_goals first | exact refl s | exact frame (by simp [State.toneView])

/-! ### The events -/

/-- A weigh request examined: its entry may be appended; occupancy, tare and request are the scale's (R40 to R43). -/
theorem examineWeigh (o : FilterOutput) (left : Occupancy) (s : State) : KeepsTones s (examineWeigh o left s) := by
  have completes (w : WeighRequest) (f : Int) : KeepsTones s (completeWithEntry w f left s) := by
    unfold completeWithEntry
    dsimp only
    refine (appendEntry (weighedEntry w f s) s).trans ?_
    split <;> exact frame (by simp [State.toneView])
  unfold Machine.examineWeigh
  dsimp only
  repeat' split
  all_goals first | exact completes .. | exact frame (by simp [State.toneView])

theorem sampleArrives (ch : ChannelId) (x : Int) (s : State) : KeepsTones s (sampleArrives ch x s) := by
  have moved {u : State} (h : MovesOnly ch s u) : KeepsTones s u := by
    rw [h]
    cases ch <;> exact frame rfl
  obtain ⟨u, hu, h | h⟩ := sampleArrives_stages ch x s <;> rw [h]
  · exact moved hu
  · refine (moved hu).trans ?_
    cases ch with
    | platter =>
      dsimp only
      unfold platterStages
      split
      · exact refl u
      · next o _ =>
        have tracked : KeepsTones u (trackZero o u) := by
          unfold trackZero
          split
          · exact frame rfl
          · exact refl u
        exact tracked.trans ((examineWeigh ..).after rfl)
    | bag =>
      dsimp only
      unfold bagStage
      dsimp only
      repeat' split
      all_goals first
        | exact refl u
        | exact (bagChange ..).after rfl
        | exact frame rfl

theorem judgeSwipe (n a : TrackData) (s : State) : KeepsTones s (judgeSwipe n a s) := by
  unfold Machine.judgeSwipe
  split
  · exact frame rfl
  · dsimp only
    split
    · exact (placeOneShot ..).after rfl
    · exact (placeOneShot ..).after rfl

theorem swipeEnds (s : State) : KeepsTones s (swipeEnds s) := by
  have armed (u : State) : KeepsTones u (armReader u) := frame rfl
  unfold Machine.swipeEnds
  repeat' split
  · exact refl s
  · exact (judgeSwipe ..).trans (armed _)
  · exact armed s

/-- Every event of a block keeps the law. -/
theorem blockEvent {c : Instr} {f : State → State} (hf : blockEvent? c = some f) (s : State) : KeepsTones s (f s) := by
  cases c with
  | sampleArrival ch x => cases hf; exact sampleArrives ch x s
  | excitationLost ch =>
    cases hf
    simp only [excitationLeaves, setCondition_eq]
    repeat' split
    all_goals exact frame (by simp [State.toneView])
  | excitationReturn ch =>
    cases hf
    simp only [excitationReturns]
    split
    · exact startChannel ch s
    · exact refl s
  | weighTimerExpiry => cases hf; exact endWeigh ..
  | attendantSwitch on => cases hf; exact frame rfl
  | bagTimerExpiry n => cases hf; exact bagTimerExpires n s
  | graceTimerExpiry => cases hf; exact graceExpires s
  | swipeEnd => cases hf; exact swipeEnds s
  | senseChange b => cases hf; exact senseChanged b s
  | pullInEnd => cases hf; exact pullInEnds s
  | holdEnd => cases hf; exact holdEnds s
  | coolEnd => cases hf; exact coolEnds s
  | alarmTimerExpiry => cases hf; exact alarmExpires s
  | toggleCounterExpiry => cases hf; exact withTone s.tone.toggle_held
  | patternStepEnd => cases hf; exact withTone s.tone.stepEnd_held
  | supplyLow => cases hf; exact supplyFalls s
  | supplyRecovery => cases hf; exact supplyRecovers s
  | paperSensor b | coverSensor b => cases hf; exact causeFollows ..
  | headTemperature x => cases hf; exact headReads x s
  | phaseEnd => cases hf; exact phaseEnds s
  | stepEnd => cases hf; exact stepEnds s
  | homeSensorReturn => cases hf; exact homeReturns s
  | cutTimerExpiry => cases hf; exact cutJams s
  | _ =>
    cases hf <;> simp only [swipeBegins, fluxArrives, transitionInSwipe, beginSwipe, holdExpires, emptySlot,
      Machine.setSlot, pwmBoundary, paperLowChanges, homeLeaves, writeEnds]
    repeat' split
    all_goals exact frame rfl

end KeepsTones

theorem keptByRequests_tones : KeptByRequests KeepsTones where
  refl := .refl
  trans := .trans
  link _ _ := .frame rfl
  inputs _ _ := .frame rfl
  request := KeepsTones.request

/-- A part just started holds no exception and no tone, and its drawer is CLOSED or OPEN and asks for nothing (R201). -/
theorem startPart_tones (why : StartCause) (x : StartInputs) (s : State) : (startPart why x s).TonesLawful := by
  have started : (startedBlocks x s).TonesLawful := by
    refine ⟨Nat.zero_le 8, rfl, ?_, fun h => by cases h⟩
    simp only [State.alarmFollows, startedBlocks, startedDrawer_eq]
    split <;> rfl
  have reported (r : Report) (u : State) : KeepsTones u (report r u) := .frame rfl
  unfold startPart
  dsimp only
  split
  · exact (reported ..).keeps started
  · exact ((reported ..).trans (reported ..)).keeps started

/-- A step keeps the law of the held tones. -/
theorem step_tones {s t : State} (hs : s.TonesLawful) (h : step s = .next t) : t.TonesLawful := by
  unfold step at h
  split at h
  · next c rest _ =>
    have hlaw : ({ s with pending := rest } : State).TonesLawful :=
      (KeepsTones.frame rfl : KeepsTones s { s with pending := rest }).keeps hs
    have ended (u : State) : KeepsTones u (endEvent u) := .frame rfl
    cases c with
    | powerOn x => cases h; exact (ended _).keeps (startPart_tones ..)
    | powerLoss =>
      cases h
      have lost (u : State) : KeepsTones u (losePower u) := .frame rfl
      split
      · exact (lost _).keeps hlaw
      · exact hlaw
    | restartCarriedOut x =>
      cases h
      obtain he | he := asEvent_cases (restartHappens x) { s with pending := rest } <;> rw [he]
      · exact hlaw
      · refine (ended _).keeps ?_
        unfold restartHappens
        split
        · exact startPart_tones ..
        · exact hlaw
    | _ => exact (keptByRequests_tones.exec rfl (fun f hf => KeepsTones.blockEvent hf _) h).keeps hlaw
  · cases h
    unfold idle
    split
    · exact ⟨hs.room, hs.alert, hs.alarm, hs.waits⟩
    · exact hs

/-- Settles O12: the law of the held tones follows from the three premises, every step keeps it, and it gives both
conclusions. -/
theorem stepKeepsHeldTones : Obligations.StepKeepsHeldTones := by
  rintro s t ⟨-, hwaits⟩ ⟨hroom, halert⟩ halarm h
  have hlaw : s.TonesLawful := by
    refine ⟨hroom, halert, halarm, fun hsome => ?_⟩
    rw [hwaits] at hsome
    by_contra hstate
    simp [hstate] at hsome
  obtain ⟨room, alert, alarm, -⟩ := step_tones hlaw h
  exact ⟨⟨room, alert⟩, alarm⟩

end Sys2Proof.Machine
end

section
namespace Sys2Proof.Machine

/-! ### What a request gives of a card (R112, R116) -/

/-- An answer that carries track data comes from an ATTACHED slot, which it leaves RELEASED; an answer that waits for a
store write leaves the reply slot as it was. -/
structure ReleasesCard (s : State) (x : State × Answer) : Prop where
  card : ∀ st d m, x.2 = .reply st (.cardRelease d m) →
    s.reader.slot = .attached d m ∧ x.1.reader.slot = .released d.source m
  deferred : x.2 = .deferred → x.1.link.reply = s.link.reply

/-- The fields that carry track data (R116). -/
def ReplyFields.ofCard : ReplyFields → Bool
  | .cardRelease _ _ => true
  | _ => false

/-- An answer at once without track data. -/
theorem ReleasesCard.other (s t : State) (st : Status) {f : ReplyFields} (h : f.ofCard = false := by rfl) :
    ReleasesCard s (t, .reply st f) where
  card := by
    rintro st' d m heq
    injection heq with _ hf
    rw [hf] at h
    cases h
  deferred heq := by cases heq

theorem ReleasesCard.waiting {s t : State} (h : t.link.reply = s.link.reply) : ReleasesCard s (t, .deferred) where
  card _ _ _ heq := by cases heq
  deferred _ := h

theorem releaseCard_releasesCard (s : State) : ReleasesCard s (releaseCardRequest s) := by
  unfold releaseCardRequest
  split
  · next d m h =>
    refine ⟨fun st d' m' heq => ?_, fun heq => by cases heq⟩
    injection heq with _ hf
    injection hf with hd hm
    subst hd hm
    exact ⟨h, rfl⟩
  · exact .other ..

theorem calibrationStep_releasesCard (ch : ChannelId) (b : Bool) (r : CalRecord) (s : State) :
    ReleasesCard s (calibrationStep ch b r s) := by
  rw [calibrationStep_eq]
  exact .waiting (by dsimp only; split <;> simp)

theorem readWeight_releasesCard (n : Byte) (s : State) : ReleasesCard s (readWeightRequest n s) := by
  unfold readWeightRequest
  split
  · exact .other ..
  · next ch _ => cases ch <;> exact .other ..

/-- RELEASE_CARD alone answers with track data. -/
theorem handleRequest_releasesCard (r : Request) (s : State) : ReleasesCard s (handleRequest r s) := by
  cases r with
  | releaseCard => exact releaseCard_releasesCard s
  | readWeight n => exact readWeight_releasesCard n s
  | saveSettings => exact .waiting rfl
  | calZero | calSpan | setProfile =>
    simp only [handleRequest, calZeroRequest, calZeroOn, calSpanRequest, calSpanOn, setProfileRequest, refuse]
    repeat' split
    all_goals first | exact calibrationStep_releasesCard .. | exact .other ..
  | _ =>
    simp only [handleRequest, zeroRequest, zeroOn, setTareRequest, takeTareRequest, clearTareRequest, weighItemRequest,
      cancelWeighRequest, openSaleRequest, addItemRequest, voidEntryRequest, beginTenderRequest, resumeSaleRequest,
      addCashRequest, addCardTenderRequest, cardDecisionRequest, closeSaleRequest, abandonSaleRequest, reprintRequest,
      readSaleRequest, readEntryRequest, readTenderRequest, clearExceptionRequest, waiveBaggingRequest,
      bagResyncRequest, readBaggingRequest, discardCardRequest, readCardRequest, noSaleRequest, drawerResetRequest,
      readDrawerRequest, beepRequest, readSupplyRequest, printTextRequest, printerClearRequest, readPrintQueueRequest,
      readPrinterRequest, setRequest, setAnswer, getRequest, restartRequest, identifyRequest, answer, done, refuse]
    repeat' split
    all_goals exact .other ..

end Sys2Proof.Machine
end

section
namespace Sys2Proof.Machine

/-! ### The shared operations leave the reply slot as it was (R190) -/

theorem OnlyReports.reply {s t : State} (h : OnlyReports s t) : t.link.reply = s.link.reply := by rw [h]

@[simp] theorem setCondition_reply (ch : ChannelId) (k : ChannelCondition) (s : State) :
    (setCondition ch k s).link.reply = s.link.reply := by
  unfold setCondition
  dsimp only
  split <;> simp

@[simp] theorem startChannel_reply (ch : ChannelId) (s : State) : (startChannel ch s).link.reply = s.link.reply := by
  simp [startChannel]

@[simp] theorem endWeigh_reply (r : WeighResult) (e : Option Nat) (g p : Option Int) (s : State) :
    (endWeigh r e g p s).link.reply = s.link.reply := (OnlyReports.endW r e g p s).reply

@[simp] theorem setStatus_reply (n : Nat) (st : BaggingStatus) (c : BaggingCause) (s : State) :
    (setStatus n st c s).link.reply = s.link.reply := (OnlyReports.status n st c s).reply

@[simp] theorem raiseException_reply (k : ExceptionKind) (e : Option Nat) (d : Option Int) (s : State) :
    (raiseException k e d s).link.reply = s.link.reply := (OnlyReports.raise k e d s).reply

@[simp] theorem clearOne_reply (x : BagException) (c : ExceptionCause) (s : State) :
    (clearOne x c s).link.reply = s.link.reply := (OnlyReports.clear x c s).reply

@[simp] theorem clearNaming_reply (k : ExceptionKind) (n : Nat) (c : ExceptionCause) (s : State) :
    (clearNaming k n c s).link.reply = s.link.reply := by
  unfold clearNaming
  split
  · exact clearOne_reply ..
  · rfl

@[simp] theorem appendEntry_reply (e : Entry) (s : State) : (appendEntry e s).link.reply = s.link.reply := by
  unfold appendEntry addExpectation appendStatus
  dsimp only
  repeat' split
  all_goals simp

@[simp] theorem walk_reply (s : State) : (walk s).link.reply = s.link.reply := (OnlyReports.walk s).reply

@[simp] theorem withdrawRequest_reply (r : Requester) (s : State) :
    (withdrawRequest r s).link.reply = s.link.reply := by
  unfold withdrawRequest
  split
  · rfl
  · simp

@[simp] theorem settleBudget_reply (s : State) : (settleBudget s).link.reply = s.link.reply := by
  unfold settleBudget
  split <;> simp

@[simp] theorem releaseAll_reply (r : Requester) (s : State) : (releaseAll r s).link.reply = s.link.reply := by
  simp [releaseAll, releaseUnits]

@[simp] theorem endDrive_reply (c : DrawerCause) (s : State) : (endDrive c s).link.reply = s.link.reply := by
  unfold endDrive drawerReport
  dsimp only
  repeat' split
  all_goals simp

@[simp] theorem senseGiven_reply (b : Bool) (s : State) : (senseGiven b s).link.reply = s.link.reply := by
  unfold senseGiven senseToOpen senseToClosed drawerReport
  repeat' split
  all_goals simp

@[simp] theorem requestMotor_reply (s : State) : (requestMotor s).link.reply = s.link.reply :=
  (OnlyReports.motor s).reply

@[simp] theorem rowRequest_reply (s : State) : (rowRequest s).link.reply = s.link.reply := (OnlyReports.row s).reply

@[simp] theorem proceed_reply (s : State) : (proceed s).link.reply = s.link.reply := (OnlyReports.proceed s).reply

@[simp] theorem startJob_reply (c : JobCause) (s : State) : (startJob c s).link.reply = s.link.reply :=
  (OnlyReports.start c s).reply

@[simp] theorem lineComplete_reply (s : State) : (lineComplete s).link.reply = s.link.reply := by
  unfold lineComplete jobDone jobReport printerReport
  dsimp only
  repeat' split
  all_goals simp

@[simp] theorem rowEnds_reply (r : RowProgress) (s : State) : (rowEnds r s).link.reply = s.link.reply := by
  unfold rowEnds afterRow
  dsimp only
  repeat' split
  all_goals simp

@[simp] theorem leavePause_reply (c : PauseCause) (s : State) : (leavePause c s).link.reply = s.link.reply := by
  unfold leavePause jobReport printerReport
  dsimp only
  repeat' split
  all_goals simp

@[simp] theorem causeRaised_reply (c : PauseCause) (s : State) : (causeRaised c s).link.reply = s.link.reply := by
  unfold causeRaised enterPause jobReport printerReport
  dsimp only
  repeat' split
  all_goals simp

@[simp] theorem causeGone_reply (c : PauseCause) (s : State) : (causeGone c s).link.reply = s.link.reply := by
  unfold causeGone printerReport
  dsimp only
  repeat' split
  all_goals simp

/-! ### The events of the blocks leave the reply slot as it was -/

@[simp] theorem bagChange_reply (d : Int) (s : State) : (bagChange d s).link.reply = s.link.reply := by
  have up (n : Nat) (u : State) : (positiveChange n u).link.reply = u.link.reply := by
    unfold positiveChange unclaimedGrows meetAdd
    dsimp only
    repeat' split
    all_goals simp
  have down (n : Nat) (u : State) : (negativeAfterUnclaimed n u).link.reply = u.link.reply := by
    unfold negativeAfterUnclaimed removalFromBasket
    repeat' split
    all_goals simp
  unfold bagChange negativeChange
  repeat' split
  all_goals simp [up, down]

@[simp] theorem examineWeigh_reply (o : FilterOutput) (left : Occupancy) (s : State) :
    (examineWeigh o left s).link.reply = s.link.reply := by
  have reported (u : State) : (occupancyReport left u).link.reply = u.link.reply := by
    unfold occupancyReport
    split <;> simp
  unfold examineWeigh completeWithEntry
  dsimp only
  repeat' split
  all_goals simp [reported]

theorem sampleArrives_reply (ch : ChannelId) (x : Int) (s : State) :
    (sampleArrives ch x s).link.reply = s.link.reply := by
  have judged (o : FilterOutput) (u : State) : (judgeCondition ch o u).link.reply = u.link.reply := by
    unfold judgeCondition leaveStarting
    dsimp only
    repeat' split
    all_goals simp
  have platter (u : State) : (platterStages u).link.reply = u.link.reply := by
    unfold platterStages trackZero
    repeat' split
    all_goals simp
  have bag (u : State) : (bagStage u).link.reply = u.link.reply := by
    unfold bagStage
    dsimp only
    repeat' split
    all_goals simp
  unfold sampleArrives filterOutput
  dsimp only
  repeat' split
  all_goals simp [judged, platter, bag]

theorem swipeEnds_reply (s : State) : (swipeEnds s).link.reply = s.link.reply := by
  unfold swipeEnds judgeSwipe
  dsimp only
  repeat' split
  all_goals simp

/-- No event of a block fills or empties the reply slot but the end of a store write, whose reply carries no field
(R191). -/
theorem blockEvent_reply {c : Instr} {f : State → State} (hf : blockEvent? c = some f) (hc : c ≠ .writeEnd) (s : State) :
    (f s).link.reply = s.link.reply := by
  cases c with
  | writeEnd => exact absurd rfl hc
  | sampleArrival ch x => cases hf; exact sampleArrives_reply ch x s
  | swipeEnd => cases hf; exact swipeEnds_reply s
  | excitationReturn ch =>
    cases hf
    unfold excitationReturns
    split
    · exact startChannel_reply ch s
    · rfl
  | _ =>
    cases hf <;> simp only [excitationLeaves, weighTimerExpires, bagTimerExpires, graceExpires, swipeBegins, holdExpires,
      fluxArrives, transitionInSwipe, senseChanged, pullInEnds, beginHold, releaseUnits, holdEnds, pwmBoundary, coolEnds,
      beginAttempt, drawerReport, alarmExpires, supplyFalls, supplyRecovers, causeFollows, paperLowChanges,
      printerReport, headReads, phaseEnds, abandonedEnds, stepEnds, homeReturns, leaveFault, cutEnds, cutJams,
      homeLeaves]
    repeat' split
    all_goals simp

end Sys2Proof.Machine
end

section
namespace Sys2Proof.Machine

/-! ### One dispatch at most, and what it leaves of a card (R116, R190) -/

/-- No request has been dispatched: the card slot, the reply slot and the openness of dispatch are as they were. -/
structure Undispatched (s t : State) : Prop where
  slot : t.reader.slot = s.reader.slot
  reply : t.link.reply = s.link.reply
  gate : t.link.dispatchOpen = s.link.dispatchOpen

/-- One request has been dispatched: dispatch was open and is shut, and track data in the reply slot came from the card
slot. -/
structure Dispatched (s t : State) : Prop where
  opened : s.link.dispatchOpen = true
  shut : t.link.dispatchOpen = false
  card : ∀ r d m, t.link.reply = some r → r.fields = .cardRelease d m →
    s.reader.slot = .attached d m ∧ t.reader.slot = .released d.source m

/-- A request at most has been dispatched. -/
def DispatchesOnce (s t : State) : Prop := Undispatched s t ∨ Dispatched s t

theorem Undispatched.refl (s : State) : Undispatched s s := ⟨rfl, rfl, rfl⟩

theorem Undispatched.trans {a b c : State} (h : Undispatched a b) (h' : Undispatched b c) : Undispatched a c :=
  ⟨h'.slot.trans h.slot, h'.reply.trans h.reply, h'.gate.trans h.gate⟩

/-- A dispatch shuts dispatch until its reply has been sent, so a second one cannot follow (R190). -/
theorem DispatchesOnce.trans {a b c : State} (h : DispatchesOnce a b) (h' : DispatchesOnce b c) :
    DispatchesOnce a c := by
  obtain h | h := h <;> obtain h' | h' := h'
  · exact .inl (h.trans h')
  · exact .inr ⟨h.gate ▸ h'.opened, h'.shut, fun r d m hr hd => h.slot ▸ h'.card r d m hr hd⟩
  · refine .inr ⟨h.opened, h'.gate.trans h.shut, fun r d m hr hd => ?_⟩
    rw [h'.slot]
    exact h.card r d m (h'.reply ▸ hr) hd
  · exact absurd h.shut (by simp [h'.opened])

/-- The end of an event dispatches nothing (R194). -/
theorem endEvent_undispatched (s : State) : Undispatched s (endEvent s) := by
  obtain h | ⟨-, h⟩ | ⟨r, rest, -, -, h⟩ := choose_cases s.link <;> exact ⟨rfl, by simp [h], by simp [h, Link.dispatchOpen]⟩

theorem report_undispatched (r : Report) (s : State) : Undispatched s (report r s) :=
  ⟨rfl, by simp, by simp [Link.dispatchOpen]⟩

/-- What an answer settled leaves: dispatch is shut by the reply or by WRITING (R190, R191). -/
theorem settleAnswer_dispatched {s : State} {x : State × Answer} (hs : s.link.dispatchOpen = true)
    (hx : ReleasesCard s x) (kind tag : Byte) : Dispatched s (settleAnswer kind tag x) := by
  obtain ⟨t, _ | _⟩ := x
  · refine ⟨hs, by simp [settleAnswer, formReply, Link.dispatchOpen], fun r d m hr hd => ?_⟩
    cases hr
    subst hd
    exact hx.card _ d m rfl
  · refine ⟨hs, by simp [settleAnswer, Link.dispatchOpen], fun r d m hr _ => ?_⟩
    have hnone : t.link.reply = none := (hx.deferred rfl).trans ((dispatchOpen_iff _).1 hs).2.1
    exact absurd (hnone.symm.trans hr) (by simp)

theorem takeRequest_dispatched {s : State} (hs : s.link.dispatchOpen = true) (tag : Byte) (r : Request) :
    Dispatched s (takeRequest tag r s) := settleAnswer_dispatched hs (handleRequest_releasesCard r s) ..

theorem takeFrame_dispatched {s : State} (hs : s.link.dispatchOpen = true) (f : Frame) :
    Dispatched s (takeFrame f s) := by
  refine settleAnswer_dispatched hs ?_ ..
  unfold handleFrame
  split
  · exact .other ..
  · exact .other ..
  · exact handleRequest_releasesCard _ s

theorem dispatchNext_once (s : State) : DispatchesOnce s (dispatchNext s) := by
  obtain h | ⟨f, rest, ho, -, h⟩ := dispatchNext_cases s <;> rw [h]
  · exact .inl (.refl s)
  · obtain ⟨-, hshut, hcard⟩ := takeFrame_dispatched (s := setSlots rest s) ho f
    exact .inr ⟨ho, hshut, hcard⟩

theorem frameArrives_once (f : Frame) (s : State) : DispatchesOnce s (frameArrives f s) := by
  refine .trans (.inl ?_) (dispatchNext_once _)
  obtain ⟨-, h⟩ | ⟨-, h⟩ := offerFrame_cases f s <;> rw [h]
  · exact ⟨rfl, rfl, rfl⟩
  · exact report_undispatched ..

theorem requestArrives_once (tag : Byte) (r : Request) (s : State) : DispatchesOnce s (requestArrives tag r s) := by
  unfold requestArrives
  split
  · next h => exact .inr (takeRequest_dispatched h.1 tag r)
  · exact frameArrives_once _ s

theorem endFrame_undispatched (why : LinkErrorReason) (s : State) : Undispatched s (endFrame why s) :=
  .trans (b := huntAgain s) ⟨rfl, rfl, rfl⟩ (report_undispatched ..)

theorem endFrameInside_undispatched (why : LinkErrorReason) (s : State) : Undispatched s (endFrameInside why s) := by
  unfold endFrameInside
  split
  · exact .refl s
  · exact endFrame_undispatched why s

theorem byteArrives_once (b : Byte) (s : State) : DispatchesOnce s (byteArrives b s) := by
  have kept (x : Receiver) : DispatchesOnce s (keepReceiving x s) := .inl ⟨rfl, rfl, rfl⟩
  have ended (why : LinkErrorReason) : DispatchesOnce s (endFrame why s) := .inl (endFrame_undispatched why s)
  unfold byteArrives eofPlace
  dsimp only
  repeat' split
  case h_7.isFalse.isFalse =>
    exact .trans (b := huntAgain s) (.inl ⟨rfl, rfl, rfl⟩) (frameArrives_once _ _)
  all_goals first | exact kept _ | exact ended _ | exact .inl (.refl s)

theorem charArrives_once (c : LineChar) (s : State) : DispatchesOnce s (charArrives c s) := by
  unfold charArrives
  split
  · exact byteArrives_once _ s
  · exact .inl (endFrameInside_undispatched _ s)

theorem bytesArrive_once (bs : List Byte) (s : State) : DispatchesOnce s (bytesArrive bs s) := by
  induction bs generalizing s with
  | nil => exact .inl (.refl s)
  | cons b bs ih => exact ((byteArrives_once b s).trans (.inl (endEvent_undispatched _))).trans (ih _)

/-! ### The law of card data -/

/-- A part just started holds no reply (R196). -/
theorem startPart_reply (why : StartCause) (x : StartInputs) (s : State) : (startPart why x s).link.reply = none := by
  unfold startPart
  dsimp only
  split <;> simp [startedBlocks, startedLink]

/-- Track data that has come into the reply slot came from an ATTACHED card slot, which is RELEASED (R112, R116). -/
def CardLaw (s t : State) : Prop :=
  ∀ r d m, t.link.reply = some r → r.fields = .cardRelease d m → s.link.reply ≠ some r →
    s.reader.slot = .attached d m ∧ t.reader.slot = .released d.source m

namespace CardLaw

theorem once {s t : State} (h : DispatchesOnce s t) : CardLaw s t := by
  intro r d m hr hd hne
  obtain h | h := h
  · exact absurd (h.reply ▸ hr) hne
  · exact h.card r d m hr hd

theorem kept {s t : State} (h : t.link.reply = s.link.reply) : CardLaw s t :=
  fun _ _ _ hr _ hne => absurd (h ▸ hr) hne

theorem noReply {s t : State} (h : t.link.reply = none) : CardLaw s t :=
  fun _ _ _ hr => absurd (h.symm.trans hr) (by simp)

/-- A state before with the same card slot, whose reply slot holds the same reply or whose reply has gone since. -/
theorem before {s s' t : State} (h : CardLaw s' t) (hslot : s'.reader.slot = s.reader.slot)
    (hreply : s'.link.reply = s.link.reply ∨ s'.link.reply = none) : CardLaw s t := by
  intro r d m hr hd hne
  rw [← hslot]
  refine h r d m hr hd ?_
  obtain h | h := hreply <;> rw [h]
  · exact hne
  · simp

theorem event {f : State → State} {s : State} (h : CardLaw s (f s)) : CardLaw s (asEvent f s) := by
  obtain he | he := asEvent_cases f s <;> rw [he]
  · exact kept rfl
  · have hend := endEvent_undispatched (f s)
    intro r d m hr hd hne
    rw [hend.slot]
    exact h r d m (hend.reply ▸ hr) hd hne

theorem writeEnds (s : State) : CardLaw s (writeEnds s) := by
  unfold Machine.writeEnds
  split
  · exact kept rfl
  · intro r d m hr hd
    cases hr
    cases hd

theorem replyEnds (s : State) : CardLaw s (replyEnds s) := by
  unfold Machine.replyEnds
  split
  · split_ifs
    · exact noReply rfl
    · exact noReply rfl
    · exact (once (dispatchNext_once _)).before rfl (.inr rfl)
  · exact kept rfl

theorem lineChanges (s : State) : CardLaw s (lineChanges s) := by
  unfold Machine.lineChanges
  split
  · have h := endFrameInside_undispatched .rateChange { s with link := s.link.lineChanged }
    exact (once (dispatchNext_once _)).before h.slot (.inl h.reply)
  · exact kept rfl

theorem exec {c : Instr} {s t : State} (h : exec c s = .next t) : CardLaw s t := by
  suffices hk : ∃ u, Machine.exec c s = .next u ∧ CardLaw s u by
    obtain ⟨u, hu, hk⟩ := hk
    rw [h] at hu
    cases hu
    exact hk
  cases hq : c.request? with
  | some q =>
    obtain ⟨tag, r⟩ := q
    obtain h' | ⟨e, h'⟩ := exec_request hq s
    · exact ⟨_, h', event (once (requestArrives_once tag r s))⟩
    · exact ⟨_, h', event ((once (requestArrives_once tag r _)).before rfl (.inl rfl))⟩
  | none =>
    cases he : blockEvent? c with
    | some f =>
      refine ⟨_, exec_blockEvent he s, event ?_⟩
      by_cases hw : c = .writeEnd
      · subst hw
        cases he
        exact writeEnds s
      · exact kept (blockEvent_reply he hw s)
    | none =>
      cases c with
      | powerOn x => exact ⟨_, rfl, noReply (by rw [(endEvent_undispatched _).reply]; exact startPart_reply ..)⟩
      | powerLoss => exact ⟨_, rfl, kept (by split <;> rfl)⟩
      | restartCarriedOut x =>
        refine ⟨_, rfl, event ?_⟩
        unfold restartHappens
        split
        · exact noReply (startPart_reply ..)
        · exact kept rfl
      | unknownRequest kind tag body => exact ⟨_, rfl, event (once (frameArrives_once _ s))⟩
      | frameGap => exact ⟨_, rfl, event (once (.inl (endFrameInside_undispatched .frameGap s)))⟩
      | lineBreak => exact ⟨_, rfl, event (once (.inl (endFrameInside_undispatched .lineBreak s)))⟩
      | replySent => exact ⟨_, rfl, event (replyEnds s)⟩
      | reportSent => exact ⟨_, rfl, event (kept (by unfold reportEnds; split <;> rfl))⟩
      | lineSettingsChange => exact ⟨_, rfl, event (lineChanges s)⟩
      | characterReceived x => exact ⟨_, rfl, event (once (charArrives_once x s))⟩
      | receiveFrame bs =>
        refine ⟨_, rfl, ?_⟩
        split
        · exact once (bytesArrive_once bs s)
        · exact kept rfl
      | _ => cases hq <;> cases he

end CardLaw

/-- Settles O17: a command dispatches one request at most, RELEASE_CARD alone answers with track data, and nothing else
fills the reply slot with it. -/
theorem cardDataLeavesOnce : Obligations.CardDataLeavesOnce :=
  fun _ _ _ r d m h hr hd hne => CardLaw.exec h r d m hr hd hne

end Sys2Proof.Machine
end

section
namespace Sys2Proof.Machine

/-! ### The transmitter's choice, case by case (R194) -/

section
variable {l : Link}

theorem choose_reply {r : Reply} (ht : l.transmitter = .idle) (hl : l.lineChangeDue = false) (hr : l.restart ≠ .due)
    (h : l.reply = some r) : l.choose = { l with transmitter := .sendingReply } := by
  rw [choose_withReply l r h hl hr, ht]
  rfl

theorem choose_report {r : QueuedReport} {rest : List QueuedReport} (ht : l.transmitter = .idle)
    (hl : l.lineChangeDue = false) (hr : l.restart ≠ .due) (h : l.reply = none) (hq : l.reports = r :: rest) :
    l.choose = { l with transmitter := .sendingReport r, reports := rest } := by
  simp [Link.choose, ht, hl, hr, h, hq]

theorem choose_nothing (h : l.reply = none) (hq : l.reports = []) : l.choose = l := by
  unfold Link.choose
  cases l.transmitter <;> simp [h, hq]

/-- Between the end of a reply and what it makes due the transmitter waits (R195, R202). -/
theorem choose_waits (h : l.lineChangeDue = true ∨ l.restart = .due) : l.choose = l := by
  unfold Link.choose
  cases l.transmitter <;> obtain h | h := h <;> simp [h]

/-- An event of the link alone ends with the choice on the link it leaves (R194). -/
theorem asEvent_link {f : State → State} {s : State} {l' : Link} (hp : s.powered = true) (h : f s = { s with link := l })
    (hc : l.choose = l') : asEvent f s = { s with link := l' } := by
  rw [asEvent_powered hp, h, ← hc]
  rfl

end

/-- A reply that ends with nothing asked for opens dispatch again (R190, R191). -/
theorem replyEnds_plain {s : State} (ht : s.link.transmitter = .sendingReply) (hr : s.link.restart = .none)
    (hp : s.link.pendingLine = none) : replyEnds s = dispatchNext { s with link := s.link.replyGone } := by
  simp [replyEnds, ht, hr, hp]

theorem dispatchNext_empty {s : State} (h : s.link.slots = []) : dispatchNext s = s := by
  simp [dispatchNext, h]

theorem dispatchNext_takes {s : State} {f : Frame} {rest : List Frame} (ho : s.link.dispatchOpen = true)
    (h : s.link.slots = f :: rest) : dispatchNext s = takeFrame f (setSlots rest s) := by
  simp [dispatchNext, ho, h]

/-- Settles O28: the reply's end goes on with what was asked for, or with dispatch; a report's end goes on with the
transmitter's choice. -/
theorem sendingEnds : Obligations.SendingEnds := by
  intro s hp hl
  have reply {l l' : Link} (h : replyEnds s = { s with link := l }) (hc : l.choose = l') :
      exec .replySent s = .next { s with link := l' } := congrArg _ (asEvent_link hp h hc)
  refine ⟨fun ht hr hline hs => ?_, fun f rest ht hr hline hd hs => ?_, fun ht hr => ?_, fun l ht hr hline => ?_,
    fun q ht hr => ?_⟩
  · have hgone := (replyEnds_plain ht hr hline).trans (dispatchNext_empty hs)
    exact ⟨fun hq => reply hgone (choose_nothing rfl hq),
      fun r rest hq => reply hgone (choose_report rfl hl (by simp [Link.replyGone, hr]) rfl hq)⟩
  · have hopen : s.link.replyGone.dispatchOpen = true := (dispatchOpen_iff _).2 ⟨hd, rfl, hr, hl⟩
    have htakes := (replyEnds_plain ht hr hline).trans (dispatchNext_takes hopen hs)
    exact congrArg _ ((asEvent_powered hp).trans (congrArg endEvent htakes))
  · exact reply (l := { s.link.replyGone with restart := .due }) (by simp [replyEnds, ht, hr]) (choose_waits (.inr rfl))
  · exact reply (l := { s.link.replyGone with lineChangeDue := true }) (by simp [replyEnds, ht, hr, hline])
      (choose_waits (.inl rfl))
  · have report {l : Link} (hc : ({ s.link with transmitter := .idle } : Link).choose = l) :
        exec .reportSent s = .next { s with link := l } :=
      congrArg _ (asEvent_link hp (by simp [reportEnds, ht]) hc)
    have hdue : s.link.restart ≠ .due := by simp [hr]
    exact ⟨fun r h => report (choose_reply rfl hl hdue h), fun h hq => report (choose_nothing h hq),
      fun r rest h hq => report (choose_report rfl hl hdue h hq)⟩

end Sys2Proof.Machine
end

section
namespace Sys2Proof.Machine

/-! ### The card slot (R114 to R118) -/

theorem releaseCard_attached {s : State} {d : CardData} {m : MaskedAccount} (h : s.reader.slot = .attached d m) :
    releaseCardRequest s = answer (.cardRelease d m) (setSlot (.released d.source m) s) := by
  simp [releaseCardRequest, h]

theorem releaseCard_refused {s : State} (h : ∀ d m, s.reader.slot ≠ .attached d m) :
    releaseCardRequest s = refuse .noCard s := by
  unfold releaseCardRequest
  split
  · next hs => exact absurd hs (h _ _)
  · rfl

/-- Settles O50: each request and the hold timer's end by the state of the slot. -/
theorem cardSlotRequests : Obligations.CardSlotRequests := by
  intro s tag d m x h ha slot
  have unreleased (hs : ∀ d m, s.reader.slot ≠ .attached d m) :
      exec (.releaseCard tag) s = .next (s.replies 0x1D tag .noCard .empty) :=
    exec_refused ha rfl rfl (releaseCard_refused hs)
  have undiscarded (hs : s.reader.slot.takesCard = false) :
      exec (.discardCard tag) s = .next (s.replies 0x1E tag .badState .empty) :=
    exec_refused ha rfl rfl (if_neg (by simp [hs]))
  have discarded (hs : s.reader.slot.takesCard = true) :
      exec (.discardCard tag) s = .next ((slot .empty).replies 0x1E tag .ok .empty) :=
    exec_granted ha rfl rfl (if_pos hs)
  have expires {t : State} (ht : holdExpires s = t) : exec .holdTimerExpiry s = .next (endEvent t) :=
    congrArg _ ((asEvent_powered ha.1).trans (congrArg _ ht))
  refine ⟨fun hs => ⟨?_, undiscarded (by rw [hs]; rfl), expires (by simp [holdExpires, hs])⟩,
    fun hs => ⟨unreleased (by simp [hs]), discarded (by rw [hs]; rfl), expires ?_⟩,
    fun hs => ⟨unreleased (by simp [hs]), undiscarded (by rw [hs]; rfl)⟩,
    fun hs => ⟨unreleased (by simp [hs]), ?_⟩⟩
  · exact exec_granted ha rfl rfl (releaseCard_attached hs)
  · simp only [holdExpires, hs]
    rfl
  · have hself : slot .empty = s := by simp only [slot, ← hs]
    exact hself ▸ discarded (by rw [hs]; rfl)

end Sys2Proof.Machine
end

section
namespace Sys2Proof.Machine

/-! ### What a track gives (R103 to R106) -/

theorem parseTrack_forward {f : TrackFormat} {bits : List Bool} {x : PassOutcome} (h : parsePass f bits = x)
    (hx : x ≠ .failed .noStart) : parseTrack f bits = (x, .forward) := by
  subst h
  unfold parseTrack
  split
  · next h => exact absurd h hx
  · rfl

theorem parseTrack_reverse {f : TrackFormat} {bits : List Bool} (h : parsePass f bits = .failed .noStart) :
    parseTrack f bits = (parsePass f bits.reverse, .reverse) := by
  simp [parseTrack, h]

/-- The status of a track that is not GOOD: the decoder's own end comes before the pass's (R106). -/
def Track.endStatus (y : Track) (st : TrackStatus) : TrackStatus :=
  match y.decoder with
  | .clockLost _ => .clockLost
  | .tooLong _ => .tooLong
  | _ => st

theorem result_good {k : HeadId} {y : Track} {chars : List Nat} {dir : SwipeDirection} (hs : y.seen = true)
    (h : parseTrack (trackFormat k) y.bits = (.good chars, dir)) :
    y.result k = { status := .good, chars := chars, direction := some dir } := by
  simp [Track.result, hs, h]

theorem result_failed {k : HeadId} {y : Track} {st : TrackStatus} {dir : SwipeDirection} (hs : y.seen = true)
    (h : parseTrack (trackFormat k) y.bits = (.failed st, dir)) :
    y.result k = { status := y.endStatus st, chars := [], direction := none } := by
  unfold Track.result Track.endStatus
  simp only [hs, h, Bool.true_eq_false, if_false]
  cases y.decoder <;> rfl

/-- A pass that finds a start gives the track in the direction it was read. -/
theorem result_of_pass {k : HeadId} {y : Track} {bits : List Bool} {st : TrackStatus} {chars : List Nat}
    {dir : SwipeDirection} (hs : y.seen = true)
    (h : parseTrack (trackFormat k) y.bits = (parsePass (trackFormat k) bits, dir))
    (hp : stripePasses k bits st chars) :
    (st = .good → y.result k = { status := .good, chars := chars, direction := some dir }) ∧
      (st ≠ .good → y.result k = { status := y.endStatus st, chars := [], direction := none }) := by
  rw [parsePass_of_stripePasses k bits st chars hp] at h
  unfold PassOutcome.of at h
  exact ⟨fun hg => result_good hs (by rw [h, if_pos hg]), fun hg => result_failed hs (by rw [h, if_neg hg])⟩

theorem outcome_ne_noStart {st : TrackStatus} {chars : List Nat} (h : st ≠ .noStart) :
    PassOutcome.of st chars ≠ .failed .noStart := by
  unfold PassOutcome.of
  split <;> simp [h]

theorem result_forward {k : HeadId} {y : Track} {st : TrackStatus} {chars : List Nat} (hs : y.seen = true)
    (hp : stripePasses k y.bits st chars) :
    (st = .good → y.result k = { status := .good, chars := chars, direction := some .forward }) ∧
      (st ≠ .good → st ≠ .noStart → y.result k = { status := y.endStatus st, chars := [], direction := none }) := by
  have hpass := parsePass_of_stripePasses k y.bits st chars hp
  have hboth (hst : st ≠ .noStart) := result_of_pass hs
    (parseTrack_forward rfl (by rw [hpass]; exact outcome_ne_noStart hst)) hp
  exact ⟨fun hg => (hboth (by simp [hg])).1 hg, fun hg hn => (hboth hn).2 hg⟩

theorem result_reverse {k : HeadId} {y : Track} {st : TrackStatus} {chars : List Nat} (hs : y.seen = true)
    (hn : stripePasses k y.bits .noStart []) (hp : stripePasses k y.bits.reverse st chars) :
    (st = .good → y.result k = { status := .good, chars := chars, direction := some .reverse }) ∧
      (st ≠ .good → y.result k = { status := y.endStatus st, chars := [], direction := none }) :=
  result_of_pass hs (parseTrack_reverse (parsePass_of_stripePasses k y.bits .noStart [] hn)) hp

/-! ### The account and its mask (R107 to R109) -/

/-- A digit as the mod-10 sum takes it at place i from the right (R108). -/
def luhnDigit (digits : List Nat) (i : Nat) : Nat :=
  let d := digits.reverse.getD i 0
  if i % 2 = 0 then d else if 9 < 2 * d then 2 * d - 9 else 2 * d

theorem modTenPasses_iff (digits : List Nat) :
    modTenPasses digits = true ↔ ((List.range digits.length).map (luhnDigit digits)).sum % 10 = 0 := by
  simp only [modTenPasses, beq_iff_eq, checkSum_as_sum, List.length_reverse, Bool.false_eq_true, if_false, add_zero]
  rfl

theorem accountOf_numeric {n a : TrackData} {used : List Nat} (hn : n.status = .good) (h13 : 13 ∉ used)
    (hc : n.chars = used ∨ ∃ after, n.chars = used ++ 13 :: after) :
    accountOf n a = checkAccount .numeric 0 used := by
  rw [accountOf, if_pos hn, beforeSeparator_of 13 n.chars used h13 hc]

theorem accountOf_alpha {n a : TrackData} {used : List Nat} (hn : n.status ≠ .good) (ha : a.status = .good)
    (h62 : 62 ∉ used) (hc : a.chars.drop 1 = used ∨ ∃ after, a.chars.drop 1 = used ++ 62 :: after) :
    accountOf n a = checkAccount .alpha 16 used := by
  rw [accountOf, if_neg hn, if_pos ha, beforeSeparator_of 62 (a.chars.drop 1) used h62 hc]

theorem checkAccount_character {src : Source} {base : Nat} {used : List Nat}
    (h : ∃ v ∈ used, v < base ∨ base + 9 < v) : checkAccount src base used = .bad .accountCharacter (some src) := by
  rw [checkAccount, digitsOf_none base used h]

/-- Digits are checked by their count and then by their sum (R107, R108). -/
theorem checkAccount_digits {digits : List Nat} (h : ∀ d ∈ digits, d ≤ 9) (src : Source) (base : Nat) :
    checkAccount src base (digits.map (· + base)) =
      if ¬(12 ≤ digits.length ∧ digits.length ≤ 19) then .bad .accountLength (some src)
      else if modTenPasses digits then .good digits src
      else .bad .accountCheck (some src) := by
  rw [checkAccount, digitsOf_some base digits h]

theorem maskedOf_append (front : List Nat) (w1 w2 w3 w4 : Nat) :
    maskedOf (front ++ [w1, w2, w3, w4]) = { length := front.length + 4, last4 := [w1, w2, w3, w4] } := by
  simp [maskedOf]

/-! ### An interval given to the decoder (R100 to R102) -/

section
variable {t : Track} {i p : Nat}

theorem seek_short {a : List Nat} (h : a.length < 6) : seek a = .seeking a := if_pos h

theorem seek_locks {i1 i2 i3 i4 i5 : Nat} (hp : p = (i3 + i4 + i5 + i) / 4) (hlow : 40 ≤ p) (hhigh : p ≤ 2000)
    (h3 : i3 < 65535) (h4 : i4 < 65535) (h5 : i5 < 65535) (hi : i < 65535) :
    seek [i1, i2, i3, i4, i5, i] = .locked p none := by
  have hstart : startingPeriod [i1, i2, i3, i4, i5, i] = some p := by
    simp [startingPeriod, saturatedInterval, ← hp]
    omega
  simp [seek, hstart]

theorem seek_starts_anew {i1 i2 i3 i4 i5 : Nat} (hp : p = (i3 + i4 + i5 + i) / 4)
    (h : p < 40 ∨ 2000 < p ∨ 65535 ≤ i3 ∨ 65535 ≤ i4 ∨ 65535 ≤ i5 ∨ 65535 ≤ i) :
    seek [i1, i2, i3, i4, i5, i] = .seeking [] := by
  have hstart : startingPeriod [i1, i2, i3, i4, i5, i] = none := by
    simp [startingPeriod, saturatedInterval, ← hp]
    omega
  simp [seek, hstart]

theorem interval_seeking {a : List Nat} {d : Decoder} (h : t.decoder = .seeking a) (hd : seek (a ++ [i]) = d) :
    t.interval i = { t with decoder := d } := by
  simp [Track.interval, h, hd]

theorem interval_saturated {half : Option Nat} (h : t.decoder = .locked p half) (hi : 65535 ≤ i) :
    t.interval i = { t with decoder := .clockLost p } := by
  simp [Track.interval, h, saturatedInterval, hi]

theorem interval_half (h : t.decoder = .locked p none) (hi : i < 65535) (hs : 4 * i < 3 * p) :
    t.interval i = { t with decoder := .locked p (some i) } := by
  simp [Track.interval, h, saturatedInterval, longInterval, hi.not_ge, hs.not_ge]

theorem interval_whole {u : Track} (h : t.decoder = .locked p none) (hi : i < 65535) (hl : 3 * p ≤ 4 * i)
    (hu : t.appendBit false p ((3 * p + i) / 4) = u) : t.interval i = u := by
  simp [Track.interval, h, saturatedInterval, longInterval, hi.not_ge, hl, hu]

theorem interval_lost {f : Nat} (h : t.decoder = .locked p (some f)) (hl : 3 * p ≤ 4 * i) :
    t.interval i = { t with decoder := .clockLost p } := by
  simp [Track.interval, h, longInterval, hl]

theorem interval_second_half {f : Nat} {u : Track} (h : t.decoder = .locked p (some f)) (hi : i < 65535)
    (hs : 4 * i < 3 * p) (hu : t.appendBit true p ((3 * p + f + i) / 4) = u) : t.interval i = u := by
  simp [Track.interval, h, saturatedInterval, longInterval, hi.not_ge, hs.not_ge, hu]

theorem interval_stays (h : t.decoder = .clockLost p ∨ t.decoder = .tooLong p) : t.interval i = t := by
  obtain h | h := h <;> simp [Track.interval, h]

theorem appendBit_room {b : Bool} {next : Nat} (h : t.bits.length < 1024) :
    t.appendBit b p next = { t with bits := t.bits ++ [b], decoder := .locked next none } := if_pos h

theorem appendBit_full {b : Bool} {next : Nat} (h : 1024 ≤ t.bits.length) :
    t.appendBit b p next = { t with decoder := .tooLong p } := if_neg (by omega)

end

/-! ### The swipe (R97 to R99) -/

/-- One head's track in a swipe with the other's kept and the gap timer restarted (R98). -/
def Reader.restarted (h : HeadId) (y : Track) (c : Reader) : Reader :=
  { c with
    gapTimer := 20
    alpha := if h = .numeric then c.alpha else y
    numeric := if h = .numeric then y else c.numeric }

theorem track_eq (c : Reader) (h : HeadId) : c.track h = if h = .numeric then c.numeric else c.alpha := by
  cases h <;> rfl

/-- A transition that yields no interval restarts both timers alone (R97, R98). -/
theorem transitionInSwipe_first {h : HeadId} {e : Nat} {s : State} {x : Track} (hx : s.reader.track h = x)
    (hn : x.seen = false ∨ s.reader.decoded = false) :
    transitionInSwipe h e s = { s with reader := s.reader.restarted h { x with timer := 0, seen := true } } := by
  unfold transitionInSwipe
  dsimp only
  rw [hx, if_neg (by simp; intro h; simpa [h] using hn)]
  cases h <;> rfl

/-- Every other transition of a decoded swipe gives its interval to the decoder (R97, R99). -/
theorem transitionInSwipe_interval {h : HeadId} {e : Nat} {s : State} {x y : Track} (hx : s.reader.track h = x)
    (hseen : x.seen = true) (hdec : s.reader.decoded = true)
    (hy : ({ x with timer := 0, seen := true } : Track).interval (min 65535 (x.timer + e)) = y) :
    transitionInSwipe h e s = { s with reader := s.reader.restarted h y } := by
  unfold transitionInSwipe
  dsimp only
  rw [hx, if_pos (by simp [hseen, hdec]), hy]
  cases h <;> rfl

theorem swipeDecodes_eq (s : State) :
    swipeDecodes s = (decide (s.sale.current ≠ .idle) && s.store.live.cardReaderEnable) := by
  unfold swipeDecodes State.live
  cases s.sale.current <;> simp [CurrentSale.state]

/-- A track as a swipe's first transition leaves it: the transition is on the head `h` (R98). -/
def Track.atBegin (h k : HeadId) (t : Track) : Track :=
  if h = k then { timer := 0, seen := true, decoder := .seeking [], bits := [] }
  else { timer := t.timer, seen := false, decoder := .seeking [], bits := [] }

theorem beginSwipe_eq (h : HeadId) (s : State) :
    beginSwipe h s = { s with reader :=
      { gap := .swipe
        decoded := decide (s.sale.current ≠ .idle) && s.store.live.cardReaderEnable
        gapTimer := 20
        alpha := s.reader.alpha.atBegin h .alpha
        numeric := s.reader.numeric.atBegin h .numeric
        slot := s.reader.slot } } := by
  unfold beginSwipe
  dsimp only
  rw [swipeDecodes_eq]
  cases h <;> rfl

/-! ### The end of a swipe (R98, R110, R111) -/

section
variable {n a : TrackData} {s : State}

theorem judgeSwipe_bad {reason : BadReason} {src : Option Source} (h : accountOf n a = .bad reason src) :
    judgeSwipe n a s = report (.cardRead .bad n.status a.status n.direction a.direction (some reason) src none none) s := by
  simp [judgeSwipe, h]

theorem judgeSwipe_held {digits : List Nat} {src : Source} (h : accountOf n a = .good digits src)
    (hs : s.reader.slot.takesCard = true) :
    judgeSwipe n a s = { s with
      reader := { s.reader with
        slot := .held { numeric := n, alpha := a, digits := digits, source := src } (maskedOf digits)
          (s.store.live.cardHold * 1000) }
      tone := s.tone.placeOneShot .cardBeep none
      link := s.link.push (.cardRead .good n.status a.status n.direction a.direction none (some src)
        (some (maskedOf digits)) (some s.reader.slot.isHeld)) } := by
  simp only [judgeSwipe, h, hs, if_true]
  rfl

theorem judgeSwipe_busy {digits : List Nat} {src : Source} (h : accountOf n a = .good digits src)
    (hs : s.reader.slot.takesCard = false) :
    judgeSwipe n a s = { s with
      tone := s.tone.placeOneShot .cardBeep none
      link := s.link.push (.cardRead .ignoredBusy n.status a.status n.direction a.direction none (some src)
        (some (maskedOf digits)) none) } := by
  simp only [judgeSwipe, h, hs]
  rfl

theorem swipeEnds_ignored (hg : s.reader.gap = .swipe) (hd : s.reader.decoded = false) : swipeEnds s = armReader s := by
  simp [swipeEnds, hg, hd]

theorem swipeEnds_judged {t : State} (hg : s.reader.gap = .swipe) (hd : s.reader.decoded = true)
    (ht : judgeSwipe (s.reader.numeric.result .numeric) (s.reader.alpha.result .alpha) s = t) :
    swipeEnds s = armReader t := by
  simp [swipeEnds, hg, hd, ht]

end

end Sys2Proof.Machine
end

section
namespace Sys2Proof.Machine

/-- Settles O51: the track and the account by the laws of a parse pass, the decoder interval by interval, and the swipe's
end by the account. -/
theorem swipeRules : Obligations.SwipeRules := by
  refine ⟨?_, ?_, maskedOf_append, ?_⟩
  · intro k y st chars kept
    exact ⟨fun hs => by simp [Track.result, hs], fun hs => result_forward hs, fun hs => result_reverse hs⟩
  · intro n a taken
    refine ⟨fun hn ha => by rw [accountOf, if_neg hn, if_neg ha], fun src base used hsrc => ?_⟩
    have hacc : accountOf n a = checkAccount src base used := by
      obtain ⟨rfl, rfl, hn, hsep, hc⟩ | ⟨rfl, rfl, hn, ha, hsep, hc⟩ := hsrc
      · exact accountOf_numeric hn hsep hc
      · exact accountOf_alpha hn ha hsep hc
    rw [hacc]
    refine ⟨checkAccount_character, ?_⟩
    intro digits hd hu fromRight sum
    rw [hu, checkAccount_digits hd]
    have hsum : modTenPasses digits = true ↔ sum % 10 = 0 := modTenPasses_iff digits
    refine ⟨fun hlen => if_pos (by omega), fun h12 h19 hbad => ?_, fun h12 h19 hgood => ?_⟩
    · rw [if_neg (by simp [h12, h19]), if_neg (mt hsum.1 hbad)]
    · rw [if_neg (by simp [h12, h19]), if_pos (hsum.2 hgood)]
  intro s h e hp c x i goes begun
  have event {f : State → State} {t : State} (hf : f s = t) : asEvent f s = endEvent t := by rw [asEvent_powered hp, hf]
  have hx : s.reader.track h = x := track_eq c h
  have swiped (hg : c.gap = .swipe) : fluxArrives h e s = transitionInSwipe h e s := by
    unfold fluxArrives
    rw [hg]
  refine ⟨?_, ?_, ?_, ?_, ?_, ?_⟩
  · intro harmed t ht
    have hbegin := (beginSwipe_eq h s).trans ht.symm
    have hgap : s.reader.gap = .armed := harmed
    refine ⟨congrArg _ (event ?_), congrArg _ (event ?_)⟩
    · simpa only [swipeBegins, hgap] using hbegin
    · simpa only [fluxArrives, hgap] using hbegin
  · intro hg
    have hgap : s.reader.gap = .swipe := hg
    exact congrArg _ (event (by simp only [swipeBegins, hgap]))
  · intro hg hn
    exact congrArg _ (event ((swiped hg).trans (transitionInSwipe_first hx hn)))
  · intro hg hseen hdec
    have fed {d : Decoder} {bits : List Bool}
        (hy : ({ x with timer := 0, seen := true } : Track).interval i = { timer := 0, seen := true, decoder := d, bits := bits }) :
        goes d bits := congrArg _ (event ((swiped hg).trans (transitionInSwipe_interval hx hseen hdec hy)))
    refine ⟨fun a ha hlen => ?_, fun i1 i2 i3 i4 i5 p hsix hper => ⟨fun hlow hhigh h3 h4 h5 hi => ?_, fun hfar => ?_⟩,
      fun p half hlock => ⟨fun hi => ?_, fun hi hnone => ?_, fun f hi hsome => ?_⟩, fun p hstop => ?_⟩
    · exact fed (interval_seeking ha (seek_short (by simp; omega)))
    · exact fed (interval_seeking hsix (seek_locks hper hlow hhigh h3 h4 h5 hi))
    · exact fed (interval_seeking hsix (seek_starts_anew hper hfar))
    · exact fed (interval_saturated hlock hi)
    · subst hnone
      exact ⟨fun hs => fed (interval_half hlock hi hs),
        fun hl hroom => fed (interval_whole hlock hi hl (appendBit_room hroom)),
        fun hl hfull => fed (interval_whole hlock hi hl (appendBit_full hfull))⟩
    · subst hsome
      exact ⟨fun hl => fed (interval_lost hlock hl),
        fun hs hroom => fed (interval_second_half hlock hi hs (appendBit_room hroom)),
        fun hs hfull => fed (interval_second_half hlock hi hs (appendBit_full hfull))⟩
    · exact fed (interval_stays hstop)
  · intro hg
    have hgap : s.reader.gap = .armed := hg
    exact congrArg _ (event (by simp only [swipeEnds, hgap]))
  · intro armed hg harm
    subst harm
    have ends {t u : State} (ht : swipeEnds s = armReader t) (hu : armReader t = u) :
        exec .swipeEnd s = .next (endEvent u) := congrArg _ (event (ht.trans hu))
    refine ⟨fun hd => ends (swipeEnds_ignored hg hd) rfl, ?_⟩
    rintro n a hd rfl rfl
    exact ⟨fun digits src hacc => ⟨fun htakes => ends (swipeEnds_judged hg hd (judgeSwipe_held hacc htakes)) rfl,
      fun hbusy => ends (swipeEnds_judged hg hd (judgeSwipe_busy hacc hbusy)) rfl⟩,
      fun reason src hacc => ends (swipeEnds_judged hg hd (judgeSwipe_bad hacc)) rfl⟩

end Sys2Proof.Machine
end

section
namespace Sys2Proof.Machine

/-! ### The 36 settings as a table (R197) -/

/-- The live settings in id order, as GET returns them. -/
def Settings.table (v : Settings) : List SettingValue :=
  [.number v.platterSampleRate, .number v.bagSampleRate, .number v.platterFilterLen, .number v.bagFilterLen,
    .number v.platterStableLen, .number v.bagStableLen, .number v.bagBand, .number v.bagThreshold,
    .number v.weighTimeout, .number (onOff v.tarePerItem), .number v.bagTolAbs, .number v.bagTolPct,
    .number v.bagTimeout, .number v.bagGrace, .number (onOff v.cardReaderEnable), .number v.cardHold,
    .number (onOff v.drawerSensePresent), .number (onOff v.drawerCloseRequired), .number v.drawerPullMs,
    .number v.drawerHoldMs, .number v.drawerHoldDuty, .number v.drawerAlarmS, .number v.supplyBudget,
    .number v.amountDecimals, .text v.header1, .text v.header2, .text v.header3, .text v.header4, .text v.trailer1,
    .text v.trailer2, .text v.trailer3, .text v.trailer4, .number v.printDensity, .number v.lineSpacing,
    .number v.linkRate, .number v.linkParity.number]

theorem get_eq_table (v : Settings) (id : Nat) : v.get id = v.table[id]? := by
  by_cases h : id < 36
  · interval_cases id <;> rfl
  · rw [List.getElem?_eq_none (by simpa [Settings.table] using h)]
    unfold Settings.get
    split <;> first | omega | rfl

theorem settingKind_none {id : Nat} (h : 36 ≤ id) : settingKind id = none := by
  unfold settingKind
  split <;> first | omega | rfl

theorem settingKind_text {id : Nat} (h : 24 ≤ id) (h' : id ≤ 31) : settingKind id = some .text := by
  interval_cases id <;> rfl

/-- The numbers a kind takes; `clampGap` never gives less than 0 (R198). -/
def SettingKind.Takes : SettingKind → Int → Prop
  | .range low high, x => low ≤ x ∧ x ≤ high
  | .gap, x => 0 ≤ x
  | .member values _, x => x ∈ values
  | .text, _ => False

/-- A range is not empty, and a default is a member. -/
def SettingKind.Sound : SettingKind → Prop
  | .range low high => low ≤ high
  | .member values default => default ∈ values
  | .gap | .text => True

theorem settingKind_lt {id : Nat} {k : SettingKind} (hk : settingKind id = some k) : id < 36 := by
  by_contra h
  rw [settingKind_none (by omega)] at hk
  cases hk

theorem settingKind_sound {id : Nat} {k : SettingKind} (hk : settingKind id = some k) : k.Sound := by
  have hid := settingKind_lt hk
  interval_cases id <;> cases hk <;> simp [SettingKind.Sound]

theorem clampGap_eq (v : Int) :
    clampGap v = if v ≤ 0 then 0 else if v ≤ 5 then 5 else if v ≤ 120 then v else 120 := by
  unfold clampGap
  split_ifs <;> omega

/-- The value taken for a number sent is one that the kind takes (R198). -/
theorem takes_of_taken {k : SettingKind} {v x : Int} (hs : k.Sound) (hx : takenNumber k v = some x) : k.Takes x := by
  cases k with
  | range low high =>
    cases hx
    simp only [SettingKind.Takes, SettingKind.Sound, clampTo] at *
    split_ifs <;> omega
  | gap =>
    cases hx
    simp only [SettingKind.Takes, clampGap_eq]
    split_ifs <;> omega
  | member values default =>
    cases hx
    simp only [SettingKind.Takes]
    split_ifs with h
    · simpa using h
    · exact hs
  | text => cases hx

/-- A number that the setting of an id can hold: the ids of texts hold none, a switch holds 0 or 1, the parity 0 to 2
(R197). -/
structure SettingHolds (id : Nat) (x : Int) : Prop where
  numeric : id ≤ 23 ∨ 32 ≤ id ∧ id ≤ 35
  nonneg : 0 ≤ x
  switch : id ∈ [9, 14, 16, 17] → x = 0 ∨ x = 1
  parity : id = 35 → x = 0 ∨ x = 1 ∨ x = 2

/-- The value a SET takes is one that its setting can hold: the table of R197 gives each id its kind. -/
theorem holds_of_taken {id : Nat} {k : SettingKind} {v x : Int} (hk : settingKind id = some k)
    (hx : takenNumber k v = some x) : SettingHolds id x := by
  have htakes := takes_of_taken (settingKind_sound hk) hx
  have hid := settingKind_lt hk
  interval_cases id <;> cases hk <;> simp [SettingKind.Takes] at htakes <;> constructor <;> grind

theorem putNumber_table (v : Settings) {id : Nat} {x : Int} (h : SettingHolds id x) :
    (v.put id (.number x)).table = v.table.set id (.number x) := by
  obtain ⟨hid, hnonneg, hswitch, hparity⟩ := h
  have hnat : (x.toNat : Int) = x := Int.toNat_of_nonneg hnonneg
  have hbool (h : id ∈ [9, 14, 16, 17]) : onOff (x == 1) = x := by
    obtain rfl | rfl := hswitch h <;> rfl
  have hpar (h : id = 35) : (parityOf x).number = x := by
    obtain rfl | rfl | rfl := hparity h <;> rfl
  have hlt : id < 36 := by omega
  interval_cases id <;> simp_all [Settings.put, Settings.putNumber, Settings.table]

theorem putText_table (v : Settings) {id : Nat} (t : List Byte) (h : 24 ≤ id) (h' : id ≤ 31) :
    (v.put id (.text t)).table = v.table.set id (.text t) := by
  interval_cases id <;> rfl

/-- A setting written in its place of the table is read back, and no other moves (R198, R199). -/
theorem get_of_table {v w : Settings} {id : Nat} {y : SettingValue} (hid : id < 36) (h : w.table = v.table.set id y) :
    w.get id = some y ∧ ∀ j, j ≠ id → w.get j = v.get j := by
  simp only [get_eq_table, h]
  exact ⟨List.getElem?_set_self hid, fun j hj => List.getElem?_set_ne (Ne.symm hj)⟩

end Sys2Proof.Machine
end

section
namespace Sys2Proof.Machine

/-! ### What a change of a setting does beyond the live value (R99, R120, R125, R142, R195) -/

theorem settingEffect_none {id : Nat} (h : id ∉ [0, 1, 2, 3, 4, 5, 14, 16, 20, 22, 34, 35]) (s : State) :
    settingEffect id s = s := by
  unfold settingEffect
  split <;> first | rfl | simp at h

/-- With nothing waiting a walk grants nothing and reports nothing (R139). -/
theorem walk_of_none_waiting {s : State} (h : s.supply.waiting = ⟨none, none, none, none⟩) : walk s = s := by
  have hquiet : walkQuietly s = s := by
    unfold walkQuietly
    split
    · rfl
    · exact walkOver_quiet _ s h
  rw [walk, hquiet]
  rw [if_neg]
  rintro ⟨hwait, hpull⟩
  exact absurd (hwait.symm.trans hpull) (by simp)

theorem budgetSet_taken {s : State} (h : s.supply.waiting = ⟨none, none, none, none⟩) (h0 : s.supply.granted.total = 0)
    (hb : s.store.live.supplyBudget ≠ s.supply.budget) :
    budgetSet s = { s with
      supply := { s.supply with budget := s.store.live.supplyBudget }
      link := s.link.push (.supplyState s.supply.low s.supply.low .budget s.store.live.supplyBudget 0) } := by
  have hsettle : settleBudget s = { s with
      supply := { s.supply with budget := s.store.live.supplyBudget }
      link := s.link.push (.supplyState s.supply.low s.supply.low .budget s.store.live.supplyBudget 0) } :=
    if_pos ⟨h0, hb⟩
  rw [budgetSet, hsettle]
  exact walk_of_none_waiting h

theorem budgetSet_waits {s : State} (h : s.supply.waiting = ⟨none, none, none, none⟩) (h0 : s.supply.granted.total ≠ 0) :
    budgetSet s = s := by
  have hsettle : settleBudget s = s := if_neg fun hc => h0 hc.1
  rw [budgetSet, hsettle]
  exact walk_of_none_waiting h

section
variable {s : State}

theorem sensePresent_off_opened (hoff : s.store.live.drawerSensePresent = false) (hd : s.drawer.state = .opened) :
    sensePresentSet s = { s with
      drawer := { s.drawer with state := .closed, phaseTimer := none, alarmTimer := none }
      link := s.link.push (.drawerState .closed .opened .senseClosed s.drawer.attempts none) } := by
  simp only [sensePresentSet, State.live, hoff, Bool.false_eq_true, if_false, hd, true_or, if_true, senseToClosed]
  rfl

theorem sensePresent_off_alarm (hoff : s.store.live.drawerSensePresent = false) (hd : s.drawer.state = .openAlarm) :
    sensePresentSet s = { s with
      drawer := { s.drawer with state := .closed, phaseTimer := none, alarmTimer := none }
      tone := s.tone.withdraw .drawerAlarm
      link := s.link.push (.drawerState .closed .openAlarm .senseClosed s.drawer.attempts none) } := by
  simp only [sensePresentSet, State.live, hoff, Bool.false_eq_true, if_false, hd, or_true, if_true, senseToClosed]
  rfl

/-- A drawer that is not open is told of a CLOSED sense without effect (R120, R128). -/
theorem sensePresent_closed (hd : s.drawer.state ∉ [DrawerState.opened, .openAlarm])
    (hs : s.store.live.drawerSensePresent = false ∨ s.drawer.senseOpen = false) : sensePresentSet s = s := by
  have hclosed : senseToClosed s = s := by
    unfold senseToClosed
    split <;> simp_all
  unfold sensePresentSet senseGiven State.live
  simp at hd
  obtain h | h := hs
  · simp [h, hd]
  · simp [h, hd, hclosed]

theorem sensePresent_on_open (hon : s.store.live.drawerSensePresent = true) (hs : s.drawer.senseOpen = true)
    (hd : s.drawer.state = .closed) :
    sensePresentSet s = { s with
      drawer := { s.drawer with
        state := .opened
        phaseTimer := none
        alarmTimer := if s.store.live.drawerAlarmS = 0 then none else some (s.store.live.drawerAlarmS * 1000) }
      link := s.link.push (.drawerState .opened .closed .forced s.drawer.attempts none) } := by
  have hopen : sensePresentSet s = drawerReport .closed .forced (enterOpen s) := by
    simp only [sensePresentSet, State.live, hon, hs, if_true, senseGiven, senseToOpen, hd]
  exact hopen

theorem ignoreSwipe_eq (s : State) :
    ignoreSwipe s = if s.reader.gap = .swipe ∧ s.reader.decoded = true then
      { s with reader := { s.reader with
        decoded := false
        alpha := { s.reader.alpha with bits := [] }
        numeric := { s.reader.numeric with bits := [] } } } else s := rfl

end

/-! ### A SET by the form of its value (R198) -/

theorem settingKind_ne_text {id : Nat} (h : id ≤ 23 ∨ 32 ≤ id) : settingKind id ≠ some .text := by
  unfold settingKind
  split <;> first | omega | simp

theorem putText_same {v : Settings} {id : Nat} {t : List Byte} (h : 24 ≤ id) (h' : id ≤ 31)
    (hv : v.get id = some (.text t)) : v.put id (.text t) = v := by
  cases v
  interval_cases id <;> cases hv <;> rfl

section
variable {id : Byte} {s : State}

theorem setRequest_text {chars : List Byte} (h : 24 ≤ id.toNat) (h' : id.toNat ≤ 31) :
    setRequest id (.text chars) s =
      if 32 < chars.length then refuse .badValue s
      else (changeSetting id.toNat (.text (printableText chars)) s,
        .reply (if printableText chars = chars then .ok else .adjusted) (.setting id.toNat (.text (printableText chars)))) := by
  simp [setRequest, settingKind_text h h', setAnswer]

theorem setRequest_text_misfit {chars : List Byte} (h : id.toNat ≤ 23 ∨ 32 ≤ id.toNat) :
    setRequest id (.text chars) s = refuse .badLength s := by
  cases hk : settingKind id.toNat with
  | none => simp [setRequest, hk]
  | some k =>
    cases k with
    | text => exact absurd hk (settingKind_ne_text h)
    | _ => simp [setRequest, hk]

theorem setRequest_number_misfit {v : Wide} (h : 24 ≤ id.toNat) (h' : id.toNat ≤ 31) :
    setRequest id (.number v) s = refuse .badLength s := by
  simp [setRequest, settingKind_text h h']

theorem setRequest_unknown {v : Wide} (h : 36 ≤ id.toNat) : setRequest id (.number v) s = refuse .notFound s := by
  simp [setRequest, settingKind_none h]

/-- A text taken becomes the live value and does nothing else (R198). -/
theorem changeSetting_text {t : List Byte} (h : 24 ≤ id.toNat) (h' : id.toNat ≤ 31) :
    changeSetting id.toNat (.text t) s = setLive (s.store.live.put id.toNat (.text t)) s := by
  unfold changeSetting
  split
  · next hsame => rw [putText_same (v := s.store.live) h h' hsame]; rfl
  · exact settingEffect_none (by simp; omega) _

end

end Sys2Proof.Machine
end

section
namespace Sys2Proof.Machine

/-- Settles O30: the tables of R197, then a SET by the kind of its id and its effect, and GET. -/
theorem setAndGet : Obligations.SetAndGet := by
  refine ⟨rfl, fun id => settingKind_none, fun v => rfl, rfl, fun low high v => rfl,
    fun v => congrArg some (clampGap_eq v), fun xs d v => ?_, ?_⟩
  · simp [takenNumber]
  intro s tag id v chars y ha sets refuses becomes onlyThis
  have replies {a : SettingArg} {st : Status} {y : SettingValue} {t : State}
      (h : setRequest id a s = (t, .reply st (.setting id.toNat y)))
      (hl : t.link.lineChangeDue = s.link.lineChangeDue) (hr : t.link.restart = s.link.restart) : sets a st y t :=
    exec_replies ha rfl rfl h hl hr
  have refused {a : SettingArg} {st : Status} (h : setRequest id a s = refuse st s) : refuses a st :=
    exec_refused ha rfl rfl h
  have get {st : Status} {f : ReplyFields} (h : getRequest id s = (s, .reply st f)) :
      exec (.get tag id) s = .next (s.replies 0x2A tag st f) := exec_replies ha rfl rfl h rfl rfl
  refine ⟨?_, fun h h' => ⟨fun hlong => ?_, fun hfits hy => ?_, refused (setRequest_number_misfit h h')⟩,
    fun h => refused (setRequest_text_misfit h), fun h => ⟨refused (setRequest_unknown h), ?_⟩, fun h => ?_⟩
  · intro k x hk hx st t shut
    have hholds := holds_of_taken hk hx
    have number (u : State) (h : changeSetting id.toNat (.number x) s = u)
        (hl : u.link.lineChangeDue = s.link.lineChangeDue) (hr : u.link.restart = s.link.restart) :
        sets (.number v) st (.number x) u := replies ((setRequest_number hk hx s).trans (by rw [h])) hl hr
    refine ⟨get_of_table (settingKind_lt hk) (putNumber_table _ hholds), fun hsame => number s (if_pos hsame) rfl rfl,
      fun hnew => ?_⟩
    have effect {u : State} (h : settingEffect id.toNat t = u) : changeSetting id.toNat (.number x) s = u :=
      (if_neg hnew).trans h
    refine ⟨fun hid => number t (effect (settingEffect_none hid t)) rfl rfl, ?_, ?_, ?_, ?_, ?_⟩
    · rintro rfl
      obtain rfl | rfl := hholds.switch (by decide)
      · refine number _ (effect ((ignoreSwipe_eq t).trans (by simp [t, becomes]))) ?_ ?_
        all_goals
          dsimp only
          split <;> rfl
      · exact number _ (effect rfl) rfl rfl
    · rintro rfl
      have hlive : t.store.live.drawerSensePresent = (x == 1) := rfl
      refine ⟨?_, ?_, fun hd hx => ?_, ?_⟩
      · rintro rfl hd
        exact number _ (effect (sensePresent_off_opened hlive hd)) (push_lineChangeDue ..) (push_restart ..)
      · rintro rfl hd
        exact ⟨_, (s.tone.withdraw_held .drawerAlarm).1, number _ (effect (sensePresent_off_alarm hlive hd))
          (push_lineChangeDue ..) (push_restart ..)⟩
      · exact number t (effect (sensePresent_closed hd (hx.imp_left (by rintro rfl; exact hlive)))) rfl rfl
      · rintro rfl hopen hd
        exact number _ (effect (sensePresent_on_open hlive hopen hd)) (push_lineChangeDue ..) (push_restart ..)
    · rintro rfl
      exact number _ (effect rfl) rfl rfl
    · rintro rfl hwait
      refine ⟨fun h0 hb => ?_, fun h0 => number t (effect (budgetSet_waits hwait h0)) rfl rfl⟩
      have hb' : x.toNat ≠ s.supply.budget := fun h => hb (by rw [← h, Int.toNat_of_nonneg hholds.nonneg])
      exact number _ (effect (budgetSet_taken hwait h0 hb')) (push_lineChangeDue ..) (push_restart ..)
    · rintro (rfl | rfl)
      · exact number _ (effect rfl) rfl rfl
      · exact number _ (effect rfl) rfl rfl
  · exact refused ((setRequest_text h h').trans (if_pos hlong))
  · have hy : printableText chars = y := by
      rw [hy]
      simp [printableText, isPrintable]
    rw [← hy]
    refine ⟨get_of_table (by omega) (putText_table _ _ h h'), replies ?_ rfl rfl⟩
    rw [setRequest_text h h', if_neg (by omega), changeSetting_text h h']
    rfl
  · exact get (by rw [getRequest, get_eq_table, List.getElem?_eq_none h]; rfl)
  · have hz : s.store.live.get id.toNat = some s.store.live.table[id.toNat] := by
      rw [get_eq_table]
      exact List.getElem?_eq_getElem h
    exact ⟨_, hz, get (by simp only [getRequest, State.live, hz]; rfl)⟩

end Sys2Proof.Machine
end

section
namespace Sys2Proof.Machine

/-! ### What the engine's and the drawer's laws look at -/

/-- The units a drawer holds in a state (R124 to R126). -/
def DrawerState.units : DrawerState → Nat
  | .pullIn => 14
  | .hold => 5
  | _ => 0

/-- The units it asks for (R123). -/
def DrawerState.need : DrawerState → Option Nat
  | .waitSupply => some 14
  | _ => none

/-- It holds none and asks for none (R123 to R126). -/
abbrev DrawerState.Quiet (x : DrawerState) : Prop := x.units = 0 ∧ x.need = none

/-- The printer's condition, the cutter with its request, whether no row is in progress, and the drawer with its
units. -/
structure WorkView where
  condition : PrinterCondition
  cutter    : Cutter
  cutWaits  : Bool
  rowless   : Bool
  drawer    : DrawerState
  units     : Nat
  need      : Option Nat

/-- That part of a state. -/
def State.workView (s : State) : WorkView where
  condition := s.engine.condition
  cutter    := s.engine.cutter
  cutWaits  := s.supply.waiting.cutter.isSome
  rowless   := s.engine.row.isNone
  drawer    := s.drawer.state
  units     := s.supply.granted.drawer
  need      := s.supply.waiting.drawer

namespace WorkView

/-- FAULT is the cutter's jam, its request waits while it is WAITING, and it works between rows alone (R165, R177 to
R179). -/
structure EngineLawful (v : WorkView) : Prop where
  fault : v.condition = .fault ↔ v.cutter = .jammed
  cut   : v.cutWaits = true ↔ v.cutter = .waiting
  row   : v.cutter ≠ .rest → v.rowless = true

/-- The drawer holds and asks for the units of its state (R123 to R126). -/
structure DrawerLawful (v : WorkView) : Prop where
  units : v.units = v.drawer.units
  need  : v.need = v.drawer.need

/-- The two laws. -/
structure Lawful (v : WorkView) : Prop where
  engine : v.EngineLawful
  drawer : v.DrawerLawful

theorem lawful_iff (s : State) : s.workView.Lawful ↔ s.engineSound ∧ s.drawerUnits := by
  have hunits : s.drawer.state.units =
      if s.drawer.state = .pullIn then 14 else if s.drawer.state = .hold then 5 else 0 := by
    cases s.drawer.state <;> rfl
  have hneed : s.drawer.state.need = if s.drawer.state = .waitSupply then some 14 else none := by
    cases s.drawer.state <;> rfl
  constructor
  · rintro ⟨⟨hfault, hcut, hrow⟩, hu, hn⟩
    exact ⟨⟨hfault, hcut, fun h => Option.isNone_iff_eq_none.1 (hrow h)⟩, hu.trans hunits, hn.trans hneed⟩
  · rintro ⟨⟨hfault, hcut, hrow⟩, hu, hn⟩
    exact ⟨⟨hfault, hcut, fun h => Option.isNone_iff_eq_none.2 (hrow h)⟩, hu.trans hunits.symm, hn.trans hneed.symm⟩

/-! ### What grants do -/

/-- One grant as the view shows it: the cutter's begins a cut (R177), the drawer's a pull-in (R124), and the motor's and
the head's show nothing. -/
inductive Granted : WorkView → WorkView → Prop
  | cut {v : WorkView} (h : v.cutWaits = true) : Granted v { v with cutter := .cutting, cutWaits := false }
  | pull {v : WorkView} {n : Nat} (h : v.need = some n) :
      Granted v { v with drawer := .pullIn, units := v.units + n, need := none }

/-- Any number of grants. -/
abbrev Grants : WorkView → WorkView → Prop := Relation.ReflTransGen Granted

namespace Grants

variable {v w : WorkView}

/-- A property that each single grant keeps. -/
theorem keeps {P : WorkView → Prop} (hstep : ∀ {a b}, Granted a b → P a → P b) (h : Grants v w) (hv : P v) : P w := by
  induction h with
  | refl => exact hv
  | tail _ hlast ih => exact hstep hlast ih

/-- A cut begins where the cutter was WAITING (R177). -/
theorem engineLawful (h : Grants v w) (hv : v.EngineLawful) : w.EngineLawful := by
  refine h.keeps (fun hg ha => ?_) hv
  obtain ⟨fault, cut, row⟩ := ha
  cases hg with
  | cut hw =>
    have hcutter := cut.1 hw
    exact ⟨by simpa [hcutter] using fault, by simp, fun _ => row (by simp [hcutter])⟩
  | pull => exact ⟨fault, cut, row⟩

/-- A pull-in begins where the drawer was in WAIT_SUPPLY, with the 14 units it asked for (R123, R124). -/
theorem drawerLawful (h : Grants v w) (hv : v.DrawerLawful) : w.DrawerLawful := by
  refine h.keeps (fun {a _} hg ha => ?_) hv
  obtain ⟨units, need⟩ := ha
  cases hg with
  | cut => exact ⟨units, need⟩
  | pull hn =>
    have hstate : a.drawer = .waitSupply := by
      rw [need] at hn
      cases hd : a.drawer <;> simp [hd, DrawerState.need] at hn ⊢
    rw [need, hstate] at hn
    cases hn
    exact ⟨by simp [units, hstate, DrawerState.units], rfl⟩

theorem lawful (h : Grants v w) (hv : v.Lawful) : w.Lawful := ⟨h.engineLawful hv.engine, h.drawerLawful hv.drawer⟩

/-- Grants to others than a drawer that does not ask leave it as it is. -/
theorem undrawn (h : Grants v w) (hn : v.need = none) : w.drawer = v.drawer ∧ w.units = v.units ∧ w.need = none := by
  refine h.keeps (P := fun x => x.drawer = v.drawer ∧ x.units = v.units ∧ x.need = none) (fun hg ha => ?_)
    ⟨rfl, rfl, hn⟩
  cases hg with
  | cut => exact ha
  | pull hsome => simp [ha.2.2] at hsome

/-- Grants to others than a cutter that does not ask leave it as it is. -/
theorem uncut (h : Grants v w) (hn : v.cutWaits = false) : w.cutter = v.cutter ∧ w.cutWaits = false := by
  refine h.keeps (P := fun x => x.cutter = v.cutter ∧ x.cutWaits = false) (fun hg ha => ?_) ⟨rfl, hn⟩
  cases hg with
  | cut hsome => simp [ha.2] at hsome
  | pull => exact ha

/-- No grant touches the condition or begins a row. -/
theorem engine (h : Grants v w) : w.condition = v.condition ∧ w.rowless = v.rowless := by
  refine h.keeps (P := fun x => x.condition = v.condition ∧ x.rowless = v.rowless) (fun hg ha => ?_) ⟨rfl, rfl⟩
  cases hg <;> exact ha

end Grants
end WorkView

/-- From one state to a later one the view shows grants alone. -/
structure Walked (s t : State) : Prop where
  grants : s.workView.Grants t.workView

namespace Walked

theorem trans {a b c : State} (h : Walked a b) (h' : Walked b c) : Walked a c := ⟨h.grants.trans h'.grants⟩

/-- A later state with the same view. -/
theorem frame {s t : State} (h : t.workView = s.workView) : Walked s t := ⟨h ▸ .refl⟩

theorem refl (s : State) : Walked s s := frame rfl

/-- An earlier state with the same view. -/
theorem after {s s' t : State} (h : Walked s' t) (hs : s'.workView = s.workView) : Walked s t := (frame hs).trans h

/-- A strobe phase begins in the row in progress and leaves the condition and the cutter (R172). -/
theorem beginPhase_shows (n : Nat) (e : Engine) : (e.beginPhase n).condition = e.condition ∧
    (e.beginPhase n).cutter = e.cutter ∧ (e.beginPhase n).row.isNone = e.row.isNone := by
  unfold Engine.beginPhase
  split
  · exact ⟨rfl, rfl, rfl⟩
  · next h => split <;> simp [h]

/-- A request that waits is granted. -/
theorem grantUnits {r : Requester} {need n : Nat} {s : State} (h : s.supply.waiting.of r = some need)
    (hn : r ≠ .head → n = need) : Walked s (grantUnits r n s) := by
  cases r with
  | drawer =>
    cases hn (by simp)
    exact ⟨.single (.pull h)⟩
  | cutter => exact ⟨.single (.cut (v := s.workView) (by rw [State.workView]; exact congrArg Option.isSome h))⟩
  | motor => exact frame rfl
  | head =>
    refine frame ?_
    obtain ⟨hcondition, hcutter, hrow⟩ := beginPhase_shows n s.engine
    simp [State.workView, Machine.grantUnits, beginWork, Grants.add, Needs.put, hcondition, hcutter, hrow]

/-- A request that fits is granted whole, the head's apart (R139, R140). -/
theorem grantFor_whole {r : Requester} {need free n : Nat} (hr : r ≠ .head) (h : grantFor r need free = some n) :
    n = need := by
  cases r with
  | head => exact absurd rfl hr
  | drawer | cutter | motor =>
    simp only [grantFor, Option.ite_none_right_eq_some, Option.some.injEq] at h
    exact h.2.symm

theorem walkOver (rs : List Requester) (s : State) : Walked s (walkOver rs s) := by
  induction rs generalizing s with
  | nil => exact refl s
  | cons r rest ih =>
    unfold Machine.walkOver
    split
    · exact ih s
    · next need hneed =>
      split
      · next units hunits => exact (grantUnits hneed fun hr => grantFor_whole hr hunits).trans (ih _)
      · exact refl s

theorem walkQuietly (s : State) : Walked s (walkQuietly s) := by
  unfold Machine.walkQuietly
  split
  · exact refl s
  · exact walkOver _ s

theorem drawerReport (left : DrawerState) (c : DrawerCause) (s : State) : Walked s (drawerReport left c s) := frame rfl

theorem walk (s : State) : Walked s (walk s) := by
  unfold Machine.walk
  dsimp only
  split
  · exact (walkQuietly s).trans (drawerReport ..)
  · exact walkQuietly s

theorem settleBudget (s : State) : Walked s (settleBudget s) := by
  unfold Machine.settleBudget
  split
  · exact frame rfl
  · exact refl s

theorem budgetSet (s : State) : Walked s (budgetSet s) := (settleBudget s).trans (walk _)

/-- The requesters the view does not show: the motor and the head. -/
def unseen : Requester → Bool
  | .motor | .head => true
  | .drawer | .cutter => false

section
variable {r : Requester}

theorem requestUnits (hr : unseen r = true) (n : Nat) (s : State) : Walked s (requestUnits r n s) := by
  refine (walk _).after ?_
  cases r with
  | drawer | cutter => cases hr
  | motor | head => rfl

theorem withdrawRequest (hr : unseen r = true) (s : State) : Walked s (withdrawRequest r s) := by
  unfold Machine.withdrawRequest
  split
  · exact refl s
  · refine (walk _).after ?_
    cases r with
    | drawer | cutter => cases hr
    | motor | head => rfl

/-- A release is the units taken back, and grants (R141, R142). -/
theorem released (r : Requester) (n : Nat) (s : State) :
    Walked { s with supply := { s.supply with granted := s.supply.granted.sub r n } } (releaseUnits r n s) :=
  (settleBudget _).trans (walk _)

theorem releaseUnits (hr : r ≠ .drawer) (n : Nat) (s : State) : Walked s (releaseUnits r n s) := by
  refine (released r n s).after ?_
  cases r with
  | drawer => exact absurd rfl hr
  | cutter | motor | head => rfl

theorem releaseAll (hr : r ≠ .drawer) (s : State) : Walked s (releaseAll r s) := releaseUnits hr ..

end

theorem requestMotor (s : State) : Walked s (requestMotor s) := by
  have h := requestUnits (r := .motor) rfl 3 s
  unfold Machine.requestMotor
  dsimp only
  split
  · exact h.trans (frame rfl)
  · exact h

theorem rowRequest (s : State) : Walked s (rowRequest s) := by
  unfold Machine.rowRequest
  split
  · exact refl s
  split
  · exact requestUnits rfl _ s
  split
  · exact requestUnits rfl _ s
  · exact requestMotor s

end Walked
end Sys2Proof.Machine
end

section
namespace Sys2Proof.Machine

/-! ### What keeps the laws of the engine and the drawer -/

/-- A later state that keeps the laws. -/
structure KeepsWork (s t : State) : Prop where
  keeps : s.workView.Lawful → t.workView.Lawful

theorem Walked.keepsWork {s t : State} (h : Walked s t) : KeepsWork s t := ⟨h.grants.lawful⟩

namespace KeepsWork

theorem trans {a b c : State} (h : KeepsWork a b) (h' : KeepsWork b c) : KeepsWork a c := ⟨h'.keeps ∘ h.keeps⟩

/-- A later state that the laws cannot tell apart. -/
theorem frame {s t : State} (h : t.workView = s.workView) : KeepsWork s t := (Walked.frame h).keepsWork

theorem refl (s : State) : KeepsWork s s := frame rfl

/-- An earlier state that the laws cannot tell apart. -/
theorem after {s s' t : State} (h : KeepsWork s' t) (hs : s'.workView = s.workView) : KeepsWork s t :=
  (frame hs).trans h

/-- The laws may be used to show that they are kept. -/
theorem of_lawful {s t : State} (h : s.workView.Lawful → KeepsWork s t) : KeepsWork s t := ⟨fun hs => (h hs).keeps hs⟩

/-! ### The drawer -/

theorem drawerReport (left : DrawerState) (c : DrawerCause) (s : State) : KeepsWork s (drawerReport left c s) :=
  frame rfl

/-- The drawer moves between states that hold no units and ask for none (R123 to R129). -/
theorem moves {s t : State} (x : DrawerState) (hs : s.drawer.state.Quiet) (hx : x.Quiet)
    (ht : t.workView = { s.workView with drawer := x } := by rfl) : KeepsWork s t := by
  refine ⟨?_⟩
  rintro ⟨⟨fault, cut, row⟩, units, need⟩
  rw [ht]
  exact ⟨⟨fault, cut, row⟩, units.trans (hs.1.trans hx.1.symm), need.trans (hs.2.trans hx.2.symm)⟩

/-- An attempt asks for 14 units from a state that holds none (R123). -/
theorem beginAttempt {s : State} (hs : s.drawer.state.units = 0) (c : DrawerCause) :
    KeepsWork s (beginAttempt c s) := by
  have asks : KeepsWork s (placeNeed .drawer 14
      { s with drawer := { s.drawer with state := .waitSupply, phaseTimer := none } }) := by
    refine ⟨?_⟩
    rintro ⟨engine, units, -⟩
    exact ⟨⟨engine.fault, engine.cut, engine.row⟩, units.trans hs, rfl⟩
  exact (asks.trans (Walked.walkQuietly _).keepsWork).trans (drawerReport ..)

theorem kick (k : KickSource) (s : State) : KeepsWork s (kick k s) := by
  unfold Machine.kick
  split
  · next hc => exact (beginAttempt (hc ▸ rfl) _).after rfl
  · exact frame rfl

/-- A drawer without units and without a request is given up, other work is granted, and it goes to a state that holds
none and asks for none (R126, R138, R141). -/
theorem givesUp {s t u : State} {d : Drawer} (hw : Walked t u)
    (ht : t.workView = { s.workView with units := 0, need := none }) (hd : d.state.Quiet) :
    KeepsWork s { u with drawer := d } := by
  have hnone : t.workView.need = none := by rw [ht]
  have hzero : t.workView.units = 0 := by rw [ht]
  obtain ⟨-, hunits, hneed⟩ := hw.grants.undrawn hnone
  refine ⟨fun hlaw => ?_⟩
  have hengine : t.workView.EngineLawful := by
    obtain ⟨fault, cut, row⟩ := hlaw.engine
    rw [ht]
    exact ⟨fault, cut, row⟩
  obtain ⟨fault, cut, row⟩ := hw.grants.engineLawful hengine
  exact ⟨⟨fault, cut, row⟩, hunits.trans (hzero.trans hd.1.symm), hneed.trans hd.2.symm⟩

/-- A drive ends from PULL_IN and HOLD with all units returned (R124 to R126). -/
theorem endDrive {s : State} (hs : s.drawer.state.need = none) (c : DrawerCause) : KeepsWork s (endDrive c s) := by
  refine of_lawful fun hlaw => ?_
  have hneed : s.supply.waiting.drawer = none := hlaw.drawer.need.trans hs
  have moved {d : Drawer} (hd : d.state.Quiet) :
      KeepsWork s { releaseAll .drawer s with drawer := d } := by
    refine givesUp (Walked.released ..) ?_ hd
    simp [State.workView, Grants.sub, Grants.of, hneed]
  unfold Machine.endDrive
  dsimp only
  refine trans ?_ (drawerReport ..)
  split_ifs <;> exact moved ⟨rfl, rfl⟩

/-- The hold keeps 5 of 14 units (R125). -/
theorem beginHold {s : State} (hs : s.drawer.state = .pullIn) : KeepsWork s (beginHold s) := by
  refine trans ?_ ((Walked.released .drawer 9 _).keepsWork.trans (drawerReport ..))
  refine ⟨?_⟩
  rintro ⟨engine, units, need⟩
  have hunits : s.supply.granted.drawer = 14 := units.trans (congrArg DrawerState.units hs)
  have hneed : s.supply.waiting.drawer = none := need.trans (congrArg DrawerState.need hs)
  refine ⟨⟨engine.fault, engine.cut, engine.row⟩, ?_, hneed⟩
  show s.supply.granted.drawer - 9 = 5
  omega

/-- The sense opens: a request that waits is withdrawn first (R123 to R129). -/
theorem senseToOpen (s : State) : KeepsWork s (senseToOpen s) := by
  unfold Machine.senseToOpen
  split
  · next h => exact moves .opened (h ▸ ⟨rfl, rfl⟩) ⟨rfl, rfl⟩
  · next h =>
    refine of_lawful fun hlaw => ?_
    have hneed : s.supply.waiting.drawer = some 14 := hlaw.drawer.need.trans (congrArg DrawerState.need h)
    have hunits : s.supply.granted.drawer = 0 := hlaw.drawer.units.trans (congrArg DrawerState.units h)
    refine trans ?_ (drawerReport ..)
    simp only [Machine.withdrawRequest, Needs.of, hneed]
    exact givesUp (Walked.walk _) (by simp [State.workView, Needs.put, hunits]) ⟨rfl, rfl⟩
  · next h => exact endDrive (h ▸ rfl) _
  · next h => exact moves .opened (h ▸ ⟨rfl, rfl⟩) ⟨rfl, rfl⟩
  · next h => exact moves .opened (h ▸ ⟨rfl, rfl⟩) ⟨rfl, rfl⟩
  all_goals exact refl s

theorem senseToClosed (s : State) : KeepsWork s (senseToClosed s) := by
  unfold Machine.senseToClosed
  split
  · next h => exact moves .closed (h ▸ ⟨rfl, rfl⟩) ⟨rfl, rfl⟩
  · next h => exact moves .closed (h ▸ ⟨rfl, rfl⟩) ⟨rfl, rfl⟩
  all_goals exact refl s

theorem senseGiven (b : Bool) (s : State) : KeepsWork s (senseGiven b s) := by
  unfold Machine.senseGiven
  split
  · exact senseToOpen s
  · exact senseToClosed s

theorem sensePresentSet (s : State) : KeepsWork s (sensePresentSet s) := by
  unfold Machine.sensePresentSet
  split_ifs
  · exact senseGiven ..
  · exact senseToClosed s
  · exact refl s

theorem senseChanged (b : Bool) (s : State) : KeepsWork s (senseChanged b s) := by
  unfold Machine.senseChanged
  dsimp only
  split_ifs
  · exact refl s
  · exact (senseGiven ..).after rfl
  · exact frame rfl

theorem pullInEnds (s : State) : KeepsWork s (pullInEnds s) := by
  unfold Machine.pullInEnds
  split_ifs with hs
  · exact endDrive (hs ▸ rfl) _
  · exact beginHold hs
  · exact refl s

theorem holdEnds (s : State) : KeepsWork s (holdEnds s) := by
  unfold Machine.holdEnds
  split_ifs with hs
  · exact endDrive (hs ▸ rfl) _
  · exact refl s

theorem coolEnds (s : State) : KeepsWork s (coolEnds s) := by
  unfold Machine.coolEnds
  split_ifs with hs
  · exact beginAttempt (hs ▸ rfl) _
  · exact moves .closed (hs ▸ ⟨rfl, rfl⟩) ⟨rfl, rfl⟩
  · exact refl s

theorem alarmExpires (s : State) : KeepsWork s (alarmExpires s) := by
  unfold Machine.alarmExpires
  split
  · next h => exact moves .openAlarm (h.1 ▸ ⟨rfl, rfl⟩) ⟨rfl, rfl⟩
  · exact refl s

end KeepsWork
end Sys2Proof.Machine
end

section
namespace Sys2Proof.Machine
namespace KeepsWork

/-! ### The printer -/

/-- The engine moves lawfully and the drawer stays. -/
theorem engineMoves {s t : State} (h : s.workView.EngineLawful → t.workView.EngineLawful)
    (hd : t.drawer.state = s.drawer.state ∧ t.supply.granted.drawer = s.supply.granted.drawer ∧
      t.supply.waiting.drawer = s.supply.waiting.drawer := by exact ⟨rfl, rfl, rfl⟩) : KeepsWork s t := by
  obtain ⟨hstate, hunits, hneed⟩ := hd
  refine ⟨?_⟩
  rintro ⟨engine, units, need⟩
  refine ⟨h engine, ?_, ?_⟩
  · exact (hunits.trans units).trans (congrArg DrawerState.units hstate.symm)
  · exact (hneed.trans need).trans (congrArg DrawerState.need hstate.symm)

/-- Out of FAULT, the condition changes to another than FAULT (R167). -/
theorem conditioned {s t : State} (hs : s.engine.condition ≠ .fault) (hc : t.engine.condition ≠ .fault)
    (ht : t.workView = { s.workView with condition := t.engine.condition } := by rfl) : KeepsWork s t := by
  refine ⟨?_⟩
  rintro ⟨⟨fault, cut, row⟩, units, need⟩
  rw [ht]
  exact ⟨⟨⟨fun h => absurd h hc, fun h => absurd (fault.2 h) hs⟩, cut, row⟩, units, need⟩

/-- A row goes (R174, R180). -/
theorem rowGone {s t : State} (ht : t.workView = { s.workView with rowless := true } := by rfl) : KeepsWork s t := by
  refine ⟨?_⟩
  rintro ⟨⟨fault, cut, -⟩, units, need⟩
  rw [ht]
  exact ⟨⟨fault, cut, fun _ => rfl⟩, units, need⟩

/-- A row in progress finds the cutter at REST, and so no FAULT (R165, R177). -/
theorem rest_of_row {s : State} {r : RowProgress} (hlaw : s.workView.Lawful) (h : s.engine.row = some r) :
    s.engine.cutter = .rest ∧ s.engine.condition ≠ .fault := by
  obtain ⟨fault, -, row⟩ := hlaw.engine
  have hcutter : s.engine.cutter = .rest := by
    by_contra hne
    simpa [State.workView, h] using row hne
  exact ⟨hcutter, fun hf => by simpa [State.workView, hcutter] using fault.1 hf⟩

theorem beginRow {s : State} (hs : s.engine.cutter = .rest) (l : LineProgress) : KeepsWork s (beginRow l s) := by
  unfold Machine.beginRow
  refine trans ?_ (Walked.rowRequest _).keepsWork
  refine engineMoves ?_
  rintro ⟨fault, cut, -⟩
  exact ⟨fault, cut, fun hne => absurd hs hne⟩

theorem requestCut {s : State} (hs : s.engine.cutter = .rest) (hrow : s.engine.row = none) :
    KeepsWork s (requestCut s) := by
  refine trans ?_ (Walked.walk _).keepsWork
  refine engineMoves ?_
  rintro ⟨fault, -, -⟩
  refine ⟨?_, ⟨fun _ => rfl, fun _ => rfl⟩, fun _ => Option.isNone_iff_eq_none.2 hrow⟩
  simpa [State.workView, hs] using fault

/-- The engine goes on only with the cutter at REST and no row in progress (R170, R177). -/
theorem proceed (s : State) : KeepsWork s (proceed s) := by
  unfold Machine.proceed
  split
  · exact refl s
  split
  · next hready =>
    obtain ⟨-, -, hrow, hcutter⟩ := hready
    extract_lets l'
    split
    · exact beginRow hcutter l'
    split
    · exact requestCut hcutter hrow
    · exact refl s
  · exact refl s

theorem giveLine (s : State) : KeepsWork s (giveLine s) := by
  unfold Machine.giveLine
  split <;> exact frame rfl

/-- A job starts outside FAULT, in PRINTING or PAUSED (R152, R167). -/
theorem startJob (c : JobCause) (s : State) : KeepsWork s (startJob c s) := by
  unfold Machine.startJob
  split
  · exact refl s
  split
  · next hstart =>
    extract_lets paused j' engine e queue s1 s2 s3
    have given : KeepsWork s s1 := by
      refine trans (conditioned hstart.2 ?_ ?_) (giveLine _)
      · dsimp only [e]
        split_ifs <;> simp [Engine.setSpeed]
      · dsimp only [e]
        split_ifs <;> rfl
    have reported : KeepsWork s1 s3 := by
      dsimp only [s3]
      split <;> exact frame rfl
    exact (given.trans reported).trans (proceed _)
  · exact refl s

theorem acceptJob (j : Job) (s : State) : KeepsWork s (acceptJob j s) := by
  unfold Machine.acceptJob
  dsimp only
  split
  · exact (startJob ..).after rfl
  · exact frame rfl

/-- Outside FAULT a job that ends leaves the printer IDLE or starts the next (R153, R167). -/
theorem jobDone {s : State} (hs : s.engine.condition ≠ .fault) (j : Job) (rest : List Job) :
    KeepsWork s (jobDone j rest s) := by
  unfold Machine.jobDone
  dsimp only
  split_ifs
  any_goals exact (startJob ..).after rfl
  all_goals exact conditioned hs (by simp)

theorem lineComplete {s : State} (hs : s.engine.condition ≠ .fault) : KeepsWork s (lineComplete s) := by
  unfold Machine.lineComplete
  split
  · exact frame rfl
  split
  · exact ((giveLine _).trans (proceed _)).after rfl
  · exact jobDone hs ..

theorem abandonedEnds (s : State) : KeepsWork s (abandonedEnds s) := (proceed _).after rfl

theorem markStop (s : State) : KeepsWork s (markStop s) := by
  unfold Machine.markStop
  split
  · exact refl s
  · split
    · exact frame rfl
    · exact refl s

theorem afterRow {s : State} (hs : s.engine.condition ≠ .fault) : KeepsWork s (afterRow s) := by
  unfold Machine.afterRow
  split
  · exact refl s
  split_ifs
  · exact lineComplete hs
  · exact markStop s
  · exact proceed s

theorem rowEnds {s : State} (hs : s.engine.condition ≠ .fault) (r : RowProgress) : KeepsWork s (rowEnds r s) := by
  unfold Machine.rowEnds
  dsimp only
  split <;> exact trans (rowGone rfl) (afterRow hs)

theorem phaseEnds (s : State) : KeepsWork s (phaseEnds s) := by
  have released : KeepsWork s (releaseAll .head { s with engine := { s.engine with phase := none } }) :=
    after (Walked.releaseAll (by simp) _).keepsWork rfl
  unfold Machine.phaseEnds
  split
  · exact refl s
  dsimp only
  split
  · exact released.trans (abandonedEnds _)
  · exact released.trans (Walked.rowRequest _).keepsWork

theorem stepEnds (s : State) : KeepsWork s (stepEnds s) := by
  have released : KeepsWork s (releaseAll .motor { s with engine := { s.engine with stepRunning := none } }) :=
    after (Walked.releaseAll (by simp) _).keepsWork rfl
  unfold Machine.stepEnds
  split
  · exact refl s
  dsimp only
  split
  · exact released.trans (abandonedEnds _)
  split
  · exact released
  · next r hr =>
    refine released.trans (of_lawful fun hlaw => ?_)
    split
    · refine ((Walked.requestMotor _).after ?_).keepsWork
      simp [State.workView, hr]
    · exact rowEnds (rest_of_row hlaw hr).2 r

/-- A cut cycle ends with the cutter at REST; it was in no FAULT (R177, R178). -/
theorem cutEnds {s : State} (hs : s.engine.cutter = .cutting) : KeepsWork s (cutEnds s) := by
  refine of_lawful fun hlaw => ?_
  obtain ⟨fault, cut, -⟩ := hlaw.engine
  have hcond : s.engine.condition ≠ .fault := fun h => by simpa [State.workView, hs] using fault.1 h
  have hrest : KeepsWork s
      { s with engine := { s.engine with cutter := .rest, cutTimer := none, seenAway := false } } := by
    refine engineMoves fun _ => ⟨by simpa [State.workView] using hcond, ?_, fun h => absurd rfl h⟩
    simpa [State.workView, hs] using cut
  have hwalked := Walked.releaseAll (r := .cutter) (by simp)
    { s with engine := { s.engine with cutter := .rest, cutTimer := none, seenAway := false } }
  have released := hrest.trans hwalked.keepsWork
  unfold Machine.cutEnds
  dsimp only
  split
  · exact released.trans ((abandonedEnds _).after rfl)
  · refine released.trans ((lineComplete ?_).after rfl)
    exact fun h => hcond (hwalked.grants.engine.1.symm.trans h)

/-- FAULT is left with the cutter at REST, which asked for nothing while JAMMED (R179). -/
theorem leaveFault {s : State} (hs : s.engine.condition = .fault) : KeepsWork s (leaveFault s) := by
  refine trans (engineMoves ?_) (startJob ..)
  rintro ⟨fault, cut, -⟩
  have hjam : s.engine.cutter = .jammed := fault.1 hs
  exact ⟨⟨fun h => (nomatch h), fun h => (nomatch h)⟩,
    ⟨fun h => (nomatch hjam.symm.trans (cut.1 h)), fun h => (nomatch h)⟩, fun h => absurd rfl h⟩

theorem homeReturns (s : State) : KeepsWork s (homeReturns s) := by
  unfold Machine.homeReturns
  dsimp only
  split_ifs with hfault hcut
  · exact after (leaveFault hfault.1) rfl
  · exact after (cutEnds hcut.1) rfl
  · exact frame rfl

/-- The cutter jams in the middle of a cycle, which is FAULT (R178). -/
theorem cutJams (s : State) : KeepsWork s (cutJams s) := by
  unfold Machine.cutJams
  split
  · next hs =>
    refine trans ?_ ((Walked.releaseAll (r := .cutter) (by simp) _).keepsWork.trans (frame rfl))
    refine engineMoves fun h => ?_
    obtain ⟨-, cut, row⟩ := h
    exact ⟨⟨fun _ => rfl, fun _ => rfl⟩, by simpa [State.workView, hs] using cut,
      fun _ => row (by simp [State.workView, hs])⟩
  · exact refl s

/-! ### Pauses -/

theorem enterPause {s : State} (hs : s.engine.condition ≠ .fault) (c : PauseCause) : KeepsWork s (enterPause c s) := by
  unfold Machine.enterPause
  dsimp only
  split <;> exact conditioned hs (fun h => nomatch h) (by simp [State.workView, Engine.setSpeed])

theorem causeRaised (c : PauseCause) (s : State) : KeepsWork s (causeRaised c s) := by
  unfold Machine.causeRaised
  split
  · exact refl s
  dsimp only
  split
  · next h => exact (enterPause (by simp [h]) c).after rfl
  · exact after (trans (markStop _) (frame rfl)) rfl
  · exact frame rfl
  · exact frame rfl

theorem leavePause {s : State} (hs : s.engine.condition ≠ .fault) (c : PauseCause) : KeepsWork s (leavePause c s) := by
  have resumed (u : State) : KeepsWork u (match u.engine.line with
      | none => u
      | some l =>
        if l.interrupted ∧ u.engine.row = none then Machine.proceed (Machine.giveLine u) else Machine.proceed u) := by
    split
    · exact refl u
    · split
      · exact (giveLine u).trans (proceed _)
      · exact proceed u
  unfold Machine.leavePause
  refine trans ?_ (resumed _)
  dsimp only
  split <;> exact conditioned hs (by simp)

theorem causeGone (c : PauseCause) (s : State) : KeepsWork s (causeGone c s) := by
  unfold Machine.causeGone
  split
  · exact refl s
  dsimp only
  split
  · next h =>
    split
    · exact frame rfl
    · exact (leavePause (by simp [h]) c).after rfl
  all_goals exact frame rfl

theorem causeFollows (c : PauseCause) (b : Bool) (s : State) : KeepsWork s (causeFollows c b s) := by
  unfold Machine.causeFollows
  split
  · exact causeRaised ..
  · exact causeGone ..

theorem headReads (x : Int) (s : State) : KeepsWork s (headReads x s) := by
  unfold Machine.headReads
  dsimp only
  split_ifs
  · exact (causeRaised ..).after rfl
  · exact (causeGone ..).after rfl
  · exact frame rfl

theorem supplyFalls (s : State) : KeepsWork s (supplyFalls s) := by
  unfold Machine.supplyFalls
  split
  · exact refl s
  · exact (causeRaised ..).after rfl

theorem supplyRecovers (s : State) : KeepsWork s (supplyRecovers s) := by
  unfold Machine.supplyRecovers
  split
  · exact ((causeGone ..).trans (Walked.walk _).keepsWork).after rfl
  · exact refl s

/-! ### PRINTER_CLEAR -/

/-- Outside FAULT the cutter's request goes and a WAITING cutter is at REST; a cut in progress goes on (R180). -/
theorem abandonLine {s : State} (hs : s.engine.condition ≠ .fault) : KeepsWork s (abandonLine s) := by
  have withdrawn : Walked { s with supply := { s.supply with waiting := { s.supply.waiting with cutter := none } } }
      (withdrawRequest .cutter s) := by
    unfold withdrawRequest
    split
    · next hnone =>
      refine .frame ?_
      simp [State.workView, show s.supply.waiting.cutter = none from hnone]
    · exact Walked.walk _
  have hw := (withdrawn.trans (Walked.withdrawRequest (r := .motor) rfl _)).trans
    (Walked.withdrawRequest (r := .head) rfl _)
  obtain ⟨hcutter, hwaits⟩ := hw.grants.uncut rfl
  refine ⟨fun hlaw => ?_⟩
  obtain ⟨hengine, hdrawer⟩ := hlaw
  have hfree : s.engine.cutter ≠ .jammed := fun h => hs (hengine.fault.2 h)
  obtain ⟨hunits, hneed⟩ := hw.grants.drawerLawful ⟨hdrawer.units, hdrawer.need⟩
  have hstops : (Machine.abandonLine s).engine.cutter =
      if s.engine.cutter = .waiting then .rest else s.engine.cutter := by
    unfold Machine.abandonLine
    dsimp only [State.workView] at hcutter ⊢
    rw [hcutter]
  have hends : (Machine.abandonLine s).engine.cutter ≠ .jammed ∧ (Machine.abandonLine s).engine.cutter ≠ .waiting := by
    rw [hstops]
    split_ifs with h
    · exact ⟨by simp, by simp⟩
    · exact ⟨hfree, h⟩
  exact ⟨⟨⟨fun h => (nomatch h), fun h => absurd h hends.1⟩,
    ⟨fun h => absurd (hwaits.symm.trans h) (by simp), fun h => absurd h hends.2⟩, fun _ => rfl⟩, hunits, hneed⟩

theorem printerClear (s : State) : KeepsWork s (printerClear s) := by
  have cleared : (jobsCleared s).workView = s.workView := by
    rw [jobsCleared_eq]
    rfl
  have hcond : (jobsCleared s).engine.condition = s.engine.condition := congrArg WorkView.condition cleared
  rw [printerClear_eq]
  dsimp only
  split_ifs with hf
  · exact after (trans (rowGone rfl) (leaveFault (hcond.trans hf))) cleared
  · exact after (rowGone rfl) cleared
  · exact after (trans (abandonLine fun h => hf (hcond.symm.trans h)) (frame rfl)) cleared
  · exact (abandonLine fun h => hf (hcond.symm.trans h)).after cleared

end KeepsWork
end Sys2Proof.Machine
end

section
namespace Sys2Proof.Machine
namespace KeepsWork

/-! ### The requests and the events -/

theorem closeSale (r : SaleRecord) (s : State) : KeepsWork s (closeSale r s) := by
  have ended (u : State) : KeepsWork u (ignoreSwipe (emptyHeld (discardUnclaimed u))) := by
    refine frame ?_
    unfold emptyHeld
    split <;> simp [State.workView]
  unfold Machine.closeSale
  dsimp only
  refine trans ?_ (ended _)
  split
  · exact after (trans (acceptJob ..) (kick ..)) (by simp [State.workView])
  · exact after (acceptJob ..) (by simp [State.workView])

theorem settingEffect (id : Nat) (s : State) : KeepsWork s (settingEffect id s) := by
  have restarted (ch : ChannelId) : KeepsWork s (restartChannel ch s) := by
    unfold restartChannel
    split
    · exact refl s
    · rw [startChannel_eq]
      exact frame (by simp [State.workView])
  unfold Machine.settingEffect
  repeat' split
  all_goals first
    | exact restarted _
    | exact sensePresentSet s
    | exact (Walked.budgetSet s).keepsWork
    | exact frame (by simp [State.workView])

theorem setRequest (n : Byte) (v : SettingArg) (s : State) : KeepsWork s (setRequest n v s).1 := by
  have taken (x : SettingValue) (b : Bool) : KeepsWork s (setAnswer n.toNat x b s).1 := by
    unfold setAnswer changeSetting
    dsimp only
    split
    · exact refl s
    · exact after (settingEffect ..) rfl
  unfold Machine.setRequest
  dsimp only [refuse]
  repeat' split
  all_goals first | exact refl s | exact taken _ _

/-- Every request keeps the laws: it is refused, it leaves what they look at, or it is made of operations that keep
them. -/
theorem request (r : Request) (s : State) : KeepsWork s (handleRequest r s).1 := by
  cases r with
  | set n v => exact setRequest n v s
  | closeSale =>
    simp only [handleRequest, closeSaleRequest, refuse, answer]
    repeat' split
    all_goals first | exact refl s | exact closeSale ..
  | reprint =>
    simp only [handleRequest, reprintRequest, refuse, answer]
    repeat' split
    all_goals first | exact refl s | exact acceptJob .. | exact after (acceptJob ..) rfl
  | printText =>
    simp only [handleRequest, printTextRequest, refuse, answer]
    repeat' split
    all_goals first | exact refl s | exact acceptJob ..
  | printerClear => exact printerClear s
  | noSale =>
    simp only [handleRequest, noSaleRequest, refuse, done]
    repeat' split
    all_goals first | exact refl s | exact kick ..
  | drawerReset =>
    simp only [handleRequest, drawerResetRequest, refuse, done]
    split
    · exact refl s
    split
    · exact refl s
    · next h => exact moves .closed (not_not.1 h ▸ ⟨rfl, rfl⟩) ⟨rfl, rfl⟩
  | calZero | calSpan | setProfile =>
    simp only [handleRequest, calZeroRequest, calZeroOn, calSpanRequest, calSpanOn, setProfileRequest, refuse]
    repeat' split
    all_goals first
      | exact refl s
      | rw [calibrationStep_eq]; exact frame (by simp [State.workView])
  | zero =>
    simp only [handleRequest, zeroRequest, zeroOn, refuse, done]
    repeat' split
    all_goals first
      | exact refl s
      | rw [zeroTaken_eq rfl]; exact frame (by simp [State.workView])
  | _ =>
    simp only [handleRequest, readWeightRequest, setTareRequest, takeTareRequest, clearTareRequest, weighItemRequest,
      cancelWeighRequest, openSaleRequest, addItemRequest, voidEntryRequest, beginTenderRequest, resumeSaleRequest,
      addCashRequest, addCardTenderRequest, cardDecisionRequest, abandonSaleRequest, readSaleRequest, readEntryRequest,
      readTenderRequest, clearExceptionRequest, waiveBaggingRequest, bagResyncRequest, readBaggingRequest,
      releaseCardRequest, discardCardRequest, readCardRequest, readDrawerRequest, beepRequest, readSupplyRequest,
      readPrintQueueRequest, readPrinterRequest, getRequest, saveSettingsRequest, restartRequest, identifyRequest,
      setTareT, acceptWeigh, decideCard, abandonSale, voidTaken, answer, done, refuse]
    repeat' split
    all_goals exact frame (by simp [State.workView])

theorem sampleArrives (ch : ChannelId) (x : Int) (s : State) : KeepsWork s (sampleArrives ch x s) := by
  have moved {u : State} (h : MovesOnly ch s u) : KeepsWork s u := by
    rw [h]
    cases ch <;> exact frame rfl
  obtain ⟨u, hu, h | h⟩ := sampleArrives_stages ch x s <;> rw [h]
  · exact moved hu
  · refine (moved hu).trans (frame ?_)
    cases ch with
    | platter =>
      dsimp only [platterStages]
      split
      · rfl
      · unfold examineWeigh completeWithEntry trackZero
        dsimp only
        repeat' split
        all_goals simp [State.workView]
    | bag =>
      dsimp only [bagStage]
      repeat' split
      all_goals simp [State.workView]

/-- Every event of a block keeps the laws. -/
theorem blockEvent {c : Instr} {f : State → State} (hf : blockEvent? c = some f) (s : State) : KeepsWork s (f s) := by
  cases c with
  | sampleArrival ch x => cases hf; exact sampleArrives ch x s
  | senseChange b => cases hf; exact senseChanged b s
  | pullInEnd => cases hf; exact pullInEnds s
  | holdEnd => cases hf; exact holdEnds s
  | coolEnd => cases hf; exact coolEnds s
  | alarmTimerExpiry => cases hf; exact alarmExpires s
  | supplyLow => cases hf; exact supplyFalls s
  | supplyRecovery => cases hf; exact supplyRecovers s
  | paperSensor b | coverSensor b => cases hf; exact causeFollows ..
  | headTemperature x => cases hf; exact headReads x s
  | phaseEnd => cases hf; exact phaseEnds s
  | stepEnd => cases hf; exact stepEnds s
  | homeSensorReturn => cases hf; exact homeReturns s
  | cutTimerExpiry => cases hf; exact cutJams s
  | bagTimerExpiry _ | graceTimerExpiry => cases hf; exact frame (by simp [State.workView])
  | _ =>
    cases hf <;> simp only [excitationLeaves, excitationReturns, startChannel_eq, setCondition_eq, weighTimerExpires,
      swipeBegins, swipeEnds, armReader, fluxArrives, transitionInSwipe, beginSwipe, holdExpires, pwmBoundary,
      paperLowChanges, homeLeaves, writeEnds]
    repeat' split
    all_goals exact frame (by simp [State.workView])

end KeepsWork

theorem keptByRequests_work : KeptByRequests KeepsWork where
  refl := .refl
  trans := .trans
  link _ _ := .frame rfl
  inputs _ _ := .frame rfl
  request := KeepsWork.request

/-- A part just started has no work: the cutter at REST, no row, no units, and the drawer CLOSED or OPEN (R121, R137,
R165). -/
theorem startPart_work (why : StartCause) (x : StartInputs) (s : State) : (startPart why x s).workView.Lawful := by
  have started : (startedBlocks x s).workView.Lawful := by
    refine ⟨⟨⟨fun h => (nomatch h), fun h => (nomatch h)⟩, ⟨fun h => (nomatch h), fun h => (nomatch h)⟩,
      fun _ => rfl⟩, ?_⟩
    simp only [State.workView, startedBlocks, startedDrawer_eq]
    split <;> exact ⟨rfl, rfl⟩
  have reported (r : Report) (u : State) : KeepsWork u (report r u) := .frame rfl
  unfold startPart
  dsimp only
  split
  · exact (reported ..).keeps started
  · exact ((reported ..).trans (reported ..)).keeps started

/-- A step keeps the laws of the engine and the drawer. -/
theorem step_work {s t : State} (hs : s.workView.Lawful) (h : step s = .next t) : t.workView.Lawful := by
  unfold step at h
  split at h
  · next c rest _ =>
    have ended (u : State) : KeepsWork u (endEvent u) := .frame rfl
    cases c with
    | powerOn x => cases h; exact (ended _).keeps (startPart_work ..)
    | powerLoss =>
      cases h
      split <;> exact hs
    | restartCarriedOut x =>
      cases h
      obtain he | he := asEvent_cases (restartHappens x) { s with pending := rest } <;> rw [he]
      · exact hs
      · refine (ended _).keeps ?_
        unfold restartHappens
        split
        · exact startPart_work ..
        · exact hs
    | _ => exact (keptByRequests_work.exec rfl (fun f hf => KeepsWork.blockEvent hf _) h).keeps hs
  · cases h
    unfold idle
    split <;> exact hs

/-- Settles O15: every step keeps the two laws, which are the conditions on the engine and on the drawer. -/
theorem stepKeepsEngineAndDrawer : Obligations.StepKeepsEngineAndDrawer := by
  intro s t hengine hdrawer h
  exact (WorkView.lawful_iff t).1 (step_work ((WorkView.lawful_iff s).2 ⟨hengine, hdrawer⟩) h)

end Sys2Proof.Machine
end

section
namespace Sys2Proof.Machine

/-- An event of a powered part is what its block does, and the transmitter's choice (R194). -/
theorem exec_event {s t : State} {i : Instr} {f : State → State} (hp : s.powered = true)
    (hi : exec i s = .next (asEvent f s)) (hf : f s = t) : exec i s = .next (endEvent t) := by
  rw [hi, asEvent_powered hp, hf]

/-! ### An attempt of the drawer on a quiet supply -/

section
variable {s : State}

/-- With 14 units free the attempt is granted at once and pulls in (R123, R124, R139). -/
theorem beginAttempt_granted (hq : s.quietSupply) (hfree : 14 ≤ s.supply.budget - s.supply.granted.total)
    (c : DrawerCause) : beginAttempt c s = { s with
      drawer := { s.drawer with
        state := .pullIn
        attempts := s.drawer.attempts + 1
        phaseTimer := some s.store.live.drawerPullMs }
      supply := { s.supply with granted := { s.supply.granted with drawer := s.supply.granted.drawer + 14 } }
      link := s.link.push (.drawerState .pullIn s.drawer.state c (s.drawer.attempts + 1)
        (if c = .kick then s.drawer.kickSource else none)) } := by
  obtain ⟨hnone, hok, -⟩ := hq
  simp [beginAttempt, walkQuietly, placeNeed, hnone, hok, Needs.put, walkOver, Needs.of, grantFor, Supply.free, hfree,
    grantUnits, beginWork, Drawer.beginPull, Grants.add, drawerReport, report, State.live]

/-- With fewer it waits in WAIT_SUPPLY (R123, R139). -/
theorem beginAttempt_waits (hq : s.quietSupply) (hfree : s.supply.budget - s.supply.granted.total < 14)
    (c : DrawerCause) : beginAttempt c s = { s with
      drawer := { s.drawer with state := .waitSupply, phaseTimer := none }
      supply := { s.supply with waiting := { s.supply.waiting with drawer := some 14 } }
      link := s.link.push (.drawerState .waitSupply s.drawer.state c s.drawer.attempts
        (if c = .kick then s.drawer.kickSource else none)) } := by
  obtain ⟨hnone, hok, -⟩ := hq
  simp [beginAttempt, walkQuietly, placeNeed, hnone, hok, Needs.put, walkOver, Needs.of, grantFor, Supply.free,
    Nat.not_le.2 hfree, drawerReport, report]

/-! ### NO_SALE and DRAWER_RESET -/

theorem noSale_notAttended (h : s.attendant = false) : noSaleRequest s = refuse .notAttended s := if_pos h

theorem noSale_inSale (h : s.attendant = true) (hsale : s.sale.current ≠ .idle) :
    noSaleRequest s = refuse .badState s := by
  have hstate : s.sale.current.state ≠ .idle := by
    cases hc : s.sale.current with
    | idle => exact absurd hc hsale
    | opened | tender => simp [CurrentSale.state]
  simp [noSaleRequest, h, hstate]

/-- NO_SALE, attended and outside a sale, is answered by the drawer's state (R130). -/
theorem noSale_byState (h : s.attendant = true) (hsale : s.sale.current = .idle) :
    noSaleRequest s = match s.drawer.state with
      | .closed => done (kick .noSale s)
      | .opened | .openAlarm => refuse .drawerOpen s
      | .waitSupply | .pullIn | .hold | .cool => refuse .busy s
      | .jammed => refuse .badState s := by
  cases hd : s.drawer.state <;> simp [noSaleRequest, h, hsale, hd, CurrentSale.state, DrawerState.inKick]

end

/-- Settles O52: each answer of NO_SALE and DRAWER_RESET is that of its first failing check, and a kick is an attempt
that is granted at once or waits. -/
theorem drawerIsKicked : Obligations.DrawerIsKicked := by
  intro s tag ha
  have kicks {t : State} (h : s.attendant = true) (hi : s.sale.current = .idle) (hc : s.drawer.state = .closed)
      (ht : kick .noSale s = t) (ho : OnlyReports s t) :
      exec (.noSale tag) s = .next (t.replies 0x20 tag .ok .empty) := by
    refine exec_granted ha rfl rfl ?_ ho
    simp only [handleRequest, noSale_byState h hi, hc, ht]
    rfl
  have refused {st : Status} (h : noSaleRequest s = refuse st s) :
      exec (.noSale tag) s = .next (s.replies 0x20 tag st .empty) := exec_refused ha rfl rfl h
  refine ⟨fun h => ⟨refused (noSale_notAttended h), exec_refused ha rfl rfl (if_pos h)⟩,
    fun h hs => refused (noSale_inSale h hs), fun h hi => ⟨?_, ?_, ?_⟩,
    fun h hi hq hc => ⟨fun hfree => ?_, fun hfree => ?_⟩,
    fun h hj => ?_, fun h hj => exec_refused ha rfl rfl ?_⟩
  · rintro (hd | hd) <;> exact refused (by simp [noSale_byState h hi, hd])
  · intro hd
    simp only [List.mem_cons, List.not_mem_nil, or_false] at hd
    obtain hd | hd | hd | hd := hd <;> exact refused (by simp [noSale_byState h hi, hd])
  · exact fun hd => refused (by simp [noSale_byState h hi, hd])
  · exact kicks h hi hc (kick_granted _ s hq hc hfree) (push_frame ..)
  · refine kicks h hi hc ?_ (push_frame ..)
    unfold kick
    rw [if_pos hc, beginAttempt_waits (by exact hq) (by exact hfree)]
    simp [hc]
  · refine exec_granted ha rfl rfl ?_ (push_frame ..)
    simp [handleRequest, drawerResetRequest, h, hj, done, answer, drawerReport, enterClosed, report]
  · simp [handleRequest, drawerResetRequest, h, hj]

end Sys2Proof.Machine
end

section
namespace Sys2Proof.Machine

/-! ### The phases of a drive on a quiet supply -/

/-- The drawer moved with the units it then holds and one report; a kick alone names its source (R132). -/
def movedDrawer (x : Drawer) (units : Nat) (cause : DrawerCause) (s : State) : State :=
  { s with
    drawer := x
    supply := { s.supply with granted := { s.supply.granted with drawer := units } }
    link := s.link.push (.drawerState x.state s.drawer.state cause x.attempts none) }

/-- The drawer as a drive leaves it, all its units returned (R126 to R129). -/
def drivenDrawer (s : State) : Drawer :=
  if s.store.live.drawerSensePresent = false then (enterClosed s).drawer
  else if s.drawer.senseOpen then (enterOpen s).drawer
  else if s.drawer.attempts = 1 then (enterCool s).drawer
  else (enterJammed s).drawer

section
variable {s : State}

theorem drivenDrawer_absent (hp : s.store.live.drawerSensePresent = false) :
    drivenDrawer s = (enterClosed s).drawer := if_pos hp

theorem drivenDrawer_opened (hp : s.store.live.drawerSensePresent = true) (ho : s.drawer.senseOpen = true) :
    drivenDrawer s = (enterOpen s).drawer := by
  simp [drivenDrawer, hp, ho]

/-- A drawer that has not opened cools after its first attempt and is JAMMED after its second (R126). -/
theorem drivenDrawer_shut (hp : s.store.live.drawerSensePresent = true) (ho : s.drawer.senseOpen = false) :
    drivenDrawer s = if s.drawer.attempts = 1 then (enterCool s).drawer else (enterJammed s).drawer := by
  simp [drivenDrawer, hp, ho]

theorem endDrive_eq (hq : s.quietSupply) (hd : s.drawer.state ≠ .waitSupply) {c : DrawerCause} (hc : c ≠ .kick) :
    endDrive c s = movedDrawer (drivenDrawer s) 0 c s := by
  unfold endDrive
  rw [releaseAll, releaseUnits_quiet _ _ _ hq hd]
  unfold movedDrawer drivenDrawer
  simp only [Grants.sub, Grants.of, Nat.sub_self, drawerReport, State.live, if_neg hc]
  split_ifs <;> rfl

/-- The end of a pull-in that holds (R125). -/
theorem pullInEnds_holds (hq : s.quietSupply) (hd : s.drawer.state = .pullIn) (hms : s.store.live.drawerHoldMs ≠ 0)
    (hsense : s.store.live.drawerSensePresent = false ∨ s.drawer.senseOpen = false)
    (hunits : s.supply.granted.drawer = 14) :
    pullInEnds s =
      movedDrawer { s.drawer with state := .hold, phaseTimer := some s.store.live.drawerHoldMs } 5 .pullEnd s := by
  have hclosed : s.senseIsOpen = false := by
    obtain h | h := hsense <;> simp [State.senseIsOpen, State.live, h]
  unfold pullInEnds
  rw [if_pos hd, if_neg (by simp [State.live, hms, hclosed])]
  unfold beginHold
  dsimp only
  rw [releaseUnits_quiet _ _ _ (by exact hq) (by simp)]
  simp [movedDrawer, drawerReport, report, Grants.sub, hunits, hd, State.live]

/-- The end of one that does not (R124). -/
theorem pullInEnds_ends (hd : s.drawer.state = .pullIn)
    (h : s.store.live.drawerHoldMs = 0 ∨ s.store.live.drawerSensePresent = true ∧ s.drawer.senseOpen = true) :
    pullInEnds s = endDrive .pullEnd s := by
  unfold pullInEnds
  rw [if_pos hd, if_pos]
  simpa [State.senseIsOpen, State.live] using h

/-- The cool's end without a sense switch (R127). -/
theorem coolEnds_absent (hd : s.drawer.state = .cool) (hp : s.store.live.drawerSensePresent = false) :
    coolEnds s = movedDrawer { s.drawer with state := .closed, phaseTimer := none, alarmTimer := none }
      s.supply.granted.drawer .coolEnd s := by
  simp [coolEnds, hd, State.live, hp, movedDrawer, drawerReport, enterClosed, report]

/-- With one a second attempt begins (R127). -/
theorem coolEnds_present (hd : s.drawer.state = .cool) (hp : s.store.live.drawerSensePresent = true) :
    coolEnds s = beginAttempt .coolEnd s := by
  simp [coolEnds, hd, State.live, hp]

end

/-- Settles O53: each phase timer's expiry ends the drive, holds, or begins the second attempt. -/
theorem driveRunsItsPhases : Obligations.DriveRunsItsPhases := by
  intro s hp hq d present alarm moved driveEnds
  have ends {i : Instr} {f : State → State} {c : DrawerCause} (hi : exec i s = .next (asEvent f s))
      (hf : f s = endDrive c s) (hd : d.state ≠ .waitSupply) (hc : c ≠ .kick) : driveEnds i c := by
    have driven {x : Drawer} (hx : drivenDrawer s = x) : exec i s = .next (endEvent (moved x 0 c)) :=
      exec_event hp hi (by rw [hf, endDrive_eq hq hd hc, hx]; rfl)
    exact ⟨fun h => driven (drivenDrawer_absent h), fun h ho => driven (drivenDrawer_opened h ho),
      fun h ho => ⟨fun hone => driven ((drivenDrawer_shut h ho).trans (if_pos hone)),
        fun hone => driven ((drivenDrawer_shut h ho).trans (if_neg hone))⟩⟩
  refine ⟨fun hd => ⟨fun hms hsense hunits => exec_event hp rfl (pullInEnds_holds hq hd hms hsense hunits),
      fun h => ends rfl (pullInEnds_ends hd h) (by simp [hd]) (by simp)⟩,
    fun hd => ⟨exec_event hp rfl (if_pos hd), ends rfl (if_pos hd) (by simp [hd]) (by simp)⟩,
    fun hd => ⟨fun h => exec_event hp rfl (coolEnds_absent hd h), fun h hunits hfree => exec_event hp rfl ?_,
      fun h hfree => exec_event hp rfl ?_⟩,
    fun hd => exec_event hp rfl (if_neg hd), fun hd => ⟨exec_event hp rfl (if_neg hd), exec_event hp rfl (if_neg hd)⟩,
    fun hd => exec_event hp rfl (if_neg hd)⟩
  · rw [coolEnds_present hd h, beginAttempt_granted hq hfree]
    simp [moved, d, hunits]
  · rw [coolEnds_present hd h, beginAttempt_waits hq hfree]
    simp [d, hd]

end Sys2Proof.Machine
end

section
namespace Sys2Proof.Machine
namespace Tone

/-! ### What starts, steps and ends a tone -/

/-- The tone that starts on a silent output (R133). -/
def started (f : Nat) (t : Tone) : Tone :=
  { t with
    sounding := true
    level := false
    halfPeriod := halfPeriodOf f
    pendingHalf := none
    toggleCounter := halfPeriodOf f }

/-- A requester that has taken the output, before its tone starts (R134). -/
def owned (owner : ToneOwner) (beep : Option BeepParams) (t : Tone) : Tone :=
  { t with
    owner := owner
    beep := beep
    position := some { step := 0, remaining := (patternStep owner beep 0).2 } }

section
variable {t : Tone} {owner : ToneOwner} {beep : Option BeepParams}

theorem gain_silent (h : t.sounding = false) :
    t.gain owner beep = (t.owned owner beep).started (toneFrequency owner beep) := by
  simp [gain, sound, owned, started, h]

theorem gain_same (hs : t.sounding = true) (h : t.frequency = toneFrequency owner beep) :
    t.gain owner beep = t.owned owner beep := by
  simp [gain, sound, owned, hs, h]

theorem gain_other (hs : t.sounding = true) (h : t.frequency ≠ toneFrequency owner beep) :
    t.gain owner beep = { t.owned owner beep with pendingHalf := some (halfPeriodOf (toneFrequency owner beep)) } := by
  simp [gain, sound, owned, hs, h]

theorem release_free (hd : t.drawerAlarmHeld = false) (hb : t.bagAlertHeld = false) :
    t.release = { t.silence with owner := .none, position := none, beep := none } := by
  simp [release, hd, hb]

/-- A one-shot takes an output that nobody above it holds (R135). -/
theorem placeOneShot_taken (hd : t.drawerAlarmHeld = false) (hb : t.bagAlertHeld = false)
    (hr : owner.rank ≤ t.owner.rank) : t.placeOneShot owner beep = t.gain owner beep := by
  simp [placeOneShot, hd, hb, Nat.not_lt.2 hr]

/-! ### The end of a pattern step -/

variable {k ms j n : Nat}

theorem stepEnd_falls (hp : t.position = some { step := k, remaining := ms })
    (hnext : nextStep t.owner t.beep k = some j)
    (hpart : patternStep t.owner t.beep j = (false, n)) :
    t.stepEnd = silence { t with position := some { step := j, remaining := n } } := by
  simp [stepEnd, hp, hnext, hpart]

theorem stepEnd_rises (hp : t.position = some { step := k, remaining := ms })
    (hnext : nextStep t.owner t.beep k = some j)
    (hpart : patternStep t.owner t.beep j = (true, n)) (hs : t.sounding = false) :
    t.stepEnd = started t.frequency { t with position := some { step := j, remaining := n } } := by
  simp [stepEnd, hp, hnext, hpart, sound, hs, started]

theorem stepEnd_done (hp : t.position = some { step := k, remaining := ms }) (hnext : nextStep t.owner t.beep k = none)
    (hd : t.drawerAlarmHeld = false) (hb : t.bagAlertHeld = false) :
    t.stepEnd = { t.silence with owner := .none, position := none, beep := none } := by
  simp [stepEnd, hp, hnext, release_free hd hb]

/-! ### The steps of BEEP -/

variable {b : BeepParams} {i : Nat}

/-- On part `i` of a BEEP is not its last: a gap follows (R134). -/
theorem nextStep_beep_on (hi : i + 1 < b.count) : nextStep .beep (some b) (2 * i) = some (2 * i + 1) := by
  simp only [nextStep, Option.map_some, Option.getD_some]
  exact if_pos (by omega)

/-- After a gap the next on part follows. -/
theorem nextStep_beep_gap (hi : i + 1 < b.count) : nextStep .beep (some b) (2 * i + 1) = some (2 * i + 1 + 1) := by
  simp only [nextStep, Option.map_some, Option.getD_some]
  exact if_pos (by omega)

/-- The last on part ends the BEEP. -/
theorem nextStep_beep_last (hi : i + 1 = b.count) : nextStep .beep (some b) (2 * i) = none := by
  simp only [nextStep, Option.map_some, Option.getD_some]
  exact if_neg (by omega)

theorem patternStep_beep_gap : patternStep .beep (some b) (2 * i + 1) = (false, 100) := if_neg (by omega)

theorem patternStep_beep_on : patternStep .beep (some b) (2 * i + 1 + 1) = (true, b.onTime) := if_pos (by omega)

end
end Tone

/-- Settles O55: BEEP takes the output by the rule of gains, the toggle counter by its two cases, and each end of a step
by the owner's pattern. -/
theorem toneIsSounded : Obligations.ToneIsSounded := by
  intro s tag n f o hp x tone held half sounds silent fits beeps takes refused toggles ends
  have event {i : Instr} {g : Tone → Tone} {y : Tone}
      (hi : exec i s = .next (asEvent (fun u => { u with tone := g u.tone }) s)) (hy : g x = y) :
      exec i s = .next (endEvent (tone y)) := exec_event hp hi (by rw [hy])
  have hfree (h : ¬held) : x.drawerAlarmHeld = false ∧ x.bagAlertHeld = false := by simpa [held] using h
  have gains {y : Tone} (ha : s.accepts) (hfits : fits) (hheld : ¬held) (ho : x.owner = .none ∨ x.owner = .beep)
      (hy : x.gain .beep (some { frequency := f.toNat, onTime := o.toNat, count := n.toNat }) = y) : takes y := by
    obtain ⟨hd, hb⟩ := hfree hheld
    have hcard : x.owner ≠ .cardBeep := by obtain h | h := ho <;> simp [h]
    have hrank : ToneOwner.beep.rank ≤ x.owner.rank := by obtain h | h := ho <;> simp [h, ToneOwner.rank]
    have hreq : beepRequest f o n s = done (tone y) := by
      unfold beepRequest
      rw [if_neg (not_not.2 hfits), if_neg fun h => (or_assoc.2 h).elim hheld hcard]
      rw [placeOneShot, Tone.placeOneShot_taken hd hb hrank, hy]
    exact exec_granted ha rfl rfl hreq
  refine ⟨fun ha h => exec_refused ha rfl rfl (if_pos h), fun ha hfits h => exec_refused ha rfl rfl ?_,
    fun ha hfits hheld => ⟨fun ho hs => gains ha hfits hheld ho (Tone.gain_silent hs), fun b ho hb hs =>
      ⟨fun hsame => gains ha hfits hheld (.inr ho) (Tone.gain_same hs ?_),
        fun hother => gains ha hfits hheld (.inr ho) (Tone.gain_other hs ?_)⟩⟩,
    fun hs hnone => event rfl ?_, fun h hs hsome => event rfl ?_, fun hs => event rfl ?_, fun k ms hpos => ?_⟩
  · exact (if_neg (not_not.2 hfits)).trans (if_pos (or_assoc.1 h))
  · simpa [Tone.frequency, toneFrequency, ho, hb] using hsame
  · simpa [Tone.frequency, toneFrequency, ho, hb] using hother
  · simp [Tone.toggle, x, hs, hnone]
  · simp [Tone.toggle, x, hs, hsome]
  · simp [Tone.toggle, x, hs]
  · intro falls rises done
    have fall {w : ToneOwner} {q : Option BeepParams} {off : Nat} (ho : x.owner = w) (hb : x.beep = q)
        (hnext : nextStep w q k = some (k + 1)) (hpart : patternStep w q (k + 1) = (false, off)) : falls off := by
      subst ho hb
      exact event rfl (Tone.stepEnd_falls hpos hnext hpart)
    have rise {w : ToneOwner} {q : Option BeepParams} {j on : Nat} (ho : x.owner = w) (hb : x.beep = q)
        (hnext : nextStep w q k = some j) (hpart : patternStep w q j = (true, on)) :
        rises j on (toneFrequency w q) := by
      subst ho hb
      exact fun hs => event rfl (Tone.stepEnd_rises hpos hnext hpart hs)
    have last {w : ToneOwner} {q : Option BeepParams} (ho : x.owner = w) (hb : x.beep = q)
        (hnext : nextStep w q k = none) : done := by
      subst ho hb
      exact fun hheld => event rfl (Tone.stepEnd_done hpos hnext (hfree hheld).1 (hfree hheld).2)
    refine ⟨fun ho => ⟨?_, ?_⟩, fun ho => ⟨?_, ?_, ?_, ?_⟩, fun ho => last ho rfl rfl, fun b i ho hb _ => ⟨?_, ?_, ?_⟩⟩
    · rintro rfl
      exact fall ho rfl rfl rfl
    · rintro rfl
      exact rise ho rfl rfl rfl
    · rintro (rfl | rfl) <;> exact fall ho rfl rfl rfl
    · rintro rfl
      exact fall ho rfl rfl rfl
    · rintro (rfl | rfl) <;> exact rise ho rfl rfl rfl
    · rintro rfl
      exact rise ho rfl rfl rfl
    · rintro rfl hi
      exact fall ho hb (Tone.nextStep_beep_on hi) Tone.patternStep_beep_gap
    · rintro rfl hi
      exact rise ho hb (Tone.nextStep_beep_gap hi) Tone.patternStep_beep_on
    · rintro rfl hi
      exact last ho hb (Tone.nextStep_beep_last hi)

end Sys2Proof.Machine
end

section
namespace Sys2Proof.Machine
namespace Tone

/-! ### The drawer alarm on the output -/

section
variable {t : Tone}

theorem withdraw_notOwned {owner : ToneOwner} (h : t.owner ≠ owner) : t.withdraw owner = t.mark owner false := if_neg h

/-- The withdrawn alarm gives the output up, with no alert held (R135). -/
theorem withdraw_alarm_free (h : t.owner = .drawerAlarm) (hb : t.bagAlertHeld = false) :
    t.withdraw .drawerAlarm =
      { silence (t.mark .drawerAlarm false) with owner := .none, position := none, beep := none } :=
  (if_pos h).trans (release_free rfl hb)

/-- A held bagging alert gains the output from it (R135). -/
theorem withdraw_alarm_alert (h : t.owner = .drawerAlarm) (hb : t.bagAlertHeld = true) :
    t.withdraw .drawerAlarm = (t.mark .drawerAlarm false).gain .bagAlert none :=
  (if_pos h).trans ((if_neg (by simp [mark])).trans (if_pos hb))

/-- The drawer alarm has precedence over every other owner (R134, R135). -/
theorem placeHeld_drawerAlarm (h : t.owner ≠ .drawerAlarm) :
    t.placeHeld .drawerAlarm = (t.mark .drawerAlarm true).gain .drawerAlarm none := by
  refine if_pos ?_
  cases ho : t.owner with
  | drawerAlarm => exact absurd ho h
  | _ => decide

end
end Tone

/-! ### The sense in each state of the drawer -/

/-- The debounced sense at a level, the state machine not yet told (R120). -/
def sensedAt (level : Bool) (s : State) : State := { s with drawer := { s.drawer with senseOpen := level } }

/-- A drawer that has opened, and says which state it left and why (R128, R132). -/
def openedBy (cause : DrawerCause) (s : State) : State := drawerReport s.drawer.state cause (enterOpen s)

section
variable {s : State} {level : Bool}

theorem senseChanged_held (h : s.drawer.senseOpen = level) : senseChanged level s = s := if_pos h

theorem senseChanged_absent (h : s.drawer.senseOpen ≠ level) (hp : s.store.live.drawerSensePresent = false) :
    senseChanged level s = sensedAt level s := by
  simp [senseChanged, h, State.live, hp, sensedAt]

theorem senseChanged_present (h : s.drawer.senseOpen ≠ level) (hp : s.store.live.drawerSensePresent = true) :
    senseChanged level s = senseGiven level (sensedAt level s) := by
  simp [senseChanged, h, State.live, hp, sensedAt]

/-- The states the opened sense leaves at once for OPEN (R123, R127, R129). -/
theorem senseToOpen_opens (cause : DrawerCause)
    (h : s.drawer.state = .closed ∧ cause = .forced ∨
      (s.drawer.state = .cool ∨ s.drawer.state = .jammed) ∧ cause = .senseOpen) :
    senseToOpen s = openedBy cause s := by
  obtain ⟨hd, rfl⟩ | ⟨hd | hd, rfl⟩ := h <;> simp [senseToOpen, openedBy, hd]

/-- In WAIT_SUPPLY the request is withdrawn first (R123). -/
theorem senseToOpen_waiting (h : s.drawer.state = .waitSupply)
    {u : State} (hu : withdrawRequest .drawer s = u) (hd : u.drawer = s.drawer) :
    senseToOpen s = openedBy .senseOpen u := by
  simp [senseToOpen, openedBy, h, hu, hd]

theorem senseToOpen_hold (h : s.drawer.state = .hold) : senseToOpen s = endDrive .senseOpen s := by
  simp [senseToOpen, h]

theorem senseToOpen_stays (h : s.drawer.state ∈ [DrawerState.pullIn, .opened, .openAlarm]) : senseToOpen s = s := by
  simp only [List.mem_cons, List.not_mem_nil, or_false] at h
  obtain h | h | h := h <;> simp [senseToOpen, h]

theorem senseToClosed_opened (h : s.drawer.state = .opened) :
    senseToClosed s = drawerReport s.drawer.state .senseClosed (enterClosed s) := by
  simp [senseToClosed, h]

theorem senseToClosed_alarm (h : s.drawer.state = .openAlarm) :
    senseToClosed s = withdrawHeld .drawerAlarm (drawerReport s.drawer.state .senseClosed (enterClosed s)) := by
  simp [senseToClosed, h]

theorem senseToClosed_stays (h : s.drawer.state ∉ [DrawerState.opened, .openAlarm]) : senseToClosed s = s := by
  simp only [List.mem_cons, List.not_mem_nil, or_false, not_or] at h
  unfold senseToClosed
  split <;> simp_all

/-- A drawer's request withdrawn with nothing behind it (R138). -/
theorem withdrawDrawer_alone (hw : s.supply.waiting = ⟨some 14, none, none, none⟩) :
    withdrawRequest .drawer s = { s with supply := { s.supply with waiting := ⟨none, none, none, none⟩ } } := by
  simp only [withdrawRequest, hw, Needs.of, Needs.put]
  exact walk_of_none_waiting rfl

/-- A drawer's request withdrawn with a motor's behind it, which fits (R138, R139). -/
theorem withdrawDrawer_motor (hw : s.supply.waiting = ⟨some 14, none, some 3, none⟩) (hok : s.supply.low = false)
    (hfree : 3 ≤ s.supply.budget - s.supply.granted.total) (hd : s.drawer.state = .waitSupply) :
    withdrawRequest .drawer s = { s with
      supply := { s.supply with
        waiting := ⟨none, none, none, none⟩
        granted := { s.supply.granted with motor := s.supply.granted.motor + 3 } }
      engine := s.engine.beginStep } := by
  simp [withdrawRequest, hw, Needs.of, Needs.put, walk, walkQuietly, hok, walkOver, grantFor, Supply.free, hfree,
    grantUnits, beginWork, Grants.add, hd]

end

/-- Settles O54: the level is recorded, and the state machine told of it moves as its state says; the alarm's timer
places the drawer alarm over every other owner. -/
theorem senseAndAlarm : Obligations.SenseAndAlarm := by
  intro s open' hp d x timer noNeed recorded opened closes alarmed begins
  refine ⟨fun h => exec_event hp rfl (senseChanged_held h), fun h hn => ?_, fun hs hpres => ?_, fun hs hpres => ?_,
    fun hd ht ho => ?_, fun h => exec_event hp rfl ?_⟩
  · exact exec_event hp rfl (senseChanged_absent h hn)
  · have told {t : State} (h : senseToOpen (sensedAt true s) = t) : exec (.senseChange true) s = .next (endEvent t) :=
      exec_event hp rfl ((senseChanged_present (fun h => by simp [d, h] at hs) hpres).trans h)
    let u := sensedAt true s
    refine ⟨fun hd => told (senseToOpen_opens .forced (.inl ⟨hd, rfl⟩)),
      fun hd => told (senseToOpen_opens .senseOpen (.inr ⟨hd, rfl⟩)),
      fun hd => ⟨fun hw => told (senseToOpen_waiting (s := u) hd (withdrawDrawer_alone hw) rfl),
        fun hw hok hfree => told (senseToOpen_waiting (s := u) hd (withdrawDrawer_motor hw hok hfree hd) rfl)⟩,
      fun hd hq => told ?_, fun hd => told (senseToOpen_stays hd)⟩
    have hwait : u.drawer.state ≠ .waitSupply := fun h => (nomatch hd.symm.trans h)
    rw [senseToOpen_hold (s := u) hd, endDrive_eq (s := u) hq hwait (by simp), drivenDrawer_opened (s := u) hpres rfl]
    rfl
  · have told {t : State} (h : senseToClosed (sensedAt false s) = t) :
        exec (.senseChange false) s = .next (endEvent t) :=
      exec_event hp rfl ((senseChanged_present (fun h => by simp [d, h] at hs) hpres).trans h)
    let u := sensedAt false s
    refine ⟨fun hd => told (senseToClosed_opened (s := u) hd), fun hd => ?_, fun hd => told (senseToClosed_stays hd)⟩
    have withdrawn {y : Tone} (hy : x.withdraw .drawerAlarm = y) : closes y := by
      subst hy
      exact told (senseToClosed_alarm (s := u) hd)
    refine ⟨fun ho => withdrawn (Tone.withdraw_notOwned ho), fun ho hb => withdrawn (Tone.withdraw_alarm_free ho hb),
      fun ho hb => ⟨fun hs => withdrawn ?_, fun hs => withdrawn ?_⟩⟩
    · have hfreq : (x.mark .drawerAlarm false).frequency ≠ 3000 := by
        simp [Tone.frequency, Tone.mark, ho, toneFrequency]
      exact (Tone.withdraw_alarm_alert ho hb).trans (Tone.gain_other hs hfreq)
    · exact (Tone.withdraw_alarm_alert ho hb).trans (Tone.gain_silent hs)
  · have placed {y : Tone} (hy : x.placeHeld .drawerAlarm = y) : alarmed y := by
      subst hy
      exact exec_event hp rfl (if_pos ⟨hd, Option.isSome_iff_ne_none.2 ht⟩)
    refine ⟨fun hs => placed ?_, fun hs hother => placed ?_⟩
    · exact (Tone.placeHeld_drawerAlarm ho).trans (Tone.gain_silent hs)
    · have hfreq : (x.mark .drawerAlarm true).frequency ≠ 2000 := by
        obtain h | h := hother <;> simp [Tone.frequency, Tone.mark, h, toneFrequency]
      exact (Tone.placeHeld_drawerAlarm ho).trans (Tone.gain_other hs hfreq)
  · refine if_neg fun hruns => ?_
    obtain hd | ht := h
    · exact hd hruns.1
    · exact Option.isSome_iff_ne_none.1 hruns.2 ht

end Sys2Proof.Machine
end

section
namespace Sys2Proof.Machine

/-! ### The bounds of the report queue, the receive slots and the grants -/

/-- At most 24 reports and two frames wait, and the grants stay within the budget in force (R139, R189, R193). -/
structure State.Bounded (s : State) : Prop where
  reports : s.link.reports.length ≤ 24
  slots : s.link.slots.length ≤ 2
  budget : s.budgetKept

/-- What the bounds look at: the two queues and the supply. -/
structure BoundView where
  reports : List QueuedReport
  slots   : List Frame
  supply  : Supply

/-- That part of a state. -/
def State.boundView (s : State) : BoundView where
  reports := s.link.reports
  slots   := s.link.slots
  supply  := s.supply

/-- A later state that keeps the bounds. -/
structure KeepsBounds (s t : State) : Prop where
  keeps : s.Bounded → t.Bounded

namespace KeepsBounds

theorem trans {a b c : State} (h : KeepsBounds a b) (h' : KeepsBounds b c) : KeepsBounds a c := ⟨h'.keeps ∘ h.keeps⟩

/-- A later state that the bounds cannot tell apart. -/
theorem frame {s t : State} (h : t.boundView = s.boundView) : KeepsBounds s t := by
  simp only [State.boundView, BoundView.mk.injEq] at h
  obtain ⟨hreports, hslots, hsupply⟩ := h
  refine ⟨?_⟩
  rintro ⟨reports, slots, budget⟩
  exact ⟨hreports ▸ reports, hslots ▸ slots, by rw [State.budgetKept, hsupply]; exact budget⟩

theorem refl (s : State) : KeepsBounds s s := frame rfl

/-- An earlier state that the bounds cannot tell apart. -/
theorem after {s s' t : State} (h : KeepsBounds s' t) (hs : s'.boundView = s.boundView) : KeepsBounds s t :=
  (frame hs).trans h

/-- One report more, or the lost flag in its place (R193). -/
theorem report (r : Report) (s : State) : KeepsBounds s (report r s) := by
  refine ⟨?_⟩
  rintro ⟨reports, slots, budget⟩
  exact ⟨push_bounded r s.link reports, by simpa using slots, budget⟩

/-- A state that shows the bounds what a report shows them. -/
theorem reported {s t : State} (r : Report) (h : t.boundView = (Machine.report r s).boundView := by rfl) :
    KeepsBounds s t := (report r s).trans (frame h)

/-- One report at most. -/
theorem reportedUnless {s t : State} {p : Prop} [Decidable p] (r : Report)
    (hlink : t.link = if p then s.link else s.link.push r) (hsupply : t.supply = s.supply) : KeepsBounds s t := by
  split at hlink
  · exact frame (by simp only [State.boundView, hlink, hsupply])
  · exact reported r (by simp only [State.boundView, hlink, hsupply]; rfl)

/-- The budget and the grants change within each other, and no queue is touched (R139, R142). -/
theorem supplied {s t : State} (hlink : t.link = s.link) (h : s.budgetKept → t.budgetKept) : KeepsBounds s t := by
  refine ⟨?_⟩
  rintro ⟨reports, slots, budget⟩
  exact ⟨by rw [hlink]; exact reports, by rw [hlink]; exact slots, h budget⟩

/-! ### The supply -/

theorem total_add (g : Grants) (r : Requester) (n : Nat) : (g.add r n).total = g.total + n := by
  cases r <;> simp only [Grants.add, Grants.total] <;> omega

theorem total_sub_le (g : Grants) (r : Requester) (n : Nat) : (g.sub r n).total ≤ g.total := by
  cases r <;> simp only [Grants.sub, Grants.total] <;> omega

/-- No request is granted more than is free (R139, R140). -/
theorem grantFor_le {r : Requester} {need free n : Nat} (h : grantFor r need free = some n) : n ≤ free := by
  cases r with
  | head =>
    simp only [grantFor, Option.ite_none_right_eq_some, Option.some.injEq] at h
    omega
  | drawer | cutter | motor =>
    simp only [grantFor, Option.ite_none_right_eq_some, Option.some.injEq] at h
    omega

/-- A grant of units that are free keeps the grants within the budget (R139). -/
theorem grantUnits {r : Requester} {n : Nat} {s : State} (h : n ≤ s.supply.free) : KeepsBounds s (grantUnits r n s) := by
  refine supplied (by simp) fun hs => ?_
  have hsupply : (Machine.grantUnits r n s).supply =
      { s.supply with granted := s.supply.granted.add r n, waiting := s.supply.waiting.put r none } := by
    cases r <;> rfl
  rw [State.budgetKept, hsupply, total_add]
  have hfree : n ≤ s.supply.budget - s.supply.granted.total := h
  show s.supply.granted.total + n ≤ s.supply.budget
  omega

theorem walkOver (rs : List Requester) (s : State) : KeepsBounds s (walkOver rs s) := by
  induction rs generalizing s with
  | nil => exact refl s
  | cons r rest ih =>
    unfold Machine.walkOver
    split
    · exact ih s
    split
    · next hunits => exact (grantUnits (grantFor_le hunits)).trans (ih _)
    · exact refl s

theorem walkQuietly (s : State) : KeepsBounds s (walkQuietly s) := by
  unfold Machine.walkQuietly
  split
  · exact refl s
  · exact walkOver _ s

theorem drawerReport (left : DrawerState) (c : DrawerCause) (s : State) : KeepsBounds s (drawerReport left c s) :=
  report ..

theorem walk (s : State) : KeepsBounds s (walk s) := by
  unfold Machine.walk
  dsimp only
  split
  · exact (walkQuietly s).trans (drawerReport ..)
  · exact walkQuietly s

theorem requestUnits (r : Requester) (n : Nat) (s : State) : KeepsBounds s (requestUnits r n s) :=
  trans (b := placeNeed r n s) (supplied rfl id) (walk _)

theorem withdrawRequest (r : Requester) (s : State) : KeepsBounds s (withdrawRequest r s) := by
  unfold Machine.withdrawRequest
  split
  · exact refl s
  · refine trans ?_ (walk _)
    exact supplied rfl id

/-- A budget that comes into force finds nothing granted (R142). -/
theorem settleBudget (s : State) : KeepsBounds s (settleBudget s) := by
  unfold Machine.settleBudget
  split
  · next h =>
    refine trans (supplied (t := { s with supply := { s.supply with budget := s.live.supplyBudget } }) rfl fun _ => ?_)
      (report ..)
    exact h.1.le.trans (Nat.zero_le _)
  · exact refl s

theorem budgetSet (s : State) : KeepsBounds s (budgetSet s) := (settleBudget s).trans (walk _)

theorem releaseUnits (r : Requester) (n : Nat) (s : State) : KeepsBounds s (releaseUnits r n s) := by
  refine trans ?_ ((settleBudget _).trans (walk _))
  exact supplied rfl (total_sub_le ..).trans

theorem releaseAll (r : Requester) (s : State) : KeepsBounds s (releaseAll r s) := releaseUnits ..

/-! ### The drawer -/

theorem beginAttempt (c : DrawerCause) (s : State) : KeepsBounds s (beginAttempt c s) := by
  refine trans ?_ ((walkQuietly _).trans (drawerReport ..))
  exact supplied rfl id

theorem kick (k : KickSource) (s : State) : KeepsBounds s (kick k s) := by
  unfold Machine.kick
  split
  · exact (beginAttempt ..).after rfl
  · exact report ..

theorem endDrive (c : DrawerCause) (s : State) : KeepsBounds s (endDrive c s) := by
  unfold Machine.endDrive
  dsimp only
  refine trans ((releaseAll .drawer s).trans ?_) (drawerReport ..)
  split_ifs <;> exact frame rfl

theorem beginHold (s : State) : KeepsBounds s (beginHold s) := ((releaseUnits ..).trans (drawerReport ..)).after rfl

theorem senseToOpen (s : State) : KeepsBounds s (senseToOpen s) := by
  unfold Machine.senseToOpen
  split
  · exact (drawerReport ..).after rfl
  · exact (withdrawRequest .drawer s).trans ((drawerReport ..).after rfl)
  · exact endDrive ..
  · exact (drawerReport ..).after rfl
  · exact (drawerReport ..).after rfl
  all_goals exact refl s

theorem senseToClosed (s : State) : KeepsBounds s (senseToClosed s) := by
  unfold Machine.senseToClosed
  split
  · exact (drawerReport ..).after rfl
  · exact trans (b := Machine.drawerReport .openAlarm .senseClosed (enterClosed s)) ((drawerReport ..).after rfl)
      (frame rfl)
  all_goals exact refl s

theorem senseGiven (b : Bool) (s : State) : KeepsBounds s (senseGiven b s) := by
  unfold Machine.senseGiven
  split
  · exact senseToOpen s
  · exact senseToClosed s

theorem sensePresentSet (s : State) : KeepsBounds s (sensePresentSet s) := by
  unfold Machine.sensePresentSet
  split_ifs
  · exact senseGiven ..
  · exact senseToClosed s
  · exact refl s

theorem senseChanged (b : Bool) (s : State) : KeepsBounds s (senseChanged b s) := by
  unfold Machine.senseChanged
  dsimp only
  split_ifs
  · exact refl s
  · exact (senseGiven ..).after rfl
  · exact frame rfl

theorem pullInEnds (s : State) : KeepsBounds s (pullInEnds s) := by
  unfold Machine.pullInEnds
  split_ifs
  · exact endDrive ..
  · exact beginHold s
  · exact refl s

theorem holdEnds (s : State) : KeepsBounds s (holdEnds s) := by
  unfold Machine.holdEnds
  split
  · exact endDrive ..
  · exact refl s

theorem coolEnds (s : State) : KeepsBounds s (coolEnds s) := by
  unfold Machine.coolEnds
  split_ifs
  · exact beginAttempt ..
  · exact (drawerReport ..).after rfl
  · exact refl s

theorem alarmExpires (s : State) : KeepsBounds s (alarmExpires s) := by
  unfold Machine.alarmExpires
  split
  · refine trans ?_ (frame (s := Machine.drawerReport .opened .alarm
      { s with drawer := { s.drawer with state := .openAlarm, alarmTimer := none } }) rfl)
    exact (drawerReport ..).after rfl
  · exact refl s

end KeepsBounds
end Sys2Proof.Machine
end

section
namespace Sys2Proof.Machine
namespace KeepsBounds

/-! ### The printer -/

theorem printerReport (left : PrinterCondition) (e : PrinterEvent) (c : Option PauseCause) (s : State) :
    KeepsBounds s (printerReport left e c s) := report ..

theorem jobReport (j : Job) (left : Option JobState) (c : JobCause) (n : Nat) (s : State) :
    KeepsBounds s (jobReport j left c n s) := report ..

theorem setSpeed (i : Nat) (s : State) : KeepsBounds s (setSpeed i s) := frame rfl

theorem requestMotor (s : State) : KeepsBounds s (requestMotor s) := by
  unfold Machine.requestMotor
  dsimp only
  split
  · exact (requestUnits ..).trans (setSpeed ..)
  · exact requestUnits ..

theorem rowRequest (s : State) : KeepsBounds s (rowRequest s) := by
  unfold Machine.rowRequest
  split
  · exact refl s
  split_ifs
  · exact requestUnits ..
  · exact requestUnits ..
  · exact requestMotor s

theorem beginRow (l : LineProgress) (s : State) : KeepsBounds s (beginRow l s) := by
  unfold Machine.beginRow
  exact (rowRequest _).after rfl

theorem requestCut (s : State) : KeepsBounds s (requestCut s) := (requestUnits ..).after rfl

theorem proceed (s : State) : KeepsBounds s (proceed s) := by
  unfold Machine.proceed
  split
  · exact refl s
  dsimp only
  repeat' split
  all_goals first | exact beginRow .. | exact requestCut s | exact refl s

theorem giveLine (s : State) : KeepsBounds s (giveLine s) := by
  unfold Machine.giveLine
  split <;> exact frame rfl

theorem startJob (c : JobCause) (s : State) : KeepsBounds s (startJob c s) := by
  unfold Machine.startJob
  split
  · exact refl s
  split
  · extract_lets paused j' engine e queue s1 s2 s3
    have given : KeepsBounds s s1 := (giveLine _).after rfl
    have started : KeepsBounds s2 s3 := by
      dsimp only [s3]
      split
      · exact printerReport ..
      · exact refl s2
    exact ((given.trans (jobReport ..)).trans started).trans (proceed _)
  · exact refl s

theorem acceptJob (j : Job) (s : State) : KeepsBounds s (acceptJob j s) := by
  unfold Machine.acceptJob
  dsimp only
  split
  · exact (startJob ..).after rfl
  · exact (jobReport ..).after rfl

theorem jobDone (j : Job) (rest : List Job) (s : State) : KeepsBounds s (jobDone j rest s) := by
  unfold Machine.jobDone
  extract_lets queue engine s1 s2 s3 engine' s4
  have ended : KeepsBounds s s3 := by
    have reported : KeepsBounds s s2 := (jobReport ..).after rfl
    dsimp only [s3]
    split
    · exact reported.trans (frame rfl)
    · exact reported
  have idled : KeepsBounds s s4 := ended.trans (frame rfl)
  split_ifs
  · exact idled.trans (printerReport ..)
  · exact idled
  · exact ended.trans (startJob ..)

theorem lineComplete (s : State) : KeepsBounds s (lineComplete s) := by
  unfold Machine.lineComplete
  split
  · exact frame rfl
  split
  · exact ((giveLine _).trans (proceed _)).after rfl
  · exact jobDone ..

theorem abandonedEnds (s : State) : KeepsBounds s (abandonedEnds s) := (proceed _).after rfl

theorem markStop (s : State) : KeepsBounds s (markStop s) := by
  unfold Machine.markStop
  repeat' split
  all_goals exact frame rfl

theorem afterRow (s : State) : KeepsBounds s (afterRow s) := by
  unfold Machine.afterRow
  split
  · exact refl s
  split_ifs
  · exact lineComplete s
  · exact markStop s
  · exact proceed s

theorem rowEnds (r : RowProgress) (s : State) : KeepsBounds s (rowEnds r s) := by
  unfold Machine.rowEnds
  dsimp only
  split <;> exact (afterRow _).after rfl

theorem phaseEnds (s : State) : KeepsBounds s (phaseEnds s) := by
  have released : KeepsBounds s (Machine.releaseAll .head { s with engine := { s.engine with phase := none } }) :=
    (releaseAll ..).after rfl
  unfold Machine.phaseEnds
  split
  · exact refl s
  dsimp only
  split
  · exact released.trans (abandonedEnds _)
  · exact released.trans (rowRequest _)

theorem stepEnds (s : State) : KeepsBounds s (stepEnds s) := by
  have released : KeepsBounds s (Machine.releaseAll .motor { s with engine := { s.engine with stepRunning := none } }) :=
    (releaseAll ..).after rfl
  unfold Machine.stepEnds
  split
  · exact refl s
  dsimp only
  split
  · exact released.trans (abandonedEnds _)
  split
  · exact released
  split
  · exact released.trans ((requestMotor _).after rfl)
  · exact released.trans (rowEnds ..)

theorem cutEnds (s : State) : KeepsBounds s (cutEnds s) := by
  have released : KeepsBounds s (Machine.setSpeed 0 (Machine.releaseAll .cutter
      { s with engine := { s.engine with cutter := .rest, cutTimer := none, seenAway := false } })) :=
    ((releaseAll ..).trans (setSpeed ..)).after rfl
  unfold Machine.cutEnds
  dsimp only
  split
  · exact released.trans (abandonedEnds _)
  · exact released.trans (lineComplete _)

theorem leaveFault (s : State) : KeepsBounds s (leaveFault s) :=
  trans (b := faultLeft s) (reported _) (startJob ..)

theorem homeReturns (s : State) : KeepsBounds s (homeReturns s) := by
  unfold Machine.homeReturns
  dsimp only
  split_ifs
  · exact (leaveFault _).after rfl
  · exact (cutEnds _).after rfl
  · exact frame rfl

theorem cutJams (s : State) : KeepsBounds s (cutJams s) := by
  unfold Machine.cutJams
  split
  · exact ((releaseAll ..).trans (printerReport ..)).after rfl
  · exact refl s

theorem refreshReasons (s : State) : KeepsBounds s (refreshReasons s) := frame rfl

theorem enterPause (c : PauseCause) (s : State) : KeepsBounds s (enterPause c s) := by
  have paused (e : Engine) (left : PrinterCondition) (x : Option PauseCause) :
      KeepsBounds s (Machine.printerReport left .causeRaised x { s with engine := e }) := (printerReport ..).after rfl
  unfold Machine.enterPause
  dsimp only
  split
  · exact paused ..
  · exact trans (paused ..) ((jobReport ..).after rfl)

theorem leavePause (c : PauseCause) (s : State) : KeepsBounds s (leavePause c s) := by
  have resumed (u : State) : KeepsBounds u (match u.engine.line with
      | none => u
      | some l =>
        if l.interrupted ∧ u.engine.row = none then Machine.proceed (Machine.giveLine u) else Machine.proceed u) := by
    split
    · exact refl u
    split
    · exact (giveLine u).trans (proceed _)
    · exact proceed u
  have left (e : Engine) (x : Option PauseCause) :
      KeepsBounds s (Machine.printerReport .paused .causeGone x { s with engine := e }) := (printerReport ..).after rfl
  unfold Machine.leavePause
  refine trans ?_ (resumed _)
  dsimp only
  split
  · exact left ..
  · exact trans (left ..) ((jobReport ..).after rfl)

theorem causeRaised (c : PauseCause) (s : State) : KeepsBounds s (causeRaised c s) := by
  unfold Machine.causeRaised
  split
  · exact refl s
  dsimp only
  split
  · exact (enterPause ..).after rfl
  · exact (((refreshReasons _).trans (markStop _)).trans (printerReport ..)).after rfl
  · exact (printerReport ..).after rfl
  · exact (printerReport ..).after rfl

theorem causeGone (c : PauseCause) (s : State) : KeepsBounds s (causeGone c s) := by
  unfold Machine.causeGone
  split
  · exact refl s
  dsimp only
  split
  · split
    · exact ((refreshReasons _).trans (printerReport ..)).after rfl
    · exact (leavePause ..).after rfl
  all_goals exact (printerReport ..).after rfl

theorem causeFollows (c : PauseCause) (b : Bool) (s : State) : KeepsBounds s (causeFollows c b s) := by
  unfold Machine.causeFollows
  split
  · exact causeRaised ..
  · exact causeGone ..

theorem paperLowChanges (b : Bool) (s : State) : KeepsBounds s (paperLowChanges b s) := by
  unfold Machine.paperLowChanges
  split
  · exact refl s
  · exact (printerReport ..).after rfl

theorem headReads (x : Int) (s : State) : KeepsBounds s (headReads x s) := by
  unfold Machine.headReads
  dsimp only
  split_ifs
  · exact (causeRaised ..).after rfl
  · exact (causeGone ..).after rfl
  · exact frame rfl

/-- The supply state itself is no part of the budget (R143). -/
theorem supplyFalls (s : State) : KeepsBounds s (supplyFalls s) := by
  unfold Machine.supplyFalls
  split
  · exact refl s
  · refine trans ?_ ((report ..).trans (causeRaised ..))
    exact supplied rfl id

theorem supplyRecovers (s : State) : KeepsBounds s (supplyRecovers s) := by
  unfold Machine.supplyRecovers
  split
  · refine trans ?_ (((report ..).trans (causeGone ..)).trans (walk _))
    exact supplied rfl id
  · exact refl s

theorem abandonLine (s : State) : KeepsBounds s (abandonLine s) :=
  trans (((withdrawRequest .cutter s).trans (withdrawRequest .motor _)).trans (withdrawRequest .head _)) (frame rfl)

theorem reportAborted (js : List Job) (s : State) : KeepsBounds s (reportAborted js s) := by
  induction js generalizing s with
  | nil => exact refl s
  | cons j rest ih => exact (jobReport ..).trans (ih _)

theorem printerClear (s : State) : KeepsBounds s (printerClear s) := by
  have cleared : KeepsBounds s (jobsCleared s) := by
    rw [jobsCleared]
    refine trans (b := Machine.reportAborted s.queue.jobs { s with queue := { s.queue with jobs := [] } })
      ((reportAborted ..).after rfl) ?_
    dsimp only
    split_ifs <;> exact frame rfl
  rw [printerClear_eq]
  dsimp only
  split_ifs
  · exact cleared.trans ((leaveFault _).after rfl)
  · exact cleared.trans (frame rfl)
  · exact cleared.trans ((abandonLine _).trans (printerReport ..))
  · exact cleared.trans (abandonLine _)

end KeepsBounds
end Sys2Proof.Machine
end

section
namespace Sys2Proof.Machine
namespace KeepsBounds

/-! ### The monitor: its changes are reports alone -/

theorem settleAlert (s : State) : KeepsBounds s (settleAlert s) := by
  unfold Machine.settleAlert
  split_ifs <;> exact frame rfl

theorem clearOne (x : BagException) (c : ExceptionCause) (s : State) : KeepsBounds s (clearOne x c s) :=
  trans (reported _) (settleAlert _)

theorem raiseException (k : ExceptionKind) (e : Option Nat) (d : Option Int) (s : State) :
    KeepsBounds s (raiseException k e d s) := by
  unfold Machine.raiseException
  dsimp only
  split <;> exact trans (reported _) (settleAlert _)

theorem emptyMonitor (c : ExceptionCause) (n : Nat) (s : State) : KeepsBounds s (emptyMonitor c n s) := by
  have emptied : KeepsBounds s (Machine.settleAlert (mapMonitor Monitor.emptied s)) := (settleAlert _).after rfl
  unfold Machine.emptyMonitor
  dsimp only
  split
  · exact emptied.trans (report ..)
  · exact emptied

theorem clearNaming (k : ExceptionKind) (n : Nat) (c : ExceptionCause) (s : State) :
    KeepsBounds s (clearNaming k n c s) := by
  unfold Machine.clearNaming
  split
  · exact clearOne ..
  · exact refl s

theorem clearAnyNaming (n : Nat) (c : ExceptionCause) (s : State) : KeepsBounds s (clearAnyNaming n c s) := by
  unfold Machine.clearAnyNaming
  split
  · exact clearOne ..
  · exact refl s

theorem setStatus (n : Nat) (st : BaggingStatus) (c : BaggingCause) (s : State) :
    KeepsBounds s (setStatus n st c s) := by
  unfold Machine.setStatus
  split
  · exact refl s
  · exact reported _

theorem removeExpectation (n : Nat) (s : State) : KeepsBounds s (removeExpectation n s) := frame rfl

theorem discardUnclaimed (s : State) : KeepsBounds s (discardUnclaimed s) := frame rfl

theorem listExpectation (n : Nat) (dir : Direction) (w t : Nat) (s : State) :
    KeepsBounds s (listExpectation n dir w t s) := frame rfl

theorem appendStatus (n : Nat) (st : BaggingStatus) (s : State) : KeepsBounds s (appendStatus n st s) := reported _

theorem addExpectation (n w : Nat) (t : Option Nat) (s : State) : KeepsBounds s (addExpectation n w t s) := by
  unfold Machine.addExpectation
  dsimp only
  repeat' split
  · exact (discardUnclaimed s).trans (appendStatus ..)
  · exact (listExpectation ..).trans (appendStatus ..)
  · exact (listExpectation ..).trans (appendStatus ..)

theorem appendEntry (e : Entry) (s : State) : KeepsBounds s (appendEntry e s) := by
  unfold Machine.appendEntry
  dsimp only
  split
  · exact (addExpectation ..).after rfl
  · exact frame rfl

theorem entryVoided (e : Entry) (s : State) : KeepsBounds s (entryVoided e s) := by
  unfold Machine.entryVoided
  repeat' split
  any_goals exact refl s
  · exact ((removeExpectation ..).trans (setStatus ..)).trans (clearNaming ..)
  · exact ((removeExpectation ..).trans (setStatus ..)).trans (clearNaming ..)
  · exact (listExpectation ..).trans (setStatus ..)
  · exact (setStatus ..).trans (clearNaming ..)

theorem meetAdd (x : Expectation) (s : State) : KeepsBounds s (meetAdd x s) :=
  ((removeExpectation ..).trans (setStatus ..)).trans (clearNaming ..)

theorem unclaimedGrows (d : Nat) (s : State) : KeepsBounds s (unclaimedGrows d s) := by
  have grown (u : Option Unclaimed) : KeepsBounds s (mapMonitor (fun m => { m with unclaimed := u }) s) := frame rfl
  unfold Machine.unclaimedGrows
  dsimp only
  split_ifs <;> split
  · exact (discardUnclaimed s).trans (meetAdd ..)
  · exact (discardUnclaimed s).trans (raiseException ..)
  · exact ((grown _).trans (discardUnclaimed _)).trans (meetAdd ..)
  · exact grown _

theorem positiveChange (d : Nat) (s : State) : KeepsBounds s (positiveChange d s) := by
  unfold Machine.positiveChange
  repeat' split
  · exact (setStatus ..).trans (clearOne ..)
  · exact clearOne ..
  · exact meetAdd ..
  · exact unclaimedGrows ..

theorem negativeAfterUnclaimed (d : Nat) (s : State) : KeepsBounds s (negativeAfterUnclaimed d s) := by
  unfold Machine.negativeAfterUnclaimed removalFromBasket
  repeat' split
  · exact clearOne ..
  · exact ((removeExpectation ..).trans (setStatus ..)).trans (clearNaming ..)
  · exact (setStatus ..).trans (raiseException ..)
  · exact raiseException ..

theorem bagChange (d : Int) (s : State) : KeepsBounds s (bagChange d s) := by
  unfold Machine.bagChange negativeChange
  repeat' split
  · exact refl s
  · exact positiveChange ..
  · exact discardUnclaimed s
  · exact negativeAfterUnclaimed ..
  · exact negativeAfterUnclaimed ..

theorem bagTimerExpires (n : Nat) (s : State) : KeepsBounds s (bagTimerExpires n s) := by
  have timed : KeepsBounds s (timedOut n s) := frame rfl
  unfold Machine.bagTimerExpires
  dsimp only
  repeat' split
  · exact refl s
  · exact (timed.trans (setStatus ..)).trans (raiseException ..)
  · exact (timed.trans (setStatus ..)).trans (raiseException ..)
  · exact timed

theorem graceExpires (s : State) : KeepsBounds s (graceExpires s) := by
  unfold Machine.graceExpires
  split
  · exact refl s
  · exact (discardUnclaimed s).trans (raiseException ..)

end KeepsBounds
end Sys2Proof.Machine
end

section
namespace Sys2Proof.Machine
namespace KeepsBounds

/-! ### The requests -/

theorem endWeigh (r : WeighResult) (e : Option Nat) (g p : Option Int) (s : State) :
    KeepsBounds s (endWeigh r e g p s) := by
  unfold Machine.endWeigh
  split
  · exact refl s
  · exact reported _

/-- A condition of a channel replaced, with one report where it is another (R16). -/
theorem setCondition (ch : ChannelId) (k : ChannelCondition) (s : State) : KeepsBounds s (setCondition ch k s) := by
  rw [setCondition_eq]
  exact reportedUnless _ rfl (by simp)

theorem startChannel (ch : ChannelId) (s : State) : KeepsBounds s (startChannel ch s) := by
  rw [startChannel_eq]
  exact reportedUnless _ rfl (by simp)

theorem closeSale (r : SaleRecord) (s : State) : KeepsBounds s (closeSale r s) := by
  have ended (u : State) : KeepsBounds u (ignoreSwipe (emptyHeld (Machine.discardUnclaimed u))) := by
    refine frame ?_
    simp only [emptyHeld_eq, ignoreSwipe_setSlot]
    rfl
  unfold Machine.closeSale
  dsimp only
  refine trans ?_ (ended _)
  split
  · exact trans (trans (trans (reported _) (endWeigh ..)) (acceptJob ..)) (kick ..)
  · exact trans (trans (reported _) (endWeigh ..)) (acceptJob ..)

theorem abandonSale (r : SaleRecord) (s : State) : KeepsBounds s (abandonSale r s) := by
  have ended (u : State) : KeepsBounds u (ignoreSwipe (emptySlot u)) := by
    refine frame ?_
    rw [emptySlot, ignoreSwipe_setSlot]
    rfl
  exact trans (trans (trans (reported _) (endWeigh ..)) (emptyMonitor ..)) (ended _)

theorem calibrationStep (ch : ChannelId) (b : Bool) (r : CalRecord) (s : State) :
    KeepsBounds s (calibrationStep ch b r s).1 := by
  rw [calibrationStep_eq]
  exact reportedUnless _ rfl (by simp)

theorem zeroTaken (ch : ChannelId) (v : Int) (s : State) : KeepsBounds s (zeroTaken ch v s) := by
  have moved (c : Channel) : KeepsBounds s (s.withChannel ch c) := frame (by cases ch <;> rfl)
  unfold Machine.zeroTaken
  extract_lets c c1 s1
  have zeroed : KeepsBounds s s1 := by
    dsimp only [s1]
    split
    · exact (moved _).trans (setCondition ..)
    · exact moved _
  cases ch with
  | platter => exact zeroed
  | bag => exact zeroed.trans (frame rfl)

theorem settingEffect (id : Nat) (s : State) : KeepsBounds s (settingEffect id s) := by
  have restarted (ch : ChannelId) : KeepsBounds s (restartChannel ch s) := by
    unfold restartChannel
    split
    · exact refl s
    · exact startChannel ch s
  have ignored : KeepsBounds s (ignoreSwipe s) := frame (by simp [State.boundView])
  unfold Machine.settingEffect
  repeat' split
  all_goals first
    | exact refl s
    | exact restarted _
    | exact sensePresentSet s
    | exact budgetSet s
    | exact ignored
    | exact frame rfl

theorem setRequest (n : Byte) (v : SettingArg) (s : State) : KeepsBounds s (setRequest n v s).1 := by
  have taken (x : SettingValue) (b : Bool) : KeepsBounds s (setAnswer n.toNat x b s).1 := by
    unfold setAnswer changeSetting
    dsimp only
    split
    · exact refl s
    · exact (settingEffect ..).after rfl
  unfold Machine.setRequest
  dsimp only [refuse]
  repeat' split
  all_goals first | exact refl s | exact taken _ _

/-- Every request keeps the bounds: it is refused, it queues one report at most, or it is made of operations that keep
them. -/
theorem request (r : Request) (s : State) : KeepsBounds s (handleRequest r s).1 := by
  cases r with
  | set n v => exact setRequest n v s
  | addItem =>
    simp only [handleRequest, addItemRequest, refuse, answer]
    repeat' split
    all_goals first | exact refl s | exact appendEntry ..
  | voidEntry =>
    simp only [handleRequest, voidEntryRequest, refuse, answer]
    repeat' split
    all_goals first | exact refl s | exact ((appendEntry ..).trans (entryVoided ..)).after rfl
  | closeSale =>
    simp only [handleRequest, closeSaleRequest, refuse, answer]
    repeat' split
    all_goals first | exact refl s | exact closeSale ..
  | abandonSale =>
    simp only [handleRequest, abandonSaleRequest, refuse, done]
    repeat' split
    all_goals first | exact refl s | exact abandonSale ..
  | reprint =>
    simp only [handleRequest, reprintRequest, refuse, answer]
    repeat' split
    all_goals first | exact refl s | exact acceptJob .. | exact (acceptJob ..).after rfl
  | clearException =>
    simp only [handleRequest, clearExceptionRequest, refuse, done]
    repeat' split
    all_goals first
      | exact refl s
      | exact clearOne ..
      | exact ((removeExpectation ..).trans (setStatus ..)).trans (clearOne ..)
  | waiveBagging =>
    simp only [handleRequest, waiveBaggingRequest, refuse, done]
    repeat' split
    all_goals first
      | exact refl s
      | exact ((removeExpectation ..).trans (setStatus ..)).trans (clearAnyNaming ..)
  | bagResync =>
    simp only [handleRequest, bagResyncRequest, refuse, answer]
    split
    · exact refl s
    · have anew (g : Option Int) (u : State) : KeepsBounds u { u with settledS := g } := frame rfl
      exact ((emptyMonitor ..).trans (anew ..)).after rfl
  | printText =>
    simp only [handleRequest, printTextRequest, refuse, answer]
    repeat' split
    all_goals first | exact refl s | exact acceptJob ..
  | printerClear => exact printerClear s
  | cancelWeigh =>
    simp only [handleRequest, cancelWeighRequest, refuse, done]
    split
    · exact refl s
    · exact endWeigh ..
  | noSale =>
    simp only [handleRequest, noSaleRequest, refuse, done]
    repeat' split
    all_goals first | exact refl s | exact kick ..
  | calZero | calSpan | setProfile =>
    simp only [handleRequest, calZeroRequest, calZeroOn, calSpanRequest, calSpanOn, setProfileRequest, refuse]
    repeat' split
    all_goals first | exact refl s | exact calibrationStep ..
  | zero =>
    simp only [handleRequest, zeroRequest, zeroOn, refuse, done]
    repeat' split
    all_goals first | exact refl s | exact zeroTaken ..
  | _ =>
    simp only [handleRequest, readWeightRequest, setTareRequest, takeTareRequest, clearTareRequest, weighItemRequest,
      openSaleRequest, beginTenderRequest, resumeSaleRequest, addCashRequest, addCardTenderRequest,
      cardDecisionRequest, readSaleRequest, readEntryRequest, readTenderRequest, readBaggingRequest, releaseCardRequest,
      discardCardRequest, readCardRequest, drawerResetRequest, readDrawerRequest, beepRequest, readSupplyRequest,
      readPrintQueueRequest, readPrinterRequest, getRequest, saveSettingsRequest, restartRequest, identifyRequest,
      answer, done, refuse]
    repeat' split
    all_goals first | exact refl s | exact frame rfl | exact reported _

end KeepsBounds
end Sys2Proof.Machine
end

section
namespace Sys2Proof.Machine
namespace KeepsBounds

/-! ### The events -/

theorem occupancyReport (left : Occupancy) (s : State) : KeepsBounds s (occupancyReport left s) := by
  rw [occupancyReport_eq]
  exact reportedUnless _ rfl rfl

/-- A weigh request examined: its entry may be appended, and the reports follow (R40 to R43). -/
theorem examineWeigh (o : FilterOutput) (left : Occupancy) (s : State) : KeepsBounds s (examineWeigh o left s) := by
  have completes (w : WeighRequest) (f : Int) : KeepsBounds s (completeWithEntry w f left s) := by
    have locked : KeepsBounds s (Machine.occupancyReport left
        (setOccupancy .locked (Machine.appendEntry (weighedEntry w f s) s))) :=
      (appendEntry ..).trans ((occupancyReport ..).after rfl)
    unfold completeWithEntry
    dsimp only
    refine trans ?_ (endWeigh ..)
    split
    · exact locked.trans (frame rfl)
    · exact locked
  have ends (r : WeighResult) (e : Option Nat) (g p : Option Int) :
      KeepsBounds s (Machine.endWeigh r e g p (Machine.occupancyReport left s)) :=
    (occupancyReport ..).trans (endWeigh ..)
  unfold Machine.examineWeigh
  dsimp only
  repeat' split
  all_goals first | exact completes .. | exact ends .. | exact occupancyReport ..

theorem sampleArrives (ch : ChannelId) (x : Int) (s : State) : KeepsBounds s (sampleArrives ch x s) := by
  have moved (c : Channel) (u : State) : KeepsBounds u (u.withChannel ch c) := frame (by cases ch <;> rfl)
  have judged (o : FilterOutput) (u : State) : KeepsBounds u (judgeCondition ch o u) := by
    unfold judgeCondition leaveStarting
    dsimp only
    repeat' split
    all_goals first | exact setCondition .. | exact (moved ..).trans (setCondition ..) | exact refl u
  have platter (u : State) : KeepsBounds u (platterStages u) := by
    unfold platterStages trackZero
    split
    · exact refl u
    · split <;> exact (examineWeigh ..).after rfl
  have bag (u : State) : KeepsBounds u (bagStage u) := by
    unfold bagStage
    dsimp only
    repeat' split
    all_goals first | exact refl u | exact (bagChange ..).after rfl | exact frame rfl
  have output (u : State) : KeepsBounds u (filterOutput ch u) := by
    unfold filterOutput
    dsimp only
    split
    · exact moved ..
    · cases ch with
      | platter => exact ((moved ..).trans (judged ..)).trans (platter _)
      | bag => exact ((moved ..).trans (judged ..)).trans (bag _)
  unfold Machine.sampleArrives
  dsimp only
  split_ifs
  · exact refl s
  · exact moved ..
  · exact moved ..
  · exact (moved ..).trans (output _)

theorem excitationLeaves (ch : ChannelId) (s : State) : KeepsBounds s (excitationLeaves ch s) := by
  have moved (c : Channel) : KeepsBounds s (Machine.setCondition ch .fault (s.withChannel ch c)) :=
    (setCondition ..).after (by cases ch <;> rfl)
  unfold Machine.excitationLeaves
  dsimp only
  split
  · exact refl s
  · cases ch with
    | platter => exact (moved _).trans (endWeigh ..)
    | bag => exact moved _

theorem swipeEnds (s : State) : KeepsBounds s (swipeEnds s) := by
  have judged (n a : TrackData) : KeepsBounds s (judgeSwipe n a s) := by
    unfold judgeSwipe
    split
    · exact report ..
    · dsimp only
      split <;> exact reported _
  unfold Machine.swipeEnds
  repeat' split
  · exact refl s
  · exact (judged ..).trans (frame rfl)
  · exact frame rfl

/-- Every event of a block keeps the bounds. -/
theorem blockEvent {c : Instr} {f : State → State} (hf : blockEvent? c = some f) (s : State) : KeepsBounds s (f s) := by
  cases c with
  | sampleArrival ch x => cases hf; exact sampleArrives ch x s
  | excitationLost ch => cases hf; exact excitationLeaves ch s
  | excitationReturn ch =>
    cases hf
    simp only [excitationReturns]
    split
    · exact startChannel ch s
    · exact refl s
  | weighTimerExpiry => cases hf; exact endWeigh ..
  | bagTimerExpiry n => cases hf; exact bagTimerExpires n s
  | graceTimerExpiry => cases hf; exact graceExpires s
  | swipeEnd => cases hf; exact swipeEnds s
  | senseChange b => cases hf; exact senseChanged b s
  | pullInEnd => cases hf; exact pullInEnds s
  | holdEnd => cases hf; exact holdEnds s
  | coolEnd => cases hf; exact coolEnds s
  | alarmTimerExpiry => cases hf; exact alarmExpires s
  | supplyLow => cases hf; exact supplyFalls s
  | supplyRecovery => cases hf; exact supplyRecovers s
  | paperSensor b | coverSensor b => cases hf; exact causeFollows ..
  | paperLowSensor b => cases hf; exact paperLowChanges b s
  | headTemperature x => cases hf; exact headReads x s
  | phaseEnd => cases hf; exact phaseEnds s
  | stepEnd => cases hf; exact stepEnds s
  | homeSensorReturn => cases hf; exact homeReturns s
  | cutTimerExpiry => cases hf; exact cutJams s
  | _ =>
    cases hf <;> simp only [swipeBegins, fluxArrives, transitionInSwipe, beginSwipe, holdExpires, pwmBoundary, homeLeaves,
      writeEnds]
    repeat' split
    all_goals first | exact frame rfl | exact reported _

/-! ### The link -/

/-- The transmitter's choice takes a report at most (R194). -/
theorem endEvent (s : State) : KeepsBounds s (endEvent s) := by
  refine ⟨?_⟩
  rintro ⟨reports, slots, budget⟩
  obtain h | ⟨-, h⟩ | ⟨r, rest, -, hqueue, h⟩ := choose_cases s.link
  · exact ⟨by simpa [h] using reports, by simpa [h] using slots, budget⟩
  · exact ⟨by simpa [h] using reports, by simpa [h] using slots, budget⟩
  · rw [hqueue, List.length_cons] at reports
    exact ⟨by simp only [Machine.endEvent, h]; omega, by simpa [h] using slots, budget⟩

/-- A third frame is lost with a report (R189). -/
theorem offerFrame (f : Frame) (s : State) : KeepsBounds s (offerFrame f s) := by
  obtain ⟨hroom, h⟩ | ⟨-, h⟩ := offerFrame_cases f s <;> rw [h]
  · refine ⟨?_⟩
    rintro ⟨reports, -, budget⟩
    exact ⟨reports, by simpa [setSlots] using hroom, budget⟩
  · exact report ..

theorem settleAnswer (kind tag : Byte) (x : State × Answer) : KeepsBounds x.1 (settleAnswer kind tag x) := by
  unfold Machine.settleAnswer
  split <;> exact frame rfl

theorem takeRequest (tag : Byte) (r : Request) (s : State) : KeepsBounds s (takeRequest tag r s) :=
  (request r s).trans (settleAnswer ..)

theorem takeFrame (f : Frame) (s : State) : KeepsBounds s (takeFrame f s) := by
  refine trans ?_ (settleAnswer ..)
  unfold handleFrame
  split
  · exact refl s
  · exact refl s
  · exact request _ s

/-- A frame that is dispatched leaves its slot (R190). -/
theorem dispatchNext (s : State) : KeepsBounds s (dispatchNext s) := by
  obtain h | ⟨f, rest, -, hslots, h⟩ := dispatchNext_cases s <;> rw [h]
  · exact refl s
  · refine trans (b := setSlots rest s) ⟨?_⟩ (takeFrame ..)
    rintro ⟨reports, slots, budget⟩
    rw [hslots, List.length_cons] at slots
    exact ⟨reports, by simp only [setSlots]; omega, budget⟩

theorem frameArrives (f : Frame) (s : State) : KeepsBounds s (frameArrives f s) :=
  (offerFrame f s).trans (dispatchNext _)

theorem requestArrives (tag : Byte) (r : Request) (s : State) : KeepsBounds s (requestArrives tag r s) := by
  unfold Machine.requestArrives
  split
  · exact takeRequest ..
  · exact frameArrives ..

theorem endFrame (why : LinkErrorReason) (s : State) : KeepsBounds s (endFrame why s) :=
  trans (b := huntAgain s) (frame rfl) (report ..)

theorem endFrameInside (why : LinkErrorReason) (s : State) : KeepsBounds s (endFrameInside why s) := by
  unfold Machine.endFrameInside
  split
  · exact refl s
  · exact endFrame ..

theorem byteArrives (b : Byte) (s : State) : KeepsBounds s (byteArrives b s) := by
  have kept (x : Receiver) : KeepsBounds s (keepReceiving x s) := frame rfl
  unfold Machine.byteArrives eofPlace
  dsimp only
  repeat' split
  case h_7.isFalse.isFalse => exact (frameArrives ..).after rfl
  all_goals first | exact kept _ | exact endFrame .. | exact refl s

theorem charArrives (c : LineChar) (s : State) : KeepsBounds s (charArrives c s) := by
  unfold Machine.charArrives
  split
  · exact byteArrives ..
  · exact endFrameInside ..

theorem bytesArrive (bs : List Byte) (s : State) : KeepsBounds s (bytesArrive bs s) := by
  induction bs generalizing s with
  | nil => exact refl s
  | cons b bs ih => exact ((byteArrives b s).trans (endEvent _)).trans (ih _)

theorem replyEnds (s : State) : KeepsBounds s (replyEnds s) := by
  unfold Machine.replyEnds
  split
  · split_ifs
    · exact frame rfl
    · exact frame rfl
    · exact (dispatchNext _).after rfl
  · exact refl s

theorem reportEnds (s : State) : KeepsBounds s (reportEnds s) := by
  unfold Machine.reportEnds
  split
  · exact frame rfl
  · exact refl s

theorem lineChanges (s : State) : KeepsBounds s (lineChanges s) := by
  unfold Machine.lineChanges
  split
  · exact ((endFrameInside ..).trans (dispatchNext _)).after rfl
  · exact refl s

theorem event {f : State → State} {s : State} (h : KeepsBounds s (f s)) : KeepsBounds s (asEvent f s) := by
  obtain he | he := asEvent_cases f s <;> rw [he]
  · exact refl s
  · exact h.trans (endEvent _)

end KeepsBounds

/-- A part just started holds the reports of its start alone and grants nothing (R137, R189, R201). -/
theorem startPart_bounded (why : StartCause) (x : StartInputs) (s : State) : (startPart why x s).Bounded := by
  have started : (startedBlocks x s).Bounded := ⟨Nat.zero_le _, Nat.zero_le _, Nat.zero_le _⟩
  unfold startPart
  dsimp only
  split
  · exact (KeepsBounds.report ..).keeps started
  · exact ((KeepsBounds.report ..).trans (KeepsBounds.report ..)).keeps started

/-- A command keeps the bounds: it starts the part, or each request, event and frame it brings keeps them. -/
theorem KeepsBounds.exec {c : Instr} {s t : State} (h : exec c s = .next t) : KeepsBounds s t := by
  suffices hk : ∃ u, Machine.exec c s = .next u ∧ KeepsBounds s u by
    obtain ⟨u, hu, hk⟩ := hk
    rw [h] at hu
    cases hu
    exact hk
  have starts (why : StartCause) (x : StartInputs) (u : State) : KeepsBounds s (startPart why x u) :=
    ⟨fun _ => startPart_bounded why x u⟩
  cases hq : c.request? with
  | some q =>
    obtain ⟨tag, r⟩ := q
    obtain h' | ⟨e, h'⟩ := exec_request hq s
    · exact ⟨_, h', event (requestArrives tag r s)⟩
    · exact ⟨_, h', event ((requestArrives tag r _).after rfl)⟩
  | none =>
    cases he : blockEvent? c with
    | some f => exact ⟨_, exec_blockEvent he s, event (blockEvent he s)⟩
    | none =>
      cases c with
      | powerOn x => exact ⟨_, rfl, (starts ..).trans (endEvent _)⟩
      | powerLoss => exact ⟨_, rfl, frame (by split <;> rfl)⟩
      | restartCarriedOut x =>
        refine ⟨_, rfl, event ?_⟩
        unfold restartHappens
        split
        · exact starts ..
        · exact refl s
      | unknownRequest kind tag body => exact ⟨_, rfl, event (frameArrives ..)⟩
      | frameGap => exact ⟨_, rfl, event (endFrameInside .frameGap s)⟩
      | lineBreak => exact ⟨_, rfl, event (endFrameInside .lineBreak s)⟩
      | replySent => exact ⟨_, rfl, event (replyEnds s)⟩
      | reportSent => exact ⟨_, rfl, event (reportEnds s)⟩
      | lineSettingsChange => exact ⟨_, rfl, event (lineChanges s)⟩
      | characterReceived x => exact ⟨_, rfl, event (charArrives x s)⟩
      | receiveFrame bs =>
        refine ⟨_, rfl, ?_⟩
        split
        · exact bytesArrive bs s
        · exact refl s
      | _ => cases hq <;> cases he

/-- Settles O8: a command keeps the bounds, and an idle millisecond touches none of the queues and no grant. -/
theorem stepKeepsBounds : Obligations.StepKeepsBounds := by
  rintro s t ⟨reports, slots⟩ budget h
  have keeps : KeepsBounds s t := by
    unfold step at h
    split at h
    · exact (KeepsBounds.exec h).after rfl
    · cases h
      unfold idle
      split <;> exact .frame rfl
  obtain ⟨reports, slots, budget⟩ := keeps.keeps ⟨reports, slots, budget⟩
  exact ⟨⟨reports, slots⟩, budget⟩

end Sys2Proof.Machine
end

section
namespace Sys2Proof.Machine

/-! ### In SUPPLY_LOW no command grants units (R139, R143) -/

/-- No requester gains units in SUPPLY_LOW: a sale closed, whose receipt may start and whose drawer may be kicked (R66). -/
theorem closeSale_gains_nothing (r : SaleRecord) (s : State) : NoGain s.supply (closeSale r s).supply := by
  unfold closeSale
  extract_lets c s1 s2 s3 s4
  have ended : s2.supply = s.supply := by simp [s2, s1, saleReport]
  have accepted : NoGain s.supply s3.supply := (acceptJob_gains_nothing _ s2).via ended
  have emptied (u : State) : (ignoreSwipe (emptyHeld (discardUnclaimed u))).supply = u.supply := by
    rw [emptyHeld_eq, ignoreSwipe_setSlot]
    rfl
  rw [emptied]
  dsimp only [s4]
  split
  · exact accepted.trans (kick_gains_nothing ..)
  · exact accepted

/-- No requester gains units in SUPPLY_LOW: the effect of a setting (R198). -/
theorem settingEffect_gains_nothing (id : Nat) (s : State) : NoGain s.supply (settingEffect id s).supply := by
  have restarted (ch : ChannelId) : NoGain s.supply (restartChannel ch s).supply := by
    unfold restartChannel
    split
    · exact .refl _
    · exact .of_eq (by rw [startChannel_eq]; simp)
  have sensed : NoGain s.supply (sensePresentSet s).supply := by
    unfold sensePresentSet
    split_ifs
    · exact senseGiven_gains_nothing ..
    · exact .of_eq (by simp)
    · exact .refl _
  unfold settingEffect
  repeat' split
  all_goals first
    | exact restarted _
    | exact sensed
    | exact budgetSet_gains_nothing s
    | exact .of_eq (by simp)

/-- No requester gains units in SUPPLY_LOW: a SET (R198). -/
theorem setRequest_gains_nothing (n : Byte) (v : SettingArg) (s : State) :
    NoGain s.supply (setRequest n v s).1.supply := by
  have taken (x : SettingValue) (b : Bool) : NoGain s.supply (setAnswer n.toNat x b s).1.supply := by
    unfold setAnswer changeSetting
    dsimp only
    split
    · exact .refl _
    · exact (settingEffect_gains_nothing n.toNat _).via rfl
  unfold setRequest
  dsimp only [refuse]
  repeat' split
  all_goals first | exact .refl _ | exact taken _ _

/-- No requester gains units in SUPPLY_LOW at a request: it is refused, it leaves the supply, or it is made of operations
that grant nothing then. -/
theorem handleRequest_gains_nothing (r : Request) (s : State) : NoGain s.supply (handleRequest r s).1.supply := by
  cases r with
  | set n v => exact setRequest_gains_nothing n v s
  | closeSale =>
    simp only [handleRequest, closeSaleRequest, refuse, answer]
    repeat' split
    all_goals first | exact .refl _ | exact closeSale_gains_nothing ..
  | reprint =>
    simp only [handleRequest, reprintRequest, refuse, answer]
    repeat' split
    all_goals first | exact .refl _ | exact acceptJob_gains_nothing ..
  | printText =>
    simp only [handleRequest, printTextRequest, refuse, answer]
    repeat' split
    all_goals first | exact .refl _ | exact acceptJob_gains_nothing ..
  | printerClear => exact printerClear_gains_nothing s
  | noSale =>
    simp only [handleRequest, noSaleRequest, refuse, done]
    repeat' split
    all_goals first | exact .refl _ | exact kick_gains_nothing ..
  | calZero | calSpan | setProfile =>
    simp only [handleRequest, calZeroRequest, calZeroOn, calSpanRequest, calSpanOn, setProfileRequest, refuse]
    repeat' split
    all_goals first
      | exact .refl _
      | rw [calibrationStep_eq]; exact .of_eq (by simp)
  | zero =>
    simp only [handleRequest, zeroRequest, zeroOn, refuse, done]
    repeat' split
    all_goals first
      | exact .refl _
      | rw [zeroTaken_eq rfl]; exact .of_eq (by simp)
  | _ =>
    simp only [handleRequest, readWeightRequest, setTareRequest, takeTareRequest, clearTareRequest, weighItemRequest,
      cancelWeighRequest, openSaleRequest, addItemRequest, voidEntryRequest, beginTenderRequest, resumeSaleRequest,
      addCashRequest, addCardTenderRequest, cardDecisionRequest, abandonSaleRequest, readSaleRequest, readEntryRequest,
      readTenderRequest, clearExceptionRequest, waiveBaggingRequest, bagResyncRequest, readBaggingRequest,
      releaseCardRequest, discardCardRequest, readCardRequest, drawerResetRequest, readDrawerRequest, beepRequest,
      readSupplyRequest, readPrintQueueRequest, readPrinterRequest, getRequest, saveSettingsRequest, restartRequest,
      identifyRequest, setTareT, acceptWeigh, decideCard, abandonSale, voidTaken, answer, done, refuse]
    repeat' split
    all_goals exact .of_eq (by simp)

theorem keptByRequests_noGain : KeptByRequests fun s t => NoGain s.supply t.supply where
  refl _ := .refl _
  trans := .trans
  link _ _ := .refl _
  inputs _ _ := .refl _
  request := handleRequest_gains_nothing

/-- A sample leaves the supply (R3 to R5). -/
theorem sampleArrives_supply (ch : ChannelId) (x : Int) (s : State) : (sampleArrives ch x s).supply = s.supply := by
  have moved {u : State} (h : MovesOnly ch s u) : u.supply = s.supply := by
    rw [h]
    simp
  obtain ⟨u, hu, h | h⟩ := sampleArrives_stages ch x s <;> rw [h]
  · exact moved hu
  · refine Eq.trans ?_ (moved hu)
    cases ch with
    | platter =>
      dsimp only [platterStages]
      split
      · rfl
      · unfold examineWeigh completeWithEntry trackZero
        dsimp only
        repeat' split
        all_goals simp
    | bag =>
      dsimp only [bagStage]
      repeat' split
      all_goals simp

/-- No requester gains units in SUPPLY_LOW at an event of a block that does not turn the supply state itself (R143). -/
theorem blockEvent_gains_nothing {c : Instr} {f : State → State} (hf : blockEvent? c = some f) (hlow : c ≠ .supplyLow)
    (hrecovery : c ≠ .supplyRecovery) (s : State) : NoGain s.supply (f s).supply := by
  have follows (k : PauseCause) (b : Bool) : NoGain s.supply (causeFollows k b s).supply := by
    unfold causeFollows
    split
    · exact causeRaised_gains_nothing ..
    · exact causeGone_gains_nothing ..
  cases c with
  | supplyLow => exact absurd rfl hlow
  | supplyRecovery => exact absurd rfl hrecovery
  | sampleArrival ch x => cases hf; exact .of_eq (sampleArrives_supply ch x s)
  | senseChange b =>
    cases hf
    dsimp only [senseChanged]
    split_ifs
    · exact .refl _
    · exact (senseGiven_gains_nothing b _).via rfl
    · exact .refl _
  | pullInEnd =>
    cases hf
    unfold pullInEnds
    split_ifs
    · exact endDrive_gains_nothing ..
    · exact beginHold_gains_nothing s
    · exact .refl _
  | holdEnd =>
    cases hf
    unfold holdEnds
    split
    · exact endDrive_gains_nothing ..
    · exact .refl _
  | coolEnd =>
    cases hf
    unfold coolEnds
    split_ifs
    · exact beginAttempt_gains_nothing ..
    · exact .of_eq rfl
    · exact .refl _
  | paperSensor b | coverSensor b => cases hf; exact follows ..
  | headTemperature x =>
    cases hf
    unfold headReads
    dsimp only
    split_ifs
    · exact (causeRaised_gains_nothing .headHot _).via rfl
    · exact (causeGone_gains_nothing .headHot _).via rfl
    · exact .refl _
  | phaseEnd => cases hf; exact phaseEnds_gains_nothing s
  | stepEnd => cases hf; exact stepEnds_gains_nothing s
  | homeSensorReturn => cases hf; exact homeReturns_gains_nothing s
  | cutTimerExpiry => cases hf; exact cutJams_gains_nothing s
  | bagTimerExpiry _ | graceTimerExpiry => cases hf; exact .of_eq (by simp)
  | _ =>
    cases hf <;> simp only [excitationLeaves, excitationReturns, startChannel_eq, setCondition_eq, weighTimerExpires,
      swipeBegins, swipeEnds, armReader, fluxArrives, transitionInSwipe, beginSwipe, holdExpires, pwmBoundary,
      alarmExpires, paperLowChanges, printerReport, drawerReport, homeLeaves, writeEnds]
    repeat' split
    all_goals exact .of_eq (by simp)

/-- After the supply falls the grants are as they were (R143). -/
theorem supplyFalls_granted (s : State) : (supplyFalls s).supply.granted = s.supply.granted := by
  unfold supplyFalls
  split
  · rfl
  · simp

/-- After a recovery the supply is in order (R144). -/
theorem supplyRecovers_low (s : State) : (supplyRecovers s).supply.low = false := by
  unfold supplyRecovers
  split
  · exact (walk_gains_nothing _).1.trans (causeGone_gains_nothing ..).1
  · next h => exact Bool.eq_false_iff.2 h

/-- No requester holds more units than before (R139). -/
structure Grants.Within (h g : Grants) : Prop where
  drawer : h.drawer ≤ g.drawer
  cutter : h.cutter ≤ g.cutter
  motor : h.motor ≤ g.motor
  head : h.head ≤ g.head

theorem Grants.Within.refl (g : Grants) : g.Within g := ⟨le_refl _, le_refl _, le_refl _, le_refl _⟩

/-- A part just started has granted nothing (R137). -/
theorem startPart_granted (why : StartCause) (x : StartInputs) (s : State) :
    (startPart why x s).supply.granted = ⟨0, 0, 0, 0⟩ := by
  unfold startPart
  dsimp only
  split <;> rfl

/-- A command after which the supply is low has raised the units of no requester (R139, R143). -/
theorem exec_low {c : Instr} {s t : State} (h : exec c s = .next t) (ht : t.supply.low = true) :
    t.supply.granted.Within s.supply.granted := by
  have same {u : State} (hu : u.supply.granted = s.supply.granted) : u.supply.granted.Within s.supply.granted :=
    hu ▸ .refl _
  have started (why : StartCause) (x : StartInputs) (u : State) :
      (startPart why x u).supply.granted.Within s.supply.granted := by
    rw [startPart_granted]
    exact ⟨Nat.zero_le _, Nat.zero_le _, Nat.zero_le _, Nat.zero_le _⟩
  by_cases hlow : c = .supplyLow
  · subst hlow
    cases h
    obtain he | he := asEvent_cases supplyFalls s <;> rw [he]
    · exact .refl _
    · exact same (supplyFalls_granted s)
  by_cases hrecovery : c = .supplyRecovery
  · subst hrecovery
    cases h
    obtain he | he := asEvent_cases supplyRecovers s <;> rw [he] at ht ⊢
    · exact .refl _
    · exact absurd ((supplyRecovers_low s).symm.trans ht) (by simp)
  cases c with
  | powerOn x => cases h; exact started ..
  | powerLoss =>
    cases h
    split <;> exact .refl _
  | restartCarriedOut x =>
    cases h
    obtain he | he := asEvent_cases (restartHappens x) s <;> rw [he]
    · exact .refl _
    · show (restartHappens x s).supply.granted.Within s.supply.granted
      unfold restartHappens
      split
      · exact started ..
      · exact .refl _
  | _ =>
    obtain ⟨hsame, hgain⟩ := keptByRequests_noGain.exec rfl
      (fun f hf => blockEvent_gains_nothing hf hlow hrecovery s) h
    obtain ⟨hdrawer, hcutter, hmotor, hhead⟩ := hgain (hsame.symm.trans ht)
    exact ⟨hdrawer, hcutter, hmotor, hhead⟩

/-- So has a step (R139, R143). -/
theorem step_low {s t : State} (h : step s = .next t) (ht : t.supply.low = true) :
    t.supply.granted.Within s.supply.granted := by
  unfold step at h
  split at h
  · exact (exec_low h ht :)
  · cases h
    unfold idle
    split <;> exact .refl _

end Sys2Proof.Machine
end

section
namespace Sys2Proof.Machine

/-! ### A pause cause raised and gone (R154, R166, R167, R175) -/

section
variable {s : State} {cause : PauseCause}

/-- The causes with one raised or gone, in a condition left or kept, with the printer's report of it (R166, R181). -/
def causeChanged (cause : PauseCause) (held : Bool) (k : PrinterCondition) (s : State) : State :=
  { s with
    engine := { s.engine with causes := s.engine.causes.put cause held, condition := k }
    link := s.link.push (.printerState k s.engine.condition (s.engine.causes.put cause held) s.engine.paperLow
      (if held then .causeRaised else .causeGone) (some cause)) }

/-- In IDLE and FAULT the cause alone joins (R166, R167). -/
theorem causeRaised_quietly (hnew : s.engine.causes.has cause = false)
    (h : s.engine.condition = .idle ∨ s.engine.condition = .fault) :
    causeRaised cause s = causeChanged cause true s.engine.condition s := by
  unfold causeRaised
  rw [if_neg (by simp [hnew])]
  obtain h | h := h <;> simp [h, causeChanged, printerReport, report]

/-- So it goes there (R166, R167). -/
theorem causeGone_quietly (hheld : s.engine.causes.has cause = true)
    (h : s.engine.condition = .idle ∨ s.engine.condition = .fault) :
    causeGone cause s = causeChanged cause false s.engine.condition s := by
  unfold causeGone
  rw [if_neg (by simp [hheld])]
  obtain h | h := h <;> simp [h, causeChanged, printerReport, report]

/-- The first job of the list in a state with its reasons (R154). -/
def PrintQueue.first (st : JobState) (c : Causes) (j : Job) (rest : List Job) (q : PrintQueue) : PrintQueue :=
  { q with jobs := { j with state := st, reasons := c } :: rest }

section
variable {j : Job} {rest : List Job}

/-- A printer that prints pauses with its job: PRINTER_STATE before PRINT_JOB, the memory white, the speed index 0 and the
row in progress marked (R154, R167, R174, R175). -/
theorem causeRaised_printing (hnew : s.engine.causes.has cause = false) (h : s.engine.condition = .printing)
    (hjobs : s.queue.jobs = j :: rest) :
    causeRaised cause s =
      let t := causeChanged cause true .paused s
      { t with
        queue := s.queue.first .paused t.engine.causes j rest
        engine := { t.engine with
          memory := 0, row := s.engine.row.map fun r => { r with pauseMark := true }, speedIndex := 0
          pendingPeriod := 2500 }
        link := t.link.push (.printJob j.id j.kind .paused (some j.state) .paused (some t.engine.causes) j.saleNumber
          (j.cursor - 1) j.lineCount) } := by
  unfold causeRaised
  rw [if_neg (by simp [hnew])]
  simp [h, enterPause, hjobs, printerReport, jobReport, report, Engine.setSpeed, stepPeriod, PrintQueue.first,
    causeChanged]

/-- A stop changes nothing of a line that is not within its glyph rows, is already marked, or finds neither PAPER_OUT nor
COVER_OPEN held (R176). -/
theorem markStop_still (h : ∀ l, s.engine.line = some l → s.engine.row = none → 1 ≤ l.rowsDone →
    l.rowsDone < glyphRows l.record →
      l.interrupted = true ∨ s.engine.causes.paperOut = false ∧ s.engine.causes.coverOpen = false) : markStop s = s := by
  unfold markStop
  split
  · rfl
  · next l hl =>
    split
    · next hstop =>
      obtain ⟨-, hrow, hone, hrows, hcauses⟩ := hstop
      have hmarked : l.interrupted = true := by
        refine (h l hl hrow hone hrows).resolve_right fun hnone => ?_
        simp [hnone] at hcauses
      have hsame : ({ l with interrupted := true } : LineProgress) = l := by rw [← hmarked]
      rw [hsame, ← hl]
    · rfl

/-- In PAUSED the job's reasons follow the causes; PAPER_OUT and COVER_OPEN alone can mark a line then (R154, R176). -/
theorem causeRaised_paused (hnew : s.engine.causes.has cause = false) (h : s.engine.condition = .paused)
    (hjobs : s.queue.jobs = j :: rest) (hj : j.state = .paused)
    (hmark : ∀ l, s.engine.line = some l → s.engine.row = none → 1 ≤ l.rowsDone → l.rowsDone < glyphRows l.record →
      l.interrupted = true ∨ (s.engine.causes.put cause true).paperOut = false ∧
        (s.engine.causes.put cause true).coverOpen = false) :
    causeRaised cause s =
      let t := causeChanged cause true .paused s
      { t with queue := s.queue.first .paused t.engine.causes j rest } := by
  unfold causeRaised
  rw [if_neg (by simp [hnew])]
  dsimp only
  rw [h]
  dsimp only
  rw [markStop_still (by exact hmark)]
  simp [refreshReasons, PrintQueue.mapFirst, hjobs, hj, PrintQueue.first, causeChanged, printerReport, report, h]

/-- With another cause held the printer stays PAUSED (R167). -/
theorem causeGone_paused (hheld : s.engine.causes.has cause = true) (h : s.engine.condition = .paused)
    (hjobs : s.queue.jobs = j :: rest) (hj : j.state = .paused)
    (hmore : (s.engine.causes.put cause false).held = true) :
    causeGone cause s =
      let t := causeChanged cause false .paused s
      { t with queue := s.queue.first .paused t.engine.causes j rest } := by
  unfold causeGone
  rw [if_neg (by simp [hheld])]
  simp [h, hmore, refreshReasons, PrintQueue.mapFirst, hjobs, hj, PrintQueue.first, causeChanged, printerReport, report]

/-- With none held the printer prints again, its job RESUMED; an engine with a row in progress goes on with it (R167,
R175). -/
theorem causeGone_resumes (hheld : s.engine.causes.has cause = true) (h : s.engine.condition = .paused)
    (hjobs : s.queue.jobs = j :: rest) (hlast : (s.engine.causes.put cause false).held = false)
    (hrow : s.engine.row ≠ none) :
    causeGone cause s =
      let t := causeChanged cause false .printing s
      { t with
        queue := s.queue.first .printing Causes.none j rest
        link := t.link.push (.printJob j.id j.kind .printing (some j.state) .resumed none j.saleNumber (j.cursor - 1)
          j.lineCount) } := by
  have busy {u : State} (hu : u.engine.row ≠ none) : proceed u = u := by
    unfold proceed
    split
    · rfl
    · rw [if_neg fun hp => hu hp.2.2.1]
  unfold causeGone
  rw [if_neg (by simp [hheld])]
  simp only [h, hlast, leavePause, printerReport, report, hjobs, jobReport, Bool.false_eq_true, if_false]
  cases hl : s.engine.line with
  | none => simp [PrintQueue.first, causeChanged, h, hl]
  | some l =>
    dsimp only
    rw [if_neg fun hp => hrow hp.2, busy (by exact hrow)]
    simp [PrintQueue.first, causeChanged, h, hl]

end
end

/-! ### Walks with one request waiting (R139, R140) -/

section
variable {s : State}

/-- A drawer that waits alone is granted its 14 units where they are free (R123, R139). -/
theorem walk_pulls (hw : s.supply.waiting = ⟨some 14, none, none, none⟩) (hd : s.drawer.state = .waitSupply)
    (hlow : s.supply.low = false) (hfree : 14 ≤ s.supply.budget - s.supply.granted.total) :
    walk s = { s with
      supply := {
        budget := s.supply.budget
        low := false
        granted := { s.supply.granted with drawer := s.supply.granted.drawer + 14 }
        waiting := ⟨none, none, none, none⟩ }
      drawer := { s.drawer with
        state := .pullIn
        attempts := s.drawer.attempts + 1
        phaseTimer := some s.store.live.drawerPullMs }
      link := s.link.push (.drawerState .pullIn .waitSupply .granted (s.drawer.attempts + 1) none) } := by
  simp [walk, walkQuietly, hlow, walkOver, hw, Needs.of, grantFor, Supply.free, hfree, grantUnits, beginWork,
    Drawer.beginPull, Grants.add, Needs.put, hd, drawerReport, report, State.live]

/-- A phase strobes the new class while dots of it are left (R172). -/
theorem beginPhase_new {e : Engine} {r : RowProgress} (hrow : e.row = some r) (h : r.newLeft ≠ 0) (n : Nat) :
    e.beginPhase n = { e with
      row := some { r with newLeft := r.newLeft &&& ~~~leftmostDots r.newLeft (32 * n) }
      phase := some { dots := leftmostDots r.newLeft (32 * n), duration := r.newTime } } := by
  unfold Engine.beginPhase
  rw [hrow]
  exact if_pos h

/-- With none left it strobes the history class (R172). -/
theorem beginPhase_history {e : Engine} {r : RowProgress} (hrow : e.row = some r) (h : r.newLeft = 0) (n : Nat) :
    e.beginPhase n = { e with
      row := some { r with histLeft := r.histLeft &&& ~~~leftmostDots r.histLeft (32 * n) }
      phase := some { dots := leftmostDots r.histLeft (32 * n), duration := r.histTime } } := by
  unfold Engine.beginPhase
  rw [hrow]
  exact if_neg (not_not.2 h)

/-- A head that waits alone is granted as far as units are free, and strobes from the left (R140, R172). -/
theorem walk_strobes {k : Nat} (hw : s.supply.waiting = ⟨none, none, none, some k⟩)
    (hd : s.drawer.state ≠ .waitSupply) (hlow : s.supply.low = false)
    (hfree : 1 ≤ s.supply.budget - s.supply.granted.total) :
    let units := min k (s.supply.budget - s.supply.granted.total)
    walk s = { s with
      supply := { s.supply with
        granted := { s.supply.granted with head := s.supply.granted.head + units }
        waiting := ⟨none, none, none, none⟩ }
      engine := s.engine.beginPhase units } := by
  simp [walk, walkQuietly, hlow, walkOver, hw, Needs.of, grantFor, Supply.free, hfree, grantUnits, beginWork,
    Grants.add, Needs.put, hd]

/-- So a row that waited for its new class goes on (R172, R175). -/
theorem walk_strobes_new {k : Nat} {r : RowProgress} (hrow : s.engine.row = some r) (hleft : r.newLeft ≠ 0)
    (hw : s.supply.waiting = ⟨none, none, none, some k⟩) (hd : s.drawer.state ≠ .waitSupply)
    (hlow : s.supply.low = false) (hfree : 1 ≤ s.supply.budget - s.supply.granted.total) :
    let units := min k (s.supply.budget - s.supply.granted.total)
    let dots := leftmostDots r.newLeft (32 * units)
    walk s = { s with
      supply := { s.supply with
        granted := { s.supply.granted with head := s.supply.granted.head + units }
        waiting := ⟨none, none, none, none⟩ }
      engine := { s.engine with
        row := some { r with newLeft := r.newLeft &&& ~~~dots }
        phase := some { dots := dots, duration := r.newTime } } } := by
  intro units dots
  rw [walk_strobes hw hd hlow hfree, beginPhase_new hrow hleft]

/-! ### A release under a pending budget (R141, R142) -/

section
variable {r : Requester} {n : Nat} {h : Grants}

/-- While units stay granted the budget stays pending, and with nothing waiting the walk grants nothing (R142). -/
theorem releaseUnits_stays (hh : s.supply.granted.sub r n = h) (hsum : h.total ≠ 0)
    (hw : s.supply.waiting = ⟨none, none, none, none⟩) :
    releaseUnits r n s = { s with supply := { s.supply with granted := h } } := by
  unfold releaseUnits settleBudget
  rw [hh, if_neg fun hc => hsum hc.1]
  exact walk_of_none_waiting (by exact hw)

/-- The supply and the link once the pending budget is in force, with nothing granted (R142). -/
def budgetSettled (h : Grants) (s : State) : State :=
  { s with
    supply := { s.supply with budget := s.store.live.supplyBudget, granted := h }
    link := s.link.push (.supplyState s.supply.low s.supply.low .budget s.store.live.supplyBudget 0) }

theorem releaseUnits_settled (hh : s.supply.granted.sub r n = h) (hsum : h.total = 0)
    (hb : s.store.live.supplyBudget ≠ s.supply.budget) : releaseUnits r n s = walk (budgetSettled h s) := by
  unfold releaseUnits settleBudget
  rw [hh, if_pos ⟨hsum, hb⟩]
  rfl

end

/-! ### The end of a row where the engine does not go on (R174 to R176) -/

/-- The engine as a row's end leaves it, before it goes on (R173, R174). -/
def Engine.rowEnded (r : RowProgress) (e : Engine) : Engine :=
  { e with
    row := none
    line := e.line.map fun l => { l with rowsDone := l.rowsDone + 1 }
    memory := if r.pauseMark then 0 else r.dots
    speedIndex := if r.pauseMark then e.speedIndex else min 7 (e.speedIndex + 1)
    pendingPeriod := if r.pauseMark then e.pendingPeriod else stepPeriod (min 7 (e.speedIndex + 1)) }

theorem rowEnds_eq (r : RowProgress) (s : State) :
    rowEnds r s = afterRow { s with engine := s.engine.rowEnded r } := by
  unfold rowEnds Engine.rowEnded
  cases h : r.pauseMark <;> simp [Engine.setSpeed]

/-- Where the engine has stopped, a line within its glyph rows with PAPER_OUT or COVER_OPEN held is interrupted (R176). -/
theorem markStop_stopped {l : LineProgress} (hline : s.engine.line = some l) (hpaused : s.engine.condition = .paused)
    (hrow : s.engine.row = none) (hone : 1 ≤ l.rowsDone) :
    markStop s = { s with engine := { s.engine with line := some { l with
      interrupted := l.interrupted ||
        (decide (l.rowsDone < glyphRows l.record) && (s.engine.causes.paperOut || s.engine.causes.coverOpen)) } } } := by
  unfold markStop
  rw [hline]
  dsimp only
  split
  · next hstop =>
    obtain ⟨-, -, -, hrows, hcauses⟩ := hstop
    simp [hrows, hcauses]
  · next hgoes =>
    have hnone : (decide (l.rowsDone < glyphRows l.record) &&
        (s.engine.causes.paperOut || s.engine.causes.coverOpen)) = false := by
      simpa [hpaused, hrow, hone] using hgoes
    rw [hnone, Bool.or_false, ← hline]

/-- After a row that does not complete a TEXT or FEED line the engine stops in PAUSED and goes on otherwise (R174, R175). -/
theorem afterRow_left {l : LineProgress} (hline : s.engine.line = some l)
    (hleft : l.rowsDone < lineRows l.record l.spacing ∨ l.record = .cut) :
    afterRow s = if s.engine.condition = .paused then markStop s else proceed s := by
  unfold afterRow
  rw [hline]
  refine if_neg ?_
  rintro ⟨hrows, hcut⟩
  exact hleft.elim (Nat.not_lt.2 hrows) hcut

/-- While PAUSED the engine stops after a row that does not end a TEXT or FEED line (R175, R176). -/
theorem afterRow_stops {l : LineProgress} (hline : s.engine.line = some l) (hpaused : s.engine.condition = .paused)
    (hrow : s.engine.row = none) (hone : 1 ≤ l.rowsDone)
    (hleft : l.rowsDone < lineRows l.record l.spacing ∨ l.record = .cut) :
    afterRow s = { s with engine := { s.engine with line := some { l with
      interrupted := l.interrupted ||
        (decide (l.rowsDone < glyphRows l.record) && (s.engine.causes.paperOut || s.engine.causes.coverOpen)) } } } :=
  (afterRow_left hline hleft).trans ((if_pos hpaused).trans (markStop_stopped hline hpaused hrow hone))

/-- Without a line the engine goes nowhere (R170). -/
theorem proceed_lineless (h : s.engine.line = none) : proceed s = s := by
  unfold proceed
  rw [h]

end
end Sys2Proof.Machine
end

section
namespace Sys2Proof.Machine

/-! ### The supply goes low and recovers (R143, R144) -/

section
variable {s : State}

/-- The supply in its other state, with the report of it (R143, R144, R145). -/
def supplyTurned (low : Bool) (s : State) : State :=
  { s with
    supply := { s.supply with low := low }
    link := s.link.push (.supplyState low (!low) (if low then .low else .recovered) s.supply.budget
      s.supply.granted.total) }

theorem supplyFalls_eq (h : s.supply.low = false) : supplyFalls s = causeRaised .supplyLow (supplyTurned true s) :=
  if_neg (by simp [h])

theorem supplyRecovers_eq (h : s.supply.low = true) :
    supplyRecovers s = walk (causeGone .supplyLow (supplyTurned false s)) := if_pos h

/-- Work that an abandoned line left behind ends: its units are released, and a line that waits for it begins (R180). -/
theorem phaseEnds_abandoned {p : PhaseProgress} (hphase : s.engine.phase = some p) (ha : s.engine.abandoned = true) :
    phaseEnds s = abandonedEnds (releaseAll .head { s with engine := { s.engine with phase := none } }) := by
  unfold phaseEnds
  rw [hphase]
  exact if_pos ha

theorem stepEnds_abandoned {p : Nat} (hstep : s.engine.stepRunning = some p) (ha : s.engine.abandoned = true) :
    stepEnds s = abandonedEnds (releaseAll .motor { s with engine := { s.engine with stepRunning := none } }) := by
  unfold stepEnds
  rw [hstep]
  exact if_pos ha

/-- A second step's end ends the row (R174). -/
theorem stepEnds_second {p : Nat} {r : RowProgress} {u : State} (hstep : s.engine.stepRunning = some p)
    (ha : s.engine.abandoned = false)
    (hu : releaseAll .motor { s with engine := { s.engine with stepRunning := none } } = u)
    (hrow : u.engine.row = some r) (hsteps : r.stepsDone ≠ 0) : stepEnds s = rowEnds r u := by
  unfold stepEnds
  rw [hstep, ha]
  dsimp only
  rw [hu, hrow]
  exact if_neg hsteps

/-- The drawer as a drive leaves it, with the report of it, once its units are returned (R126 to R129). -/
def driveLeft (old : DrawerState) (cause : DrawerCause) (s : State) : State :=
  { s with
    drawer := drivenDrawer s
    link := s.link.push (.drawerState (drivenDrawer s).state old cause s.drawer.attempts none) }

theorem drivenDrawer_attempts : (drivenDrawer s).attempts = s.drawer.attempts := by
  unfold drivenDrawer
  split_ifs <;> rfl

theorem entered_eq :
    (if s.live.drawerSensePresent = false then enterClosed s
      else if s.drawer.senseOpen then enterOpen s
      else if s.drawer.attempts = 1 then enterCool s
      else enterJammed s) = { s with drawer := drivenDrawer s } := by
  unfold drivenDrawer State.live
  split_ifs <;> rfl

theorem endDrive_released {cause : DrawerCause} (h : cause ≠ .kick) :
    endDrive cause s = driveLeft s.drawer.state cause (releaseAll .drawer s) := by
  unfold endDrive
  dsimp only
  rw [entered_eq]
  simp [drawerReport, report, driveLeft, drivenDrawer_attempts, h]

/-- The last line of the only job ends a printer that prints (R153); a job that is no ORIGINAL leaves no mark in the sale. -/
theorem lineComplete_ends {j : Job} (hjobs : s.queue.jobs = [j]) (hkind : j.kind ≠ .original)
    (hlast : j.cursor = j.lineCount) (hk : s.engine.condition = .printing) :
    lineComplete s = { s with
      queue := { s.queue with jobs := [] }
      engine := { s.engine with line := none, speedIndex := 0, pendingPeriod := 2500, condition := .idle }
      link := s.link.push
        (.printJob j.id j.kind .done (some j.state) .done none j.saleNumber j.lineCount j.lineCount) } := by
  rw [lineComplete_last hjobs hlast]
  simp [doneJob, hkind, hk]

end

/-- Settles O56: no command that ends in SUPPLY_LOW has granted units; a fall is a cause raised, a recovery a cause gone and
a walk; and each release that empties the grants brings the pending budget into force before its walk. -/
theorem supplyFallsAndRecovers : Obligations.SupplyFallsAndRecovers := by
  refine ⟨fun s t h ht => ?_, ?_⟩
  · obtain ⟨hdrawer, hcutter, hmotor, hhead⟩ := step_low h ht
    exact ⟨hdrawer, hcutter, hmotor, hhead⟩
  intro s j rest hp e g noNeed held gone jobWith falls recovers
  refine ⟨fun hlow => exec_event hp rfl (if_pos hlow), fun hlow => exec_event hp rfl (if_neg (by simp [hlow])),
    fun hlow hnew => ?_, fun hlow hheld => ?_, ?_⟩
  · have fallen {t : State} (ht : causeRaised .supplyLow (supplyTurned true s) = t) :
        exec .supplyLow s = .next (endEvent t) := exec_event hp rfl ((supplyFalls_eq hlow).trans ht)
    let u := supplyTurned true s
    refine ⟨fun hk => fallen ?_, fun hjobs hk t ht => fallen ?_, fun hjobs hk hj hmark => fallen ?_⟩
    · exact causeRaised_quietly (s := u) (cause := .supplyLow) hnew hk
    · subst ht
      exact causeRaised_printing (s := u) (cause := .supplyLow) hnew hk hjobs
    · exact causeRaised_paused (s := u) (cause := .supplyLow) hnew hk hjobs hj hmark
  · have recovered {t u : State} (ht : causeGone .supplyLow (supplyTurned false s) = u) (hu : walk u = t) :
        exec .supplyRecovery s = .next (endEvent t) :=
      exec_event hp rfl ((supplyRecovers_eq hlow).trans ((congrArg walk ht).trans hu))
    let v := supplyTurned false s
    refine ⟨fun hk => ?_, fun hjobs hk hj hd => ⟨fun hmore hw => ?_,
      fun r k hlast hrow hleft hw hfree t u d ht hu hd' => ?_⟩⟩
    · have quietly := causeGone_quietly (s := v) (cause := .supplyLow) hheld hk
      refine ⟨fun hw hd => recovered quietly (walk_of_none_waiting hw), fun hw hd hfree t ht => ?_⟩
      subst ht
      exact recovered quietly (walk_pulls hw hd rfl hfree)
    · exact recovered (causeGone_paused (s := v) (cause := .supplyLow) hheld hk hjobs hj hmore)
        (walk_of_none_waiting hw)
    · subst ht hu hd'
      refine recovered (causeGone_resumes (s := v) (cause := .supplyLow) hheld hk hjobs hlast ?_) ?_
      · exact Option.ne_none_iff_exists'.2 ⟨r, hrow⟩
      · exact walk_strobes_new (r := r) (k := k) (by exact hrow) hleft (by exact hw) (by exact hd) rfl (by exact hfree)
  · intro b hb hne releases becomes home cutOver
    have released {c : Instr} {f : State → State} {h : Grants} {t : Supply → Link → State} (r : Requester)
        (n : Nat) (y : Engine) (i : Inputs) (post : State → State) (hc : exec c s = .next (asEvent f s))
        (hf : ∀ u, releaseUnits r n { s with engine := y, inputs := i } = u → u.engine = y → f s = post u)
        (hh : g.sub r n = h)
        (hstay : ∀ v k, post { s with engine := y, inputs := i, supply := v, link := k } = t v k)
        (hpull : s.drawer.state = .waitSupply → ∀ v k d,
          post { s with engine := y, inputs := i, supply := v, link := k, drawer := d } = { t v k with drawer := d }) :
        releases c h t := by
      subst hb
      have answers {u w : State} (hu : releaseUnits r n { s with engine := y, inputs := i } = u)
          (hy : u.engine = y) (hw : post u = w) :
          exec c s = .next (endEvent w) := exec_event hp hc ((hf u hu hy).trans hw)
      have settled (hsum : h.total = 0) := releaseUnits_settled (s := { s with engine := y, inputs := i }) hh hsum hne
      refine ⟨fun hw hd => ⟨fun hsum => ?_, fun hsum => ?_⟩, fun hw hd hlow hsum hfit u hu => ?_⟩
      · exact answers (releaseUnits_stays hh hsum hw) rfl (hstay ..)
      · exact answers ((settled hsum).trans (walk_of_none_waiting hw)) rfl (hstay ..)
      · subst hu
        have hfree : 14 ≤ s.store.live.supplyBudget - h.total := by
          rw [show h.total = 0 from hsum]
          exact hfit
        have hnone : h = ⟨0, 0, 0, 0⟩ := by
          cases h
          simp only [Grants.mk.injEq]
          simp only at hsum
          omega
        subst hnone
        refine answers ((settled hsum).trans (walk_pulls hw hd hlow hfree)) rfl ?_
        exact hpull hd ⟨s.store.live.supplyBudget, false, ⟨0 + 14, 0, 0, 0⟩, ⟨none, none, none, none⟩⟩ _ _
    refine ⟨fun p hphase ha hline => ?_, fun p hstep hmotor ha hline => ?_,
      fun p r l hstep hmotor ha hk hrow hsteps hmark hline hrows hpaper hcover => ?_,
      fun hcut haway hk => ⟨fun ha hline => ?_, fun ha hk hjobs hkind hlast => ?_⟩,
      fun hcut => ?_, fun hd d hd' => ?_⟩
    · refine released .head g.head { e with phase := none } s.inputs abandonedEnds rfl ?_ (by simp [Grants.sub])
        (fun v k => proceed_lineless hline) fun hd v k d => proceed_lineless hline
      rintro u rfl -
      exact phaseEnds_abandoned hphase ha
    · refine released .motor g.motor { e with stepRunning := none } s.inputs abandonedEnds rfl ?_
        (by simp [Grants.sub]) (fun v k => proceed_lineless hline) fun hd v k d => proceed_lineless hline
      rintro u rfl -
      exact stepEnds_abandoned hstep ha
    · have stops {v : Supply} {k : Link} {d : Drawer} :
          rowEnds r { s with engine := { e with stepRunning := none }, supply := v, link := k, drawer := d } =
            { becomes { e with
                stepRunning := none, row := none, memory := 0
                line := some { l with rowsDone := l.rowsDone + 1 } } v k with drawer := d } := by
        have hended : ({ e with stepRunning := none } : Engine).rowEnded r = { e with
            stepRunning := none, row := none, line := some { l with rowsDone := l.rowsDone + 1 }, memory := 0 } := by
          simp [Engine.rowEnded, hmark, show e.line = some l from hline]
        rw [rowEnds_eq, hended]
        refine (afterRow_stops (l := { l with rowsDone := l.rowsDone + 1 }) rfl (by exact hk) rfl (by simp)
          (.inl hrows)).trans ?_
        simp [becomes, hpaper, hcover]
      refine released .motor g.motor { e with stepRunning := none } s.inputs (rowEnds r) rfl ?_ (by simp [Grants.sub])
        (fun v k => stops) fun hd v k d => stops
      rintro u hu hy
      exact stepEnds_second hstep ha hu (by rw [hy]; exact hrow) (by simp [hsteps])
    · refine released .cutter g.cutter { e with cutter := .rest, cutTimer := none, seenAway := false }
        { s.inputs with cutterHome := true } (fun u => abandonedEnds (setSpeed 0 u)) rfl ?_ (by simp [Grants.sub])
        (fun v k => proceed_lineless hline) fun hd v k d => proceed_lineless hline
      rintro u rfl -
      exact (homeReturns_cut hcut haway hk).trans (if_pos ha)
    · refine released .cutter g.cutter { e with cutter := .rest, cutTimer := none, seenAway := false }
        { s.inputs with cutterHome := true } (fun u => lineComplete (setSpeed 0 u)) rfl ?_ (by simp [Grants.sub])
        (fun v k => lineComplete_ends hjobs hkind hlast hk) fun hd v k d => lineComplete_ends hjobs hkind hlast hk
      rintro u rfl -
      exact (homeReturns_cut hcut haway (hk.trans_ne (by decide))).trans (if_neg (Bool.eq_false_iff.1 ha))
    · refine released .cutter g.cutter
        { e with cutter := .jammed, cutTimer := none, clearTaken := false, abandoned := false, condition := .fault }
        s.inputs (printerReport e.condition .jammed none) rfl (by rintro u rfl -; exact if_pos hcut)
        (by simp [Grants.sub]) (fun v k => rfl) fun hd v k d => rfl
    · subst hd'
      refine released .drawer g.drawer e s.inputs (driveLeft .hold .holdEnd) rfl ?_ (by simp [Grants.sub])
        (fun v k => rfl) fun hwait => absurd (hd.symm.trans hwait) (by decide)
      rintro u rfl -
      exact (if_pos hd).trans ((endDrive_released (by decide)).trans (by rw [hd]; rfl))

end Sys2Proof.Machine
end

section
namespace Sys2Proof.Machine

/-! ### A request placed on a quiet supply (R138 to R140) -/

section
variable {s : State} {r : Requester} {need : Nat}

/-- A request other than the drawer's that fits is granted at once and begins its work (R139). -/
theorem requestUnits_granted {units : Nat} (hr : r ≠ .drawer) (hq : s.quietSupply)
    (hd : s.drawer.state ≠ .waitSupply) (hfit : grantFor r need s.supply.free = some units) :
    requestUnits r need s =
      beginWork r units { s with supply := { s.supply with granted := s.supply.granted.add r units } } := by
  obtain ⟨hw, hlow, -⟩ := hq
  rw [Supply.free] at hfit
  have hquiet : walkQuietly (placeNeed r need s) =
      beginWork r units { s with supply := { s.supply with granted := s.supply.granted.add r units } } := by
    cases r with
    | drawer => exact absurd rfl hr
    | cutter | motor | head =>
      simp [walkQuietly, placeNeed, hlow, walkOver, Needs.of, Needs.put, hw, Supply.free, hfit, grantUnits, beginWork]
  unfold requestUnits walk
  rw [hquiet, if_neg]
  rintro ⟨hwait, -⟩
  exact hd hwait

/-- One that does not fit waits (R138, R139). -/
theorem requestUnits_waits (hr : r ≠ .drawer) (hq : s.quietSupply) (hd : s.drawer.state ≠ .waitSupply)
    (hfit : grantFor r need s.supply.free = none) : requestUnits r need s = placeNeed r need s := by
  obtain ⟨hw, hlow, -⟩ := hq
  rw [Supply.free] at hfit
  have hquiet : walkQuietly (placeNeed r need s) = placeNeed r need s := by
    cases r with
    | drawer => exact absurd rfl hr
    | cutter | motor | head =>
      simp [walkQuietly, placeNeed, hlow, walkOver, Needs.of, Needs.put, hw, Supply.free, hfit]
  unfold requestUnits walk
  rw [hquiet, if_neg]
  rintro ⟨hwait, -⟩
  exact hd hwait

/-- A motor that holds no units begins its step at the pending period where 3 are free (R173). -/
theorem requestMotor_begins (hq : s.quietSupply) (hd : s.drawer.state ≠ .waitSupply)
    (hmotor : s.supply.granted.motor = 0) (hfree : 3 ≤ s.supply.free) :
    requestMotor s = { s with
      engine := s.engine.beginStep
      supply := { s.supply with granted := { s.supply.granted with motor := 3 } } } := by
  obtain ⟨hw, hlow, -⟩ := hq
  rw [requestMotor_granted s hw hlow hfree hd, hmotor]

/-- A motor whose 3 units are not free waits with the speed index at 0 (R173). -/
theorem requestMotor_waits (hq : s.quietSupply) (hd : s.drawer.state ≠ .waitSupply) (hfree : s.supply.free < 3) :
    requestMotor s = setSpeed 0 (placeNeed .motor 3 s) := by
  unfold requestMotor
  rw [requestUnits_waits (r := .motor) (need := 3) (by decide) hq hd (if_neg (Nat.not_le.2 hfree))]
  rfl

/-- A cutter whose 8 units are free cuts (R177). -/
theorem requestCut_granted (hq : s.quietSupply) (hd : s.drawer.state ≠ .waitSupply) (hfree : 8 ≤ s.supply.free) :
    requestCut s = { s with
      engine := { s.engine with cutter := .cutting, cutTimer := some 1000, seenAway := !s.inputs.cutterHome }
      supply := { s.supply with granted := { s.supply.granted with cutter := s.supply.granted.cutter + 8 } } } := by
  unfold requestCut
  rw [requestUnits_granted (r := .cutter) (need := 8) (units := 8) (by decide) (by exact hq) (by exact hd)
    (if_pos (by exact hfree))]
  rfl

theorem requestCut_waits (hq : s.quietSupply) (hd : s.drawer.state ≠ .waitSupply) (hfree : s.supply.free < 8) :
    requestCut s = { s with
      engine := { s.engine with cutter := .waiting }
      supply := { s.supply with waiting := { s.supply.waiting with cutter := some 8 } } } := by
  unfold requestCut
  rw [requestUnits_waits (r := .cutter) (need := 8) (by decide) (by exact hq) (by exact hd)
    (if_neg (by exact Nat.not_le.2 hfree))]
  rfl

end

/-! ### The request of a row (R140, R170 to R173) -/

/-- One unit for each 32 black dots or part of 32, at most 12 (R140). -/
theorem unitsForDots_countDots (d : Dots) :
    unitsForDots (countDots d) = min 12 ((((List.range 384).filter fun i => d.getLsbD i).length + 31) / 32) := by
  rw [unitsForDots, countDots_length]

section
variable {s : State} {w : RowProgress} {n : Nat}

theorem rowRequest_new (hrow : s.engine.row = some w) (hnew : w.newLeft ≠ 0) :
    rowRequest s = requestUnits .head (unitsForDots (countDots w.newLeft)) s := by
  unfold rowRequest
  rw [hrow]
  exact if_pos hnew

theorem rowRequest_history (hrow : s.engine.row = some w) (hnew : w.newLeft = 0) (hhist : w.histLeft ≠ 0) :
    rowRequest s = requestUnits .head (unitsForDots (countDots w.histLeft)) s := by
  unfold rowRequest
  rw [hrow]
  exact (if_neg (not_not.2 hnew)).trans (if_pos hhist)

theorem rowRequest_step (hrow : s.engine.row = some w) (hnew : w.newLeft = 0) (hhist : w.histLeft = 0) :
    rowRequest s = requestMotor s := by
  unfold rowRequest
  rw [hrow]
  exact (if_neg (not_not.2 hnew)).trans (if_neg (not_not.2 hhist))

/-- A head that holds no units is granted as far as units are free, and strobes from the left (R140, R172). -/
theorem requestHead_granted (hq : s.quietSupply) (hd : s.drawer.state ≠ .waitSupply)
    (hhead : s.supply.granted.head = 0) (hfree : 1 ≤ s.supply.free) :
    requestUnits .head n s = { s with
      supply := { s.supply with granted := { s.supply.granted with head := min n s.supply.free } }
      engine := s.engine.beginPhase (min n s.supply.free) } := by
  rw [requestUnits_granted (r := .head) (need := n) (by decide) hq hd (if_pos hfree)]
  simp [Grants.add, hhead, beginWork]

/-- With none free it waits whole (R139, R140). -/
theorem requestHead_waits (hq : s.quietSupply) (hd : s.drawer.state ≠ .waitSupply) (hfree : s.supply.free = 0) :
    requestUnits .head n s = { s with
      supply := { s.supply with waiting := { s.supply.waiting with head := some n } } } := by
  rw [requestUnits_waits (r := .head) (need := n) (by decide) hq hd (if_neg (by omega))]
  rfl

/-- A row with dots of the new class left strobes them as far as units are free (R140, R172). -/
theorem rowRequest_new_granted (hrow : s.engine.row = some w) (hnew : w.newLeft ≠ 0)
    (hn : unitsForDots (countDots w.newLeft) = n) (hq : s.quietSupply) (hd : s.drawer.state ≠ .waitSupply)
    (hhead : s.supply.granted.head = 0) (hfree : 1 ≤ s.supply.free) :
    let units := min n s.supply.free
    let dots := leftmostDots w.newLeft (32 * units)
    rowRequest s = { s with
      supply := { s.supply with granted := { s.supply.granted with head := units } }
      engine := { s.engine with
        row := some { w with newLeft := w.newLeft &&& ~~~dots }
        phase := some { dots := dots, duration := w.newTime } } } := by
  intro units dots
  rw [rowRequest_new hrow hnew, hn, requestHead_granted hq hd hhead hfree, beginPhase_new hrow hnew]

/-- One with dots of the history class alone strobes those (R140, R172). -/
theorem rowRequest_history_granted (hrow : s.engine.row = some w) (hnew : w.newLeft = 0) (hhist : w.histLeft ≠ 0)
    (hn : unitsForDots (countDots w.histLeft) = n) (hq : s.quietSupply) (hd : s.drawer.state ≠ .waitSupply)
    (hhead : s.supply.granted.head = 0) (hfree : 1 ≤ s.supply.free) :
    let units := min n s.supply.free
    let dots := leftmostDots w.histLeft (32 * units)
    rowRequest s = { s with
      supply := { s.supply with granted := { s.supply.granted with head := units } }
      engine := { s.engine with
        row := some { w with histLeft := w.histLeft &&& ~~~dots }
        phase := some { dots := dots, duration := w.histTime } } } := by
  intro units dots
  rw [rowRequest_history hrow hnew hhist, hn, requestHead_granted hq hd hhead hfree, beginPhase_history hrow hnew]

end

/-- The leftmost dots of a row: dots of it, as many as asked for or as there are, each left of all that are left out. -/
theorem leftmostDots_spec (d : Dots) (n : Nat) :
    leftmostDots d n &&& ~~~d = 0 ∧
      ((List.range 384).filter fun i => (leftmostDots d n).getLsbD i).length =
        min n ((List.range 384).filter fun i => d.getLsbD i).length ∧
      ∀ i j, (leftmostDots d n).getLsbD i = true → (d &&& ~~~leftmostDots d n).getLsbD j = true → i < j := by
  obtain ⟨hdots, hcount, hleft⟩ := leftmostFrom_spec d (List.range 384) n List.pairwise_lt_range
    fun i hi => List.mem_range.1 hi
  refine ⟨BitVec.eq_of_getLsbD_eq fun i hi => ?_, hcount, fun i j hi hj => ?_⟩
  · cases hk : (leftmostDots d n).getLsbD i with
    | false => simp [hk]
    | true => simp [hk, (hdots i hk).2]
  · simp only [BitVec.getLsbD_and, BitVec.getLsbD_not, Bool.and_eq_true, decide_eq_true_eq, Bool.not_eq_true'] at hj
    obtain ⟨hjd, hj384, hjk⟩ := hj
    exact hleft i j hi (List.mem_range.2 hj384) hjd hjk

/-! ### The engine goes on (R170, R173, R175) -/

theorem stepPeriod_table {i : Nat} : stepPeriod i = [2500, 1800, 1400, 1200, 1050, 950, 880].getD i 830 := by
  match i with
  | 0 | 1 | 2 | 3 | 4 | 5 | 6 | _ + 7 => rfl

section
variable {s : State} {l : LineProgress}

/-- The engine with a line's next row begun at a band and its base time, before the row's first request (R170 to
R172). -/
def rowBegun (heat : Band × Nat) (l : LineProgress) (s : State) : State :=
  let dots := rowDots l.record l.rowsDone
  let time := heat.2 * s.store.live.printDensity / 100
  { s with engine := { s.engine with
    band := heat.1
    line := some l
    row := some
      { dots := dots, newLeft := dots &&& ~~~s.engine.memory, histLeft := dots &&& s.engine.memory, newTime := time
        histTime := time * 3 / 4, pauseMark := false, stepsDone := 0 } } }

/-- PRINTING, with rows of the line left, the next one begins (R170). -/
theorem proceed_begins {heat : Band × Nat} (hheat : heat = (bandOf s.inputs.headTemp, (bandOf s.inputs.headTemp).base))
    (hline : s.engine.line = some l) (hk : s.engine.condition = .printing) (ha : s.engine.abandoned = false)
    (hrow : s.engine.row = none) (hcut : s.engine.cutter = .rest)
    (hspacing : l.rowsDone = 0 → l.spacing = s.store.live.lineSpacing)
    (hrows : l.rowsDone < lineRows l.record l.spacing) : proceed s = rowRequest (rowBegun heat l s) := by
  have hread : (if l.rowsDone = 0 then { l with spacing := s.live.lineSpacing } else l) = l := by
    split
    · next h => rw [State.live, ← hspacing h]
    · rfl
  subst hheat
  unfold proceed
  rw [hline]
  dsimp only
  rw [if_pos ⟨hk, ha, hrow, hcut⟩, hread, if_pos hrows]
  rfl

/-- After row 64 of a CUT the cutter asks for its units (R177). -/
theorem proceed_cuts (hline : s.engine.line = some l) (hk : s.engine.condition = .printing)
    (ha : s.engine.abandoned = false) (hrow : s.engine.row = none) (hcut : s.engine.cutter = .rest)
    (hrecord : l.record = .cut) (hrows : l.rowsDone = 64) : proceed s = requestCut s := by
  unfold proceed
  rw [hline]
  simp [hk, ha, hrow, hcut, hrows, hrecord, lineRows]

/-- After a row that completes a TEXT or FEED line the job goes on (R153, R169). -/
theorem afterRow_complete (hline : s.engine.line = some l) (hrows : l.rowsDone = lineRows l.record l.spacing)
    (hrecord : l.record ≠ .cut) : afterRow s = lineComplete s := by
  unfold afterRow
  rw [hline]
  exact if_pos ⟨hrows.ge, hrecord⟩

/-- A phase's end leads to the row's next request (R172). -/
theorem phaseEnds_requests {p : PhaseProgress} (hphase : s.engine.phase = some p) (ha : s.engine.abandoned = false)
    (hq : s.quietSupply) (hd : s.drawer.state ≠ .waitSupply) :
    phaseEnds s = rowRequest { s with
      engine := { s.engine with phase := none }
      supply := { s.supply with granted := { s.supply.granted with head := 0 } } } := by
  unfold phaseEnds releaseAll
  rw [hphase, ha]
  dsimp only
  rw [releaseUnits_quiet _ _ _ (by exact hq) (by exact hd)]
  simp [Grants.sub, Grants.of]

theorem releaseAll_motor (hq : s.quietSupply) (hd : s.drawer.state ≠ .waitSupply) :
    releaseAll .motor s = { s with supply := { s.supply with granted := { s.supply.granted with motor := 0 } } } := by
  unfold releaseAll
  rw [releaseUnits_quiet _ _ _ hq hd]
  simp [Grants.sub, Grants.of]

/-- A first step's end asks for the second (R173). -/
theorem stepEnds_first {p : Nat} {r : RowProgress} (hstep : s.engine.stepRunning = some p)
    (ha : s.engine.abandoned = false) (hrow : s.engine.row = some r) (hsteps : r.stepsDone = 0)
    (hq : s.quietSupply) (hd : s.drawer.state ≠ .waitSupply) :
    stepEnds s = requestMotor { s with
      engine := { s.engine with row := some { r with stepsDone := 1 }, stepRunning := none }
      supply := { s.supply with granted := { s.supply.granted with motor := 0 } } } := by
  unfold stepEnds
  rw [hstep, ha]
  dsimp only
  rw [releaseAll_motor (by exact hq) (by exact hd), hrow]
  exact if_pos hsteps

end

end Sys2Proof.Machine
end

section
namespace Sys2Proof.Machine

/-- The bands of the head's temperature with their base times (R171). -/
theorem heat_table (x : Int) : (bandOf x, (bandOf x).base) =
    if x < 10 then (.a, 760) else if x < 20 then (.b, 700) else if x < 30 then (.c, 640) else if x < 40 then (.d, 580)
    else if x < 50 then (.e, 520) else if x < 60 then (.f, 460) else (.g, 400) := by
  unfold bandOf
  split_ifs <;> rfl

/-- Settles O59: each event of a row is the engine's next request on a quiet supply, and the end of a row is the engine
that stops, begins the next row, asks for the cut or is given the next line. -/
theorem rowRunsToItsEnd : Obligations.RowRunsToItsEnd := by
  refine ⟨fun d k n hk => hk ▸ leftmostDots_spec d n, ?_⟩
  intro s r l hp hq hd ha hrow hline e g desired period heat glyphs rows requests begins
  have hheat : heat = (bandOf s.inputs.headTemp, (bandOf s.inputs.headTemp).base) := (heat_table _).symm
  have hglyphs (x : LineRecord) : glyphRows x = glyphs x := by cases x <;> rfl
  have hrows (x : LineProgress) : lineRows x.record x.spacing = rows x := by
    obtain ⟨record, rowsDone, spacing, interrupted⟩ := x
    cases record <;> rfl
  have requested {c : Instr} {f : State → State} {t : State} {w : RowProgress} (hc : exec c s = .next (asEvent f s))
      (hf : f s = rowRequest { t with engine := { t.engine with row := some w } }) (ht : t.quietSupply)
      (htd : t.drawer.state ≠ .waitSupply) (hhead : t.supply.granted.head = 0) (hmotor : t.supply.granted.motor = 0) :
      requests c t w := by
    let u : State := { t with engine := { t.engine with row := some w } }
    have answers {x : State} (hx : rowRequest u = x) : exec c s = .next (endEvent x) := exec_event hp hc (hf.trans hx)
    refine ⟨fun d k hnew hk hd' => ?_, fun d k hnew hhist hk hd' => ?_, fun hnew hhist => ?_⟩
    · subst hk hd'
      have hn := unitsForDots_countDots w.newLeft
      exact ⟨fun hfree => answers (rowRequest_new_granted rfl hnew hn ht htd hhead hfree),
        fun hfree => answers ((rowRequest_new rfl hnew).trans (hn ▸ requestHead_waits ht htd hfree))⟩
    · subst hk hd'
      have hn := unitsForDots_countDots w.histLeft
      exact ⟨fun hfree => answers (rowRequest_history_granted rfl hnew hhist hn ht htd hhead hfree),
        fun hfree => answers ((rowRequest_history rfl hnew hhist).trans (hn ▸ requestHead_waits ht htd hfree))⟩
    · have hstep : rowRequest u = requestMotor u := rowRequest_step rfl hnew hhist
      exact ⟨fun hfree => answers (hstep.trans (requestMotor_begins ht htd hmotor hfree)),
        fun hfree => answers (hstep.trans (requestMotor_waits ht htd hfree))⟩
  refine ⟨fun p hphase hmotor => ?_, fun q hstep hmotor hsteps => ?_,
    fun q hstep hmotor hhead hsteps => ?_, fun hphase => ?_, fun hstep => ?_⟩
  · refine requested rfl ((phaseEnds_requests hphase ha hq hd).trans ?_) hq hd rfl hmotor
    rw [← hrow]
  · have hfirst := stepEnds_first hstep ha hrow hsteps hq hd
    have hkept : { s.supply with granted := { g with motor := 3 } } = s.supply := by rw [← hmotor]
    refine ⟨fun hfree => exec_event hp rfl (hfirst.trans ?_), fun hfree => exec_event hp rfl (hfirst.trans ?_)⟩
    · exact (requestMotor_begins (by exact hq) (by exact hd) rfl (by exact hfree)).trans (congrArg (fun v => ({ s with
        engine := { e with
          row := some { r with stepsDone := 1 }, stepRunning := some e.pendingPeriod, periodInForce := e.pendingPeriod }
        supply := v } : State)) hkept)
    · exact requestMotor_waits (by exact hq) (by exact hd) (by exact hfree)
  · intro index ended t free x answers
    have hends : stepEnds s = afterRow { t with engine := { ended with line := some x } } := by
      have hsecond := stepEnds_second hstep ha (releaseAll_motor hq hd) hrow (by simp [hsteps])
      refine hsecond.trans ((rowEnds_eq ..).trans ?_)
      simp only [Engine.rowEnded, hline, stepPeriod_table, Option.map_some]
      rfl
    have goesOn (hk : e.condition = .printing) (h : x.rowsDone < lineRows l.record l.spacing ∨ l.record = .cut) :
        stepEnds s = proceed { t with engine := { ended with line := some x } } :=
      hends.trans ((afterRow_left rfl h).trans (if_neg (hk.trans_ne (by decide))))
    have begun {k : PrintQueue} {z : LineProgress}
        (hz : stepEnds s = proceed { t with engine := { ended with line := some z }, queue := k })
        (hk : e.condition = .printing) (hcut : e.cutter = .rest)
        (hspacing : z.rowsDone = 0 → z.spacing = s.store.live.lineSpacing) : begins { t with queue := k } z := by
      intro hleft
      refine requested rfl (hz.trans ?_) hq hd hhead rfl
      exact proceed_begins hheat rfl hk ha rfl hcut hspacing ((hrows z).symm ▸ hleft)
    have hleft : x.rowsDone < rows l ∨ x.rowsDone = rows l ∧ l.record = .cut →
        x.rowsDone < lineRows l.record l.spacing ∨ l.record = .cut := by
      rw [hrows l]
      exact Or.imp_right And.right
    refine ⟨fun hstop hk => ?_, fun hmore hk hcut => ?_, fun hlast hrecord hk hcut => ?_,
      fun j j' rest y z k hlast hrecord hjobs hj hcursor hj' hy hz hk' => ?_⟩
    · rw [← hglyphs]
      exact exec_event hp rfl (hends.trans (afterRow_stops rfl hk rfl (Nat.le_add_left 1 _) (hleft hstop)))
    · exact begun (goesOn hk (hleft (.inl hmore))) hk hcut fun h => absurd h (Nat.succ_ne_zero _)
    · have hcuts : stepEnds s = requestCut { t with engine := { ended with line := some x } } := by
        refine (goesOn hk (.inr hrecord)).trans (proceed_cuts rfl hk ha rfl hcut hrecord (hlast.trans ?_))
        rw [← hrows, hrecord]
        rfl
      have hfreed : t.supply.free = free := by
        unfold Supply.free Grants.total
        rw [show t.supply.granted.head = 0 from hhead]
        rfl
      refine ⟨fun hfree => exec_event hp rfl (hcuts.trans ?_), fun hfree => exec_event hp rfl (hcuts.trans ?_)⟩
      · exact requestCut_granted hq hd (hfreed ▸ hfree)
      · exact requestCut_waits hq hd (hfreed ▸ hfree)
    · subst hj' hz hk'
      have hnext : stepEnds s = proceed { t with
          engine := { ended with line := givenLine s { j with cursor := j.cursor + 1 } }
          queue := { s.queue with jobs := { j with cursor := j.cursor + 1 } :: rest } } :=
        hends.trans ((afterRow_complete rfl (hlast.trans (hrows l).symm) hrecord).trans
          (lineComplete_next hjobs hj hcursor))
      rw [givenLine, hy] at hnext
      refine ⟨fun hk => ?_, fun hk hcut => ?_⟩
      · exact exec_event hp rfl (hnext.trans (proceed_still (hk.trans_ne (by decide))))
      · exact begun hnext hk hcut fun _ => rfl
  · refine exec_event hp rfl ?_
    unfold phaseEnds
    rw [hphase]
  · refine exec_event hp rfl ?_
    unfold stepEnds
    rw [hstep]

end Sys2Proof.Machine
end

section
namespace Sys2Proof.Machine

/-! ### The printer's sensors (R154, R166, R175, R176) -/

section
variable {s : State} {cause : PauseCause} {j : Job} {rest : List Job} {l : LineProgress}

/-- A head reading at a limit is HEAD_HOT raised or gone (R166). -/
theorem headReads_follows {raised : Bool} {x : Int} (h : if raised then 65 ≤ x else x ≤ 55) :
    headReads x s = causeFollows .headHot raised { s with inputs := { s.inputs with headTemp := x } } := by
  unfold headReads causeFollows
  cases raised with
  | true => rw [if_pos (by simpa using h), if_pos rfl]
  | false =>
    have hcool : x ≤ 55 := by simpa using h
    rw [if_neg (by omega), if_pos hcool, if_neg (by decide)]

/-- After a sensor's cause is raised PAPER_OUT or COVER_OPEN is held unless HEAD_HOT came alone (R176). -/
theorem put_marks (c : Causes) (h : cause ≠ .supplyLow) :
    ((c.put cause true).paperOut = true ∨ (c.put cause true).coverOpen = true) ↔
      (cause ≠ .headHot ∨ c.paperOut = true ∨ c.coverOpen = true) := by
  cases cause with
  | paperOut | coverOpen | headHot => simp [Causes.put]
  | supplyLow => exact absurd rfl h

/-- A cause changed in a condition that stays (R181). -/
theorem causeChanged_stays {held : Bool} {k : PrinterCondition} (hk : s.engine.condition = k) :
    causeChanged cause held k s = { s with
      engine := { s.engine with causes := s.engine.causes.put cause held }
      link := s.link.push (.printerState k k (s.engine.causes.put cause held) s.engine.paperLow
        (if held then .causeRaised else .causeGone) (some cause)) } := by
  subst hk
  rfl

/-- One changed as a condition is left (R181). -/
theorem causeChanged_leaves {held : Bool} {k old : PrinterCondition} (hk : s.engine.condition = old) :
    causeChanged cause held k s = { s with
      engine := { s.engine with causes := s.engine.causes.put cause held, condition := k }
      link := s.link.push (.printerState k old (s.engine.causes.put cause held) s.engine.paperLow
        (if held then .causeRaised else .causeGone) (some cause)) } := by
  subst hk
  rfl

/-- A stopped line is marked where it stands within its glyph rows with PAPER_OUT or COVER_OPEN held (R176). -/
theorem markStop_line (hline : s.engine.line = some l) (hpaused : s.engine.condition = .paused)
    (hrow : s.engine.row = none) :
    markStop s = { s with engine := { s.engine with line := some { l with
      interrupted := l.interrupted || decide (1 ≤ l.rowsDone ∧ l.rowsDone < glyphRows l.record ∧
        (s.engine.causes.paperOut = true ∨ s.engine.causes.coverOpen = true)) } } } := by
  unfold markStop
  rw [hline]
  dsimp only
  by_cases hstop : 1 ≤ l.rowsDone ∧ l.rowsDone < glyphRows l.record ∧
      (s.engine.causes.paperOut = true ∨ s.engine.causes.coverOpen = true)
  · rw [if_pos ⟨hpaused, hrow, hstop⟩, decide_eq_true hstop, Bool.or_true]
  · rw [if_neg fun h => hstop h.2.2, decide_eq_false hstop, Bool.or_false, ← hline]

/-- A cause raised while the engine stands in a line changes the job's reasons and may mark the line (R154, R176). -/
theorem causeRaised_stopped (hnew : s.engine.causes.has cause = false) (h : s.engine.condition = .paused)
    (hjobs : s.queue.jobs = j :: rest) (hj : j.state = .paused) (hline : s.engine.line = some l)
    (hrow : s.engine.row = none) :
    causeRaised cause s =
      let t := causeChanged cause true .paused s
      { t with
        queue := s.queue.first .paused t.engine.causes j rest
        engine := { t.engine with line := some { l with
          interrupted := l.interrupted || decide (1 ≤ l.rowsDone ∧ l.rowsDone < glyphRows l.record ∧
            (t.engine.causes.paperOut = true ∨ t.engine.causes.coverOpen = true)) } } } := by
  unfold causeRaised
  rw [if_neg (by simp [hnew])]
  dsimp only
  rw [h]
  dsimp only
  rw [markStop_line (l := l) (by exact hline) rfl (by exact hrow)]
  simp [refreshReasons, PrintQueue.mapFirst, hjobs, hj, PrintQueue.first, causeChanged, printerReport, report, h]

/-- The printer PRINTING again with no cause held and its job RESUMED, before the engine goes on (R154, R167). -/
def resumed (cause : PauseCause) (j : Job) (rest : List Job) (s : State) : State :=
  { s with
    queue := s.queue.first .printing Causes.none j rest
    engine := { s.engine with causes := Causes.none, condition := .printing }
    link := (s.link.push (.printerState .printing s.engine.condition Causes.none s.engine.paperLow .causeGone
      (some cause))).push
      (.printJob j.id j.kind .printing (some j.state) .resumed none j.saleNumber (j.cursor - 1) j.lineCount) }

section
variable (hheld : s.engine.causes.has cause = true) (h : s.engine.condition = .paused)
  (hjobs : s.queue.jobs = j :: rest) (hlast : s.engine.causes.put cause false = Causes.none)
include hheld h hjobs hlast

/-- The last cause gone: the line is given again where it was interrupted, and the engine goes on (R175, R176). -/
theorem causeGone_last : causeGone cause s = match s.engine.line with
    | none => resumed cause j rest s
    | some l => if l.interrupted = true ∧ s.engine.row = none then proceed (giveLine (resumed cause j rest s))
      else proceed (resumed cause j rest s) := by
  unfold causeGone
  rw [if_neg (by simp [hheld])]
  simp only [h, hlast, show Causes.none.held = false from rfl, leavePause, printerReport, report, hjobs, jobReport,
    Bool.false_eq_true, if_false]
  simp only [resumed, h]
  rfl

theorem causeGone_onward (hkept : ∀ l, s.engine.line = some l → s.engine.row = none → l.interrupted = false) :
    causeGone cause s = proceed (resumed cause j rest s) := by
  rw [causeGone_last hheld h hjobs hlast]
  split
  · next hline => exact (proceed_lineless (s := resumed cause j rest s) hline).symm
  · next l hline =>
    refine if_neg ?_
    rintro ⟨hmarked, hrow⟩
    exact absurd hmarked (Bool.eq_false_iff.1 (hkept l hline hrow))

theorem causeGone_again (hline : s.engine.line = some l) (hmarked : l.interrupted = true) (hrow : s.engine.row = none) :
    causeGone cause s =
      let t := resumed cause j rest s
      proceed { t with engine := { t.engine with
        line := givenLine s { j with state := .printing, reasons := Causes.none } } } := by
  rw [causeGone_last hheld h hjobs hlast, hline]
  dsimp only
  rw [if_pos ⟨hmarked, hrow⟩, giveLine_first (s := resumed cause j rest s) rfl (by simp)]
  rfl

end

/-- A row in progress, a cutter with a request or a cut running, or no line to print: the engine stays (R175). -/
theorem proceed_busy (hbusy : s.engine.row ≠ none ∨ s.engine.line = none ∨ s.engine.cutter ≠ .rest) :
    proceed s = s := by
  unfold proceed
  split
  · rfl
  · next l hline =>
    refine if_neg ?_
    rintro ⟨-, -, hrow, hcut⟩
    simp [hrow, hline, hcut] at hbusy

/-- The next row of a line begins; a line none of whose rows has begun reads `line_spacing` again (R170, log 22). -/
theorem proceed_nextRow {l' : LineProgress} {n : Nat} (hq : s.quietSupply) (hd : s.drawer.state ≠ .waitSupply)
    (hk : s.engine.condition = .printing) (ha : s.engine.abandoned = false) (hrow : s.engine.row = none)
    (hcut : s.engine.cutter = .rest) (hline : s.engine.line = some l)
    (hread : (if l.rowsDone = 0 then { l with spacing := s.store.live.lineSpacing } else l) = l')
    (hn : l'.rowsDone = n) (hrows : n < lineRows l'.record l'.spacing) :
    ∃ u, proceed s = u ∧ u.engine.line = some l' ∧
      u.engine.row.map RowProgress.dots = some (rowDots l'.record n) ∧
      u = { s with engine := u.engine, supply := u.supply } := by
  subst hn
  have hbegins : proceed s = beginRow l' s := by
    unfold proceed
    rw [hline]
    dsimp only [State.live]
    rw [if_pos ⟨hk, ha, hrow, hcut⟩, hread, if_pos hrows]
  obtain ⟨hdots, hgiven, hframe⟩ := beginRow_keeps l' s (by rw [hq.1]) hd
  exact ⟨_, hbegins, hgiven, hdots, hframe⟩

/-- A cutter that holds no units and finds 8 free holds 8 as it cuts (R177). -/
theorem requestCut_fromNone (hq : s.quietSupply) (hd : s.drawer.state ≠ .waitSupply)
    (hnone : s.supply.granted.cutter = 0) (hfree : 8 ≤ s.supply.free) :
    requestCut s = { s with
      engine := { s.engine with cutter := .cutting, cutTimer := some 1000, seenAway := !s.inputs.cutterHome }
      supply := { s.supply with granted := { s.supply.granted with cutter := 8 } } } := by
  rw [requestCut_granted hq hd hfree, hnone]

theorem paperLowChanges_reports {low : Bool} (h : s.engine.paperLow ≠ low) :
    paperLowChanges low s = { s with
      engine := { s.engine with paperLow := low }
      link := s.link.push
        (.printerState s.engine.condition s.engine.condition s.engine.causes low .paperLow none) } := if_neg h

end

/-- Settles O58: a sensor command is a cause raised or gone, and the last cause gone is the engine that goes on where it
stopped. -/
theorem printerSensors : Obligations.PrinterSensors := by
  intro s j rest k hp reads e jobWith setReport
  have sensed {raised : Bool} {i : Instr} {t : State} (h : reads raised i t) :
      ∃ x, t = { s with inputs := { s.inputs with headTemp := x } } ∧ k ≠ .supplyLow ∧
        exec i s = .next (endEvent (causeFollows k raised t)) := by
    obtain ⟨rfl, rfl, rfl⟩ | ⟨rfl, rfl, rfl⟩ | ⟨rfl, x, rfl, hx, rfl⟩ := h
    · exact ⟨t.inputs.headTemp, rfl, by decide, exec_event hp rfl rfl⟩
    · exact ⟨t.inputs.headTemp, rfl, by decide, exec_event hp rfl rfl⟩
    · exact ⟨_, rfl, by decide, exec_event hp rfl (headReads_follows hx)⟩
  refine ⟨fun i t ht c hc => ?_, fun i t ht c hc => ?_, fun x hwarm hcool => exec_event hp rfl ?_,
    fun lvl => ⟨fun h => exec_event hp rfl (paperLowChanges_reports h), fun h => exec_event hp rfl (if_pos h)⟩⟩
  · subst hc
    obtain ⟨x, rfl, hsensor, hexec⟩ := sensed ht
    let t : State := { s with inputs := { s.inputs with headTemp := x } }
    have raised {u : State} (hu : causeRaised k t = u) : exec i s = .next (endEvent u) := by rw [hexec, ← hu]; rfl
    refine ⟨fun h => raised (if_pos h), fun hnew hk hjobs => raised ?_, fun hnew hk => raised ?_,
      fun hnew hk hjobs hj => ⟨fun hstays => raised ?_, fun l hrow hline => raised ?_⟩⟩
    · rw [causeRaised_printing (s := t) hnew hk hjobs, causeChanged_leaves (s := t) hk]
      rfl
    · exact causeRaised_quietly (s := t) hnew hk
    · have hunmarked (l : LineProgress) (hline : t.engine.line = some l) (hrow : t.engine.row = none) : False := by
        cases hline.symm.trans (hstays.resolve_left (not_not.2 hrow))
      rw [causeRaised_paused (s := t) hnew hk hjobs hj fun l hline hrow => (hunmarked l hline hrow).elim,
        causeChanged_stays (s := t) hk]
      rfl
    · rw [causeRaised_stopped (s := t) hnew hk hjobs hj hline hrow]
      simp only [causeChanged_stays (s := t) hk, put_marks _ hsensor]
      rfl
  · subst hc
    obtain ⟨x, rfl, -, hexec⟩ := sensed ht
    let t : State := { s with inputs := { s.inputs with headTemp := x } }
    have gone {u : State} (hu : causeGone k t = u) : exec i s = .next (endEvent u) := by rw [hexec, ← hu]; rfl
    refine ⟨fun h => gone (if_pos h), fun hheld hk => gone ?_, fun hheld hk hjobs hj => ⟨fun hmore => gone ?_,
      fun going hlast hgoing => ?_⟩⟩
    · exact causeGone_quietly (s := t) hheld hk
    · rw [causeGone_paused (s := t) hheld hk hjobs hj hmore, causeChanged_stays (s := t) hk]
      rfl
    · obtain rfl : resumed k j rest t = going := by
        rw [hgoing, resumed, show t.engine.condition = .paused from hk]
        rfl
      have onward (hkept : ∀ l, e.line = some l → e.row = none → l.interrupted = false) :
          causeGone k t = proceed (resumed k j rest t) := causeGone_onward (s := t) hheld hk hjobs hlast hkept
      refine ⟨fun hbusy hkept => gone ((onward hkept).trans (proceed_busy hbusy)),
        fun l r hrow hcut ha hq hd hline hhead hmotor hcutter => ?_⟩
      have kept (hl : l.interrupted = false) (x : LineProgress) (hx : e.line = some x) (_ : e.row = none) :
          x.interrupted = false := by
        cases hx.symm.trans hline
        exact hl
      refine ⟨fun hmarked hr hrows => ?_, fun hl hone hrows => ?_, fun hl hzero hrows => ?_,
        fun hl hrecord hrows => ?_⟩
      · have hgiven : givenLine t { j with state := .printing, reasons := Causes.none } = some (s.firstRow r) := by
          rw [givenLine, show jobLine t _ = some r from hr]
          rfl
        have hagain := causeGone_again (s := t) hheld hk hjobs hlast hline hmarked hrow
        rw [hgiven] at hagain
        let again : State := { resumed k j rest t with
          engine := { (resumed k j rest t).engine with line := some (s.firstRow r) } }
        obtain ⟨u, hu, hbegun⟩ := proceed_nextRow (s := again) hq hd rfl ha hrow hcut rfl (if_pos rfl) rfl hrows
        exact ⟨u, gone (hagain.trans hu), hbegun⟩
      · obtain ⟨u, hu, hbegun⟩ := proceed_nextRow (s := resumed k j rest t) hq hd rfl ha hrow hcut hline
          (if_neg (by omega)) rfl hrows
        exact ⟨u, gone ((onward (kept hl)).trans hu), hbegun⟩
      · obtain ⟨u, hu, hbegun⟩ := proceed_nextRow (s := resumed k j rest t) hq hd rfl ha hrow hcut hline
          (if_pos hzero) hzero hrows
        exact ⟨u, gone ((onward (kept hl)).trans hu), hbegun⟩
      · have hcuts : causeGone k t = requestCut (resumed k j rest t) :=
          (onward (kept hl)).trans (proceed_cuts hline rfl ha hrow hcut hrecord hrows)
        have hfreed : (resumed k j rest t).supply.free = s.supply.budget - s.supply.granted.drawer := by
          change s.supply.budget - s.supply.granted.total = _
          simp [Grants.total, hcutter, hmotor, hhead]
        refine ⟨fun hfree => gone (hcuts.trans ?_), fun hfree => gone (hcuts.trans ?_)⟩
        · exact requestCut_fromNone (s := resumed k j rest t) hq hd hcutter (hfreed ▸ hfree)
        · exact requestCut_waits hq hd (hfreed ▸ hfree)
  · unfold headReads
    rw [if_neg (by omega), if_neg (by omega)]

end Sys2Proof.Machine
end

section
namespace Sys2Proof.Machine

/-! ### A refusal leaves the state and carries no field (R190, R192) -/

/-- The outcomes of a handler: a refusal, which leaves the state, or an OK, an ADJUSTED or a deferred reply, which may
change it. -/
inductive Outcomes (s : State) : State × Answer → Prop
  | refused (st : Status) : Outcomes s (s, .reply st .empty)
  | taken (t : State) (st : Status) (f : ReplyFields) : st = .ok ∨ st = .adjusted → Outcomes s (t, .reply st f)
  | deferred (t : State) : Outcomes s (t, .deferred)

namespace Outcomes

variable {s : State}

theorem refuse (st : Status) : Outcomes s (refuse st s) := .refused st
theorem answer (f : ReplyFields) (t : State) : Outcomes s (answer f t) := .taken t .ok f (.inl rfl)

/-- A reply with a status other than OK and ADJUSTED is a refusal. -/
theorem unchanged {t : State} {st : Status} {f : ReplyFields} (h : Outcomes s (t, .reply st f)) (hok : st ≠ .ok)
    (hadj : st ≠ .adjusted) : t = s ∧ f = .empty := by
  cases h with
  | refused => exact ⟨rfl, rfl⟩
  | taken _ _ _ hst => exact absurd hst (not_or.2 ⟨hok, hadj⟩)

/-- A calibration step waits for its store write (R18, R191). -/
theorem calibrationStep (ch : ChannelId) (b : Bool) (r : CalRecord) : Outcomes s (calibrationStep ch b r s) :=
  .deferred _

theorem calZeroRequest (n : Byte) : Outcomes s (calZeroRequest n s) := by
  unfold Machine.calZeroRequest calZeroOn
  repeat' split
  all_goals first | exact refuse _ | exact calibrationStep ..

theorem calSpanRequest (n : Byte) (load : Wide) : Outcomes s (calSpanRequest n load s) := by
  unfold Machine.calSpanRequest calSpanOn
  dsimp only
  repeat' split
  all_goals first | exact refuse _ | exact calibrationStep ..

theorem setProfileRequest (n : Byte) : Outcomes s (setProfileRequest n s) := by
  unfold Machine.setProfileRequest
  repeat' split
  all_goals first | exact refuse _ | exact calibrationStep ..

/-- A SET that is taken is answered OK or ADJUSTED (R198). -/
theorem setAnswer (id : Nat) (v : SettingValue) (same : Bool) : Outcomes s (setAnswer id v same s) :=
  .taken _ _ _ (by cases same <;> simp)

theorem setRequest (id : Byte) (v : SettingArg) : Outcomes s (setRequest id v s) := by
  unfold Machine.setRequest
  repeat' split
  all_goals first | exact refuse _ | exact setAnswer ..

/-- Every handler refuses, answers or defers. -/
theorem request (r : Request) (s : State) : Outcomes s (handleRequest r s) := by
  cases r with
  | calZero n => exact calZeroRequest n
  | calSpan n load => exact calSpanRequest n load
  | setProfile n => exact setProfileRequest n
  | set n v => exact setRequest n v
  | saveSettings => exact .deferred _
  | readSale | readCard | readDrawer | readSupply | readPrintQueue | readPrinter | printerClear | restart | identify =>
    exact answer ..
  | _ =>
    simp only [handleRequest, readWeightRequest, zeroRequest, zeroOn, setTareRequest, takeTareRequest,
      clearTareRequest, weighItemRequest, cancelWeighRequest, openSaleRequest, addItemRequest, voidEntryRequest,
      beginTenderRequest, resumeSaleRequest, addCashRequest, addCardTenderRequest, cardDecisionRequest,
      closeSaleRequest, abandonSaleRequest, reprintRequest, readEntryRequest, readTenderRequest,
      clearExceptionRequest, waiveBaggingRequest, bagResyncRequest, readBaggingRequest, releaseCardRequest,
      discardCardRequest, noSaleRequest, drawerResetRequest, beepRequest, printTextRequest, getRequest]
    repeat' split
    all_goals first | exact refuse _ | exact answer ..

end Outcomes

/-- Settles O18: each handler refuses, answers OK or ADJUSTED, or defers its reply. -/
theorem refusalChangesNothing : Obligations.RefusalChangesNothing := by
  intro r s t st f h hok hadj
  exact (h ▸ Outcomes.request r s).unchanged hok hadj

end Sys2Proof.Machine
end

section
namespace Sys2Proof.Machine

/-! ### Fields written and read again (R184) -/

theorem byteOf_toNat {n : Nat} (h : n ≤ 255) : (byteOf n).toNat = n := by
  simp [byteOf, Nat.mod_eq_of_lt (show n < 256 by omega)]

theorem readHalf_halfBytes (w : Half) (rest : List Byte) : readHalf (halfBytes w ++ rest) = some (w, rest) := by
  have h : w.extractLsb' 8 8 ++ w.extractLsb' 0 8 = w :=
    (BitVec.extractLsb'_append_extractLsb'_eq_extractLsb' rfl).trans BitVec.extractLsb'_eq_self
  simp [readHalf, halfBytes, h]

theorem readWide_wideBytes (w : Wide) (rest : List Byte) : readWide (wideBytes w ++ rest) = some (w, rest) := by
  have h : w.extractLsb' 24 8 ++ w.extractLsb' 16 8 ++ w.extractLsb' 8 8 ++ w.extractLsb' 0 8 = w := by
    rw [BitVec.extractLsb'_append_extractLsb'_eq_extractLsb' (show 24 = 16 + 8 from rfl),
      BitVec.extractLsb'_append_extractLsb'_eq_extractLsb' (show 16 = 8 + 8 from rfl),
      BitVec.extractLsb'_append_extractLsb'_eq_extractLsb' (show 8 = 0 + 8 from rfl), BitVec.extractLsb'_eq_self]
  simp [readWide, wideBytes, h]

theorem readBytes_append (xs rest : List Byte) : readBytes xs.length (xs ++ rest) = some (xs, rest) := by
  induction xs with
  | nil => rfl
  | cons b xs ih => simp [readBytes, ih]

theorem readText_textBytes {xs : List Byte} (h : xs.length ≤ 255) (rest : List Byte) :
    readText (textBytes xs ++ rest) = some (xs, rest) := by
  simp [readText, textBytes, byteOf_toNat h, readBytes_append]

theorem readOpt_optBytes {α : Type} {put : α → List Byte} {take : List Byte → Option (α × List Byte)}
    (h : ∀ x rest, take (put x ++ rest) = some (x, rest)) (o : Option α) (rest : List Byte) :
    readOpt take (optBytes put o ++ rest) = some (o, rest) := by
  cases o <;> simp [readOpt, optBytes, h]

theorem readLine_lineArgBytes {x : LineArg} (h : x.wellFormed = true) (rest : List Byte) :
    readLine (lineArgBytes x ++ rest) = some (x, rest) := by
  cases x with
  | text chars w hh b a =>
    have hlen : chars.length ≤ 255 := by simpa [LineArg.wellFormed] using h
    simp [readLine, lineArgBytes, readText_textBytes hlen]
  | feed rows | cut => rfl
  | unknown kind =>
    have hk : 3 ≤ kind.toNat := by simpa [LineArg.wellFormed] using h
    have hne : kind ≠ 0#8 ∧ kind ≠ 1#8 ∧ kind ≠ 2#8 := by refine ⟨?_, ?_, ?_⟩ <;> rintro rfl <;> simp at hk
    simp [readLine, lineArgBytes, hne]

theorem readLines_joinBytes {xs : List LineArg} (h : ∀ x ∈ xs, x.wellFormed = true) (rest : List Byte) :
    readLines xs.length (joinBytes lineArgBytes xs ++ rest) = some (xs, rest) := by
  induction xs with
  | nil => rfl
  | cons x xs ih =>
    rw [List.forall_mem_cons] at h
    simp [readLines, joinBytes, readLine_lineArgBytes h.1, ih h.2]

/-! ### The body of each request is read back (R190) -/

theorem parseByte_byte (f : Byte → Request) (n : Byte) : parseByte f [n] = .request (f n) := rfl

theorem parseWide_wideBytes (f : Wide → Request) (w : Wide) : parseWide f (wideBytes w) = .request (f w) := by
  have h := readWide_wideBytes w []
  rw [List.append_nil] at h
  rw [parseWide, h, whole]

theorem parseCalSpan_body (n : Byte) (w : Wide) : parseCalSpan (n :: wideBytes w) = .request (.calSpan n w) :=
  parseWide_wideBytes (.calSpan n) w

theorem parseWeighItem_body {d : List Byte} (h : d.length ≤ 255) (u : Wide) (t : Option Wide) :
    parseWeighItem (textBytes d ++ wideBytes u ++ optBytes wideBytes t) = .request (.weighItem d u t) := by
  have ht := readOpt_optBytes readWide_wideBytes t []
  rw [List.append_nil] at ht
  simp [parseWeighItem, readText_textBytes h, readWide_wideBytes, ht, whole]

theorem parseAddItem_body {d : List Byte} (h : d.length ≤ 255) (a : Wide) (e t : Option Half) :
    parseAddItem (textBytes d ++ wideBytes a ++ optBytes halfBytes e ++ optBytes halfBytes t) =
      .request (.addItem d a e t) := by
  have ht := readOpt_optBytes readHalf_halfBytes t []
  rw [List.append_nil] at ht
  simp [parseAddItem, readText_textBytes h, readWide_wideBytes, readOpt_optBytes readHalf_halfBytes, ht, whole]

theorem parseBeep_body (f t : Half) (n : Byte) :
    parseBeep (halfBytes f ++ halfBytes t ++ [n]) = .request (.beep f t n) := by
  simp [parseBeep, readHalf_halfBytes, readByte, whole]

theorem parsePrintText_body {lines : List LineArg} (h : lines.length ≤ 255)
    (hl : ∀ x ∈ lines, x.wellFormed = true) :
    parsePrintText (listBytes lineArgBytes lines) = .request (.printText lines) := by
  have hr := readLines_joinBytes hl []
  rw [List.append_nil] at hr
  simp [parsePrintText, listBytes, readByte, byteOf_toNat h, hr, whole]

/-- SET carries the form that its id asks for (R197). -/
theorem parseSet_body {id : Byte} {v : SettingArg} (h : settingFormFits id v = true) :
    parseSet (id :: settingArgBytes v) = .request (.set id v) := by
  cases v with
  | number w =>
    have hid : isTextSetting id.toNat = false := by simpa [settingFormFits] using h
    have hr := readWide_wideBytes w []
    rw [List.append_nil] at hr
    simp [parseSet, readByte, settingArgBytes, hid, hr, whole]
  | text chars =>
    have ⟨hid, hlen⟩ : isTextSetting id.toNat = true ∧ chars.length ≤ 255 := by simpa [settingFormFits] using h
    have hr := readText_textBytes hlen []
    rw [List.append_nil] at hr
    simp [parseSet, readByte, settingArgBytes, hid, hr, whole]

/-- Settles O21: the KIND names the reader of its own body, and each reader gives back the fields written. -/
theorem requestFrameRoundTrip : Obligations.RequestFrameRoundTrip := by
  intro r hr
  have hfit : r.fieldsFit = true := (Bool.and_eq_true_iff.1 hr).1
  cases r with
  | calSpan n w => exact parseCalSpan_body n w
  | weighItem d u t => exact parseWeighItem_body (of_decide_eq_true hfit) u t
  | addItem d a e t => exact parseAddItem_body (of_decide_eq_true hfit) a e t
  | beep f t n => exact parseBeep_body f t n
  | printText lines =>
    have ⟨hlen, hlines⟩ : lines.length ≤ 255 ∧ ∀ x ∈ lines, x.wellFormed = true := by
      simpa [Request.fieldsFit] using hfit
    exact parsePrintText_body hlen hlines
  | set id v => exact parseSet_body hfit
  | setTare w | openSale w | addCash w | addCardTender w => exact parseWide_wideBytes _ w
  | _ => rfl

end Sys2Proof.Machine
end

section
namespace Sys2Proof.Machine

/-! ### Frames offered to the link (R189 to R191) -/

section
variable {s : State}

theorem endEvent_quiet (hq : s.link.choose = s.link) : endEvent s = s := by
  rw [endEvent, hq]

theorem endEvent_setSlots (hq : s.link.choose = s.link) (fs : List Frame) :
    endEvent (setSlots fs s) = setSlots fs s :=
  endEvent_quiet (by rw [setSlots_link, choose_slots, hq])

theorem endEvent_keepReceiving (hq : s.link.choose = s.link) (x : Receiver) :
    endEvent (keepReceiving x s) = keepReceiving x s :=
  endEvent_quiet ((choose_receiver x (some 20) s.link).trans (by rw [hq]; rfl))

theorem huntAgain_quiet (hq : s.link.choose = s.link) : (huntAgain s).link.choose = (huntAgain s).link :=
  (choose_receiver Receiver.hunting none s.link).trans (by rw [hq]; rfl)

/-- A reply formed in an event is the transmitter's next frame (R190, R194). -/
theorem endEvent_formReply {kind tag : Byte} {st : Status} {f : ReplyFields} (hl : s.link.lineChangeDue = false)
    (hr : s.link.restart ≠ .due) :
    endEvent (formReply kind tag st f s) = { s with link := { s.link with
      reply := some { kind := replyKind kind, tag := tag, status := st, fields := f }
      transmitter := s.link.transmitter.withReply } } :=
  congrArg (fun l => { s with link := l }) (choose_withReply (formReply kind tag st f s).link _ rfl hl hr)

theorem dispatchNext_closed (h : s.link.dispatchOpen = false) : dispatchNext s = s := by
  simp [dispatchNext, h]

/-- While dispatch is closed a frame waits in a slot, or is lost when both are taken (R189, R190). -/
theorem frameArrives_waits (f : Frame) (h : s.link.dispatchOpen = false) (hs : s.link.slots.length < 2) :
    frameArrives f s = setSlots (s.link.slots ++ [f]) s := by
  rw [frameArrives, offerFrame, if_pos hs]
  exact dispatchNext_closed h

theorem frameArrives_lost (f : Frame) (h : s.link.dispatchOpen = false) (hs : s.link.slots.length = 2) :
    frameArrives f s = report (.linkError .rxOverrun (some f.kind) (some f.tag)) s := by
  rw [frameArrives, offerFrame, if_neg (by omega)]
  exact dispatchNext_closed (by simpa [Link.dispatchOpen] using h)

end

/-- A request command at the calibration level held is the arrival of its request (log 1, log 6). -/
theorem exec_request_at_level {i : Instr} {tag : Byte} {r : Request} {s : State} (h : i.request? = some (tag, r))
    (hcal : ∀ e ∈ i.calLevel?, e = s.inputs.calEnable) : exec i s = .next (asRequest tag r s) := by
  cases i with
  | calZero e _ _ | calSpan e _ _ _ | setProfile e _ _ =>
    cases h
    obtain rfl := hcal e rfl
    rfl
  | _ => cases h <;> rfl

/-- Settles O23: dispatch is closed, so the request's frame is offered to the two slots. -/
theorem requestWaitsOrIsLost : Obligations.RequestWaitsOrIsLost := by
  intro i tag r s hr hp ho hq hcal
  have arrives : exec i s = .next (endEvent (frameArrives (requestFrame tag r) s)) := by
    rw [exec_request_at_level hr hcal, asRequest, asEvent_powered hp, requestArrives, if_neg (by simp [ho])]
  refine ⟨fun hs => ?_, fun hs => ?_⟩ <;> rw [arrives]
  · rw [frameArrives_waits _ ho hs, endEvent_setSlots hq]
    rfl
  · rw [frameArrives_lost _ ho hs]
    rfl

/-! ### Frames that name no request, or do not fit one (R190) -/

/-- Only a KIND that names a request can have a body of the wrong length (R190). -/
theorem kind_of_badLength {kind : Byte} {body : List Byte} (h : parseRequest kind body = .badLength) :
    1 ≤ kind.toNat ∧ kind.toNat ≤ 0x3F := by
  by_contra hk
  have hout : kind.toNat = 0 ∨ 0x3F < kind.toNat := by omega
  unfold parseRequest at h
  split at h
  case h_46 => cases h -- the arm that names no request
  all_goals omega

/-- Settles O24: the frame is dispatched at once and refused, and the reply's KIND follows the frame's. -/
theorem unknownAndMisfitFramesAnswered : Obligations.UnknownAndMisfitFramesAnswered := by
  intro s kind tag body ha
  obtain ⟨-, -, hr, hl⟩ := (dispatchOpen_iff _).1 ha.2.1
  have refused {st : Status} (h : handleFrame ⟨kind, tag, body⟩ s = refuse st s) :
      exec (.unknownRequest kind tag body) s = .next { s with link := { s.link with
        reply := some { kind := replyKind kind, tag := tag, status := st, fields := .empty }
        transmitter := s.link.transmitter.withReply } } := by
    refine congrArg _ ((asEvent_powered ha.1).trans ?_)
    rw [frameArrives_accepts _ ha, takeFrame, h]
    exact endEvent_formReply hl (by simp [hr])
  refine ⟨fun h => refused (by rw [handleFrame, h]), fun h => ?_⟩
  rw [refused (st := .badLength) (by rw [handleFrame, h]), replyKind, if_pos (kind_of_badLength h)]
  rfl

end Sys2Proof.Machine
end

section
namespace Sys2Proof.Machine

/-! ### A store write ends, a line change is made, the store's requests (R191, R195, R200, R202, R203) -/

/-- Settles O27: the write's target decides which copy is stored; the deferred reply is the same for each. -/
theorem writeEndAnswersDeferred : Obligations.WriteEndAnswersDeferred := by
  intro s kind tag hp hd hr hl hrestart hlow hhigh answered
  have ends {st : Store} (h : s.store.writeDone = st) :
      exec .writeEnd s = .next { s with store := st, link := answered } := by
    refine congrArg _ ((asEvent_powered hp).trans ?_)
    rw [writeEnds, hd, h]
    refine (endEvent_formReply (s := { s with store := st, link := { s.link with dispatch := .free } }) hl
      (by simp [hrestart])).trans ?_
    rw [replyKind, if_pos ⟨hlow, hhigh⟩]
    rfl
  exact ⟨fun v hw => ends (by rw [Store.writeDone, hw]), fun r hw => ends (by rw [Store.writeDone, hw]),
    fun r hw => ends (by rw [Store.writeDone, hw])⟩

/-- Settles O29: the pending settings come into force; a frame partly received ends with RATE_CHANGE. -/
theorem lineChangesAfterReply : Obligations.LineChangesAfterReply := by
  intro s l hp hdue hline hs _ changed
  have hchanged : s.link.lineChanged = changed := by rw [Link.lineChanged, hline]; rfl
  have changes : exec .lineSettingsChange s =
      .next (endEvent (endFrameInside .rateChange { s with link := changed })) := by
    refine congrArg _ ((asEvent_powered hp).trans ?_)
    rw [lineChanges, if_pos hdue, hchanged, dispatchNext_empty]
    unfold endFrameInside endFrame huntAgain
    split <;> simpa [changed] using hs
  refine ⟨fun hhunt => ?_, fun hin => ?_⟩ <;> rw [changes, endFrameInside]
  · rw [if_pos (show changed.receiver.phase = .hunt from hhunt)]
    rfl
  · rw [if_neg (show changed.receiver.phase ≠ .hunt from hin), endFrame_eq]

theorem revisionLetter_range : 0x41 ≤ revisionLetter.toNat ∧ revisionLetter.toNat ≤ 0x5A := by
  have h : Config.revisionIndex.val < 26 := Config.revisionIndex.isLt
  rw [revisionLetter, byteOf_toNat (by omega)]
  omega

/-- Settles O31: SAVE_SETTINGS defers its reply, RESTART and IDENTIFY are answered at once. -/
theorem storeRequests : Obligations.StoreRequests := by
  intro s tag ha
  obtain ⟨-, -, -, hl⟩ := (dispatchOpen_iff _).1 ha.2.1
  have restarts := asRequest_answered (tag := tag) (r := .restart) ha rfl hl (by simp)
  refine ⟨congrArg _ (asRequest_deferred (r := .saveSettings) ha rfl),
    ⟨_, congrArg Host.Outcome.next restarts, rfl, ?_⟩, exec_granted ha rfl rfl rfl, revisionLetter_range⟩
  simp [Link.dispatchOpen, Link.answered]

end Sys2Proof.Machine
end

section
namespace Sys2Proof.Machine

/-! ### The places of a frame (R185) -/

section
variable {s : State} (b : Byte)

theorem byteArrives_hunt (h : s.link.receiver.phase = .hunt) :
    byteArrives b s = if b = 0xA5 then keepReceiving { Receiver.hunting with phase := .len } s else s := by
  simp [byteArrives, h]

theorem byteArrives_len (h : s.link.receiver.phase = .len) :
    byteArrives b s =
      if 2 ≤ b.toNat ∧ b.toNat ≤ 250 then
        keepReceiving { s.link.receiver with phase := .kind, len := b.toNat, check := s.link.receiver.check ^^^ b } s
      else endFrame .lenRange s := by
  simp [byteArrives, h]

theorem byteArrives_kind (h : s.link.receiver.phase = .kind) :
    byteArrives b s =
      keepReceiving { s.link.receiver with phase := .tag, kind := some b, check := s.link.receiver.check ^^^ b } s := by
  simp [byteArrives, h]

theorem byteArrives_tag (h : s.link.receiver.phase = .tag) :
    byteArrives b s =
      keepReceiving { s.link.receiver with
        phase := if s.link.receiver.len = 2 then .chk else .body
        tag := some b
        check := s.link.receiver.check ^^^ b } s := by
  simp [byteArrives, h]

theorem byteArrives_body (h : s.link.receiver.phase = .body) :
    byteArrives b s =
      keepReceiving { s.link.receiver with
        phase := if s.link.receiver.body.length + 1 = s.link.receiver.len - 2 then .chk else .body
        body := s.link.receiver.body ++ [b]
        check := s.link.receiver.check ^^^ b } s := by
  simp [byteArrives, h]

theorem byteArrives_chk (h : s.link.receiver.phase = .chk) :
    byteArrives b s = keepReceiving { s.link.receiver with phase := .eof, chk := b } s := by
  simp [byteArrives, h]

theorem byteArrives_eof (h : s.link.receiver.phase = .eof) : byteArrives b s = eofPlace b s := by
  simp [byteArrives, h]

end

/-- In the EOF place 0x5A ends a frame whose check agrees (R185). -/
theorem eofPlace_ends {s : State} {kind tag : Byte} (hc : s.link.receiver.chk = s.link.receiver.check)
    (hk : s.link.receiver.kind = some kind) (ht : s.link.receiver.tag = some tag) :
    eofPlace 0x5A s = frameArrives ⟨kind, tag, s.link.receiver.body⟩ (huntAgain s) := by
  simp [eofPlace, hc, hk, ht]

/-! ### The characters of a frame (R182 to R188) -/

/-- A bit of a clean character has three samples of the level that it is judged as (R183). -/
theorem sample_of_clean {x : Sample} {level : Bool} (h : noisy x = false) (hm : majority x = level) :
    x = ⟨level, level, level⟩ := hm ▸ (noisy_iff x).1 h

/-- What a character judged good has shown: three agreeing samples of each bit that counts, a high stop bit, and a
parity bit that agrees with its byte (R183). -/
theorem samples_of_good {p : Parity} {c : LineChar} {b : Byte} (h : judgeChar p c = .ok b) :
    (∀ i : Fin 8, c.data[i] = ⟨b.getLsbD i, b.getLsbD i, b.getLsbD i⟩) ∧ c.stop = ⟨true, true, true⟩ ∧
      (p = .even → c.parity = ⟨oddOnes b, oddOnes b, oddOnes b⟩) ∧
      (p = .odd → c.parity = ⟨!oddOnes b, !oddOnes b, !oddOnes b⟩) := by
  unfold judgeChar at h
  split_ifs at h with hnoise hframing hparity
  obtain rfl : charData c = b := by simpa using h
  simp only [Bool.or_eq_true, Bool.and_eq_true, not_or, not_and, Bool.not_eq_true] at hnoise
  obtain ⟨⟨⟨-, hstop⟩, hdata⟩, hpar⟩ := hnoise
  have hagrees : parityAgrees p c = true := by simpa using hparity
  refine ⟨fun i => sample_of_clean ?_ ?_, sample_of_clean hstop (by simpa using hframing), ?_, ?_⟩
  · simpa using List.any_eq_false.1 hdata c.data[i] (by simp)
  · simp [charData]
  · rintro rfl
    exact sample_of_clean (hpar rfl) (by simpa [parityAgrees] using hagrees)
  · rintro rfl
    exact sample_of_clean (hpar rfl) (by simpa [parityAgrees] using hagrees)

theorem exec_goodCharacter {s : State} {c : LineChar} {b : Byte} (hp : s.powered = true)
    (hj : judgeChar s.link.line.parity c = .ok b) :
    exec (.characterReceived c) s = .next (endEvent (byteArrives b s)) := by
  refine congrArg _ ((asEvent_powered hp).trans ?_)
  rw [charArrives, hj]

/-- Settles O25: a sent character is received as its byte, and a good byte is taken in the place the receiver has
reached. -/
theorem goodCharacterIsTaken : Obligations.GoodCharacterIsTaken := by
  refine ⟨fun p y bits hbits => ?_, ?_⟩
  · obtain rfl := hbits.trans (sentCharacter_eq p y).symm
    exact ⟨rfl, judgeChar_sent p y⟩
  intro s c b hp hq hj x becomes ended
  have good := exec_goodCharacter hp hj
  have taken {y : Receiver} (h : byteArrives b s = keepReceiving y s) : becomes y := by
    change exec _ s = _
    rw [good, h, endEvent_keepReceiving hq]
    rfl
  refine ⟨samples_of_good hj, fun h hb => taken ?_, fun h hb => ?_, fun h h2 h250 => taken ?_,
    fun h => taken (byteArrives_kind b h), fun h hlen => taken ?_, fun h hlen => taken ?_, fun h hlen => taken ?_,
    fun h hlen => taken ?_, fun h => taken (byteArrives_chk b h), ?_⟩
  · rw [byteArrives_hunt b h, if_pos hb]
    rfl
  · rw [good, byteArrives_hunt b h, if_neg hb, endEvent_quiet hq]
  · rw [byteArrives_len b h, if_pos ⟨h2, h250⟩]
  · rw [byteArrives_tag b h, if_neg hlen]
  · rw [byteArrives_tag b h, if_pos hlen]
  · rw [byteArrives_body b h, if_neg hlen, h]
  · rw [byteArrives_body b h, if_pos hlen]
  · rintro kind tag f h hchk rfl hkind htag rfl
    rw [byteArrives_eof _ h, eofPlace_ends hchk hkind htag] at good
    refine ⟨fun ho hs => ?_, fun ho hs => ?_, fun ho hs => ?_⟩ <;> rw [good]
    · rw [frameArrives_open _ (huntAgain s) ho hs]
      rfl
    · rw [frameArrives_waits (s := huntAgain s) _ ho hs, endEvent_setSlots (huntAgain_quiet hq)]
      rfl
    · rw [frameArrives_lost (s := huntAgain s) _ ho hs]
      rfl

/-- Settles O26: each way to end a frame in error is one LINK_ERROR with the KIND and TAG received; HUNT drops the
rest. -/
theorem frameEndsInError : Obligations.FrameEndsInError := by
  intro s c e b hp hq x ended
  have inside {why : LinkErrorReason} (h : x.phase ≠ .hunt) :
      (.next (endEvent (endFrameInside why s)) : Host.Outcome State Fault Refusal) = .next (ended why) := by
    rw [endFrameInside, if_neg h, endFrame_eq]
  have hunting {why : LinkErrorReason} (h : x.phase = .hunt) :
      (.next (endEvent (endFrameInside why s)) : Host.Outcome State Fault Refusal) = .next s := by
    rw [endFrameInside, if_pos h, endEvent_quiet hq]
  have event (f : State → State) : (.next (asEvent f s) : Host.Outcome State Fault Refusal) = .next (endEvent (f s)) :=
    congrArg _ (asEvent_powered hp)
  refine ⟨fun h => ⟨(event _).trans (inside h), (event _).trans (inside h)⟩,
    fun h => ⟨(event _).trans (hunting h), (event _).trans (hunting h)⟩, fun hj => ?_, fun hj => ?_⟩
  · have faulty : exec (.characterReceived c) s = .next (endEvent (endFrameInside e s)) := by
      refine (event _).trans ?_
      rw [charArrives, hj]
    exact ⟨fun h => faulty.trans (inside h), fun h => faulty.trans (hunting h)⟩
  · have ends {why : LinkErrorReason} (h : byteArrives b s = endFrame why s) :
        exec (.characterReceived c) s = .next (ended why) := by
      rw [exec_goodCharacter hp hj, h, endFrame_eq]
    refine ⟨fun h hlen => ends ?_, fun h hchk => ends ?_, fun h hchk hb => ends ?_⟩
    · rw [byteArrives_len b h, if_neg (by omega)]
    · rw [byteArrives_eof b h, eofPlace]
      exact if_pos hchk
    · rw [byteArrives_eof b h, eofPlace]
      exact (if_neg (not_not.2 hchk)).trans (if_pos hb)

end Sys2Proof.Machine
end

section
namespace Sys2Proof.Machine

/-! ### The bytes of a request frame, one after another (R184, R185; log 29) -/

section
variable {s : State}

@[simp] theorem keepReceiving_receiver (x : Receiver) : (keepReceiving x s).link.receiver = x := rfl

/-- A byte that the receiver goes on with is an event that leaves the receiver there. -/
theorem bytesArrive_goesOn (hq : s.link.choose = s.link) {b : Byte} {x y : Receiver}
    (h : byteArrives b (keepReceiving x s) = keepReceiving y (keepReceiving x s)) (bs : List Byte) :
    bytesArrive (b :: bs) (keepReceiving x s) = bytesArrive bs (keepReceiving y s) := by
  rw [bytesArrive, h]
  exact congrArg _ (endEvent_keepReceiving hq y)

/-- The bytes of a body up to its last are gathered, with the running check. -/
theorem bytesArrive_body (hq : s.link.choose = s.link) (rest ys : List Byte) :
    ∀ x : Receiver, x.phase = .body → ys ≠ [] → x.body.length + ys.length = x.len - 2 →
      bytesArrive (ys ++ rest) (keepReceiving x s) =
        bytesArrive rest (keepReceiving
          { x with phase := .chk, body := x.body ++ ys, check := x.check ^^^ xorBytes ys } s) := by
  induction ys with
  | nil => exact fun _ _ h => absurd rfl h
  | cons b ys ih =>
    intro x hx _ hlen
    rw [List.length_cons] at hlen
    rw [List.cons_append, bytesArrive_goesOn hq (byteArrives_body (s := keepReceiving x s) b hx)]
    change bytesArrive _ (keepReceiving { x with
      phase := if x.body.length + 1 = x.len - 2 then .chk else .body
      body := x.body ++ [b]
      check := x.check ^^^ b } s) = _
    cases ys with
    | nil => simp [xorBytes, show x.body.length + 1 = x.len - 2 from hlen]
    | cons c ys =>
      rw [List.length_cons] at hlen
      rw [if_neg (by omega), ih _ rfl (by simp) (by simp; omega)]
      simp [xorBytes, BitVec.xor_assoc]

/-- The receiver in the CHK place of a frame, with the check of its bytes run (R185). -/
def Receiver.gathered (kind tag : Byte) (body : List Byte) : Receiver where
  phase := .chk
  len   := body.length + 2
  kind  := some kind
  tag   := some tag
  body  := body
  check := xorBytes (byteOf (body.length + 2) :: kind :: tag :: body)
  chk   := 0

/-- From HUNT the bytes up to TAG leave the receiver before BODY, or before CHK when there is no BODY (R185). -/
theorem bytesArrive_header (hq : s.link.choose = s.link) (hh : s.link.receiver.phase = .hunt) (n kind tag : Byte)
    (hn : 2 ≤ n.toNat ∧ n.toNat ≤ 250) (rest : List Byte) :
    bytesArrive (0xA5 :: n :: kind :: tag :: rest) s =
      bytesArrive rest (keepReceiving
        { phase := if n.toNat = 2 then .chk else .body, len := n.toNat, kind := some kind, tag := some tag, body := []
          check := n ^^^ kind ^^^ tag, chk := 0 } s) := by
  rw [bytesArrive, byteArrives_hunt _ hh, if_pos rfl, endEvent_keepReceiving hq,
    bytesArrive_goesOn hq ((byteArrives_len (s := keepReceiving _ s) _ rfl).trans (if_pos hn)),
    bytesArrive_goesOn hq (byteArrives_kind (s := keepReceiving _ s) _ rfl),
    bytesArrive_goesOn hq (byteArrives_tag (s := keepReceiving _ s) _ rfl)]
  simp [Receiver.hunting]

/-- From HUNT the bytes of a frame up to CHK are gathered (R185). -/
theorem bytesArrive_toChk (hq : s.link.choose = s.link) (hh : s.link.receiver.phase = .hunt) (kind tag : Byte)
    {body : List Byte} (hlen : body.length ≤ 248) (rest : List Byte) :
    bytesArrive (0xA5 :: byteOf (body.length + 2) :: kind :: tag :: (body ++ rest)) s =
      bytesArrive rest (keepReceiving (Receiver.gathered kind tag body) s) := by
  have hn : (byteOf (body.length + 2)).toNat = body.length + 2 := byteOf_toNat (by omega)
  rw [bytesArrive_header hq hh _ kind tag (by omega), hn]
  cases body with
  | nil => simp [Receiver.gathered, xorBytes, BitVec.xor_assoc]
  | cons c body =>
    rw [if_neg (by simp), bytesArrive_body hq rest (c :: body) _ rfl (by simp) (by simp)]
    simp [Receiver.gathered, xorBytes, BitVec.xor_assoc]

/-- A whole frame received in HUNT is the arrival of its frame (R185, R189). -/
theorem bytesArrive_frame (hq : s.link.choose = s.link) (hx : s.link.receiver = Receiver.hunting)
    (hg : s.link.gapTimer = none) {f : Frame} (hlen : f.body.length ≤ 248) :
    bytesArrive f.bytes s = endEvent (frameArrives f s) := by
  have hgone (x : Receiver) : huntAgain (keepReceiving x s) = s := by
    rw [huntAgain, ← hx, ← hg]
    rfl
  have hbytes : f.bytes = 0xA5 :: byteOf (f.body.length + 2) :: f.kind :: f.tag ::
      (f.body ++ [xorBytes (byteOf (f.body.length + 2) :: f.kind :: f.tag :: f.body), 0x5A]) := by
    simp [Frame.bytes, frameBytes]
  rw [hbytes, bytesArrive_toChk hq (by rw [hx]; rfl) f.kind f.tag hlen,
    bytesArrive_goesOn hq (byteArrives_chk (s := keepReceiving _ s) _ rfl), bytesArrive,
    byteArrives_eof (s := keepReceiving _ s) _ rfl, eofPlace_ends (s := keepReceiving _ s) rfl rfl rfl, hgone]
  rfl

end

/-- Settles O22: the bytes gather the frame of the request, which is dispatched as it is checked and read back. -/
theorem receivedFrameIsTheRequest : Obligations.ReceivedFrameIsTheRequest := by
  intro i tag r s hr hwell ha hx hg hq hcal
  refine ⟨?_, exec_request_at_level hr hcal⟩
  have hlen : (requestFrame tag r).body.length ≤ 248 := of_decide_eq_true (Bool.and_eq_true_iff.1 hwell).2
  have htaken : takeFrame (requestFrame tag r) s = takeRequest tag r s := by
    rw [takeFrame, handleFrame, requestFrame, requestFrameRoundTrip r hwell, takeRequest]
  have harrives : requestArrives tag r s = takeRequest tag r s := if_pos ⟨ha.2.1, ha.2.2⟩
  have hbytes : bytesArrive (requestFrame tag r).bytes s = asRequest tag r s := by
    rw [bytesArrive_frame hq hx hg hlen, frameArrives_accepts _ ha, htaken, asRequest, asEvent_powered ha.1, harrives]
  exact congrArg _ ((if_pos ha.1).trans hbytes)

end Sys2Proof.Machine
end

section
namespace Sys2Proof.Machine

/-! ### The start with a failing image (R201, R202) -/

theorem passing_eq_none {α : Type} {check : α → Byte} {c : StoredCopy α} (h : ∀ v b, c = .written v b → check v ≠ b) :
    c.passing check = none := by
  cases c with
  | neverWritten => rfl
  | cutOff => rfl
  | written v b => exact if_neg (h v b rfl)

/-- With no write in progress a loss of power leaves the store as it is (R200). -/
theorem losePower_store {s : State} (hw : s.store.write = none) : (losePower s).store = s.store := by
  simp [losePower, Store.cutOff, hw]

/-- The first report of a start begins to be sent, and a second one waits behind it (R194, R201). -/
theorem startedLink_sends_first (v : Settings) (r r' : Report) :
    (((startedLink v).push r).push r').choose =
      { startedLink v with
        transmitter := .sendingReport { lostBefore := false, report := r }
        reports := [{ lostBefore := false, report := r' }] } := rfl

/-- The default line settings (R182, R197). -/
theorem defaults_line : Settings.defaults.line = { rate := 38400, parity := .none } := rfl

theorem loaded_defaults {st : Store} (h : st.image.passing Settings.checkByte = none) :
    st.loaded = Settings.defaults := by
  rw [Store.loaded, h, Option.getD_none]

/-- RESTARTED of a start whose image fails says so (R201). -/
theorem restartedReport_failing {st : Store} (why : StartCause) (h : st.image.passing Settings.checkByte = none) :
    ∃ pc pv bc bv, restartedReport why st = .restarted why false pc pv bc bv := by
  rw [restartedReport, h]
  exact ⟨_, _, _, _, rfl⟩

/-- A start whose image fails: every block at its start values under the defaults, RESTARTED sent and SETTINGS_STATE
behind it (R201). -/
theorem endEvent_startPart_failing (why : StartCause) (x : StartInputs) {s : State}
    (h : s.store.image.passing Settings.checkByte = none) :
    endEvent (startPart why x s) = { startedBlocks x s with
      link := { startedLink Settings.defaults with
        transmitter := .sendingReport { lostBefore := false, report := restartedReport why s.store }
        reports := [{ lostBefore := false, report := .settingsState }] } } := by
  have hstart : startPart why x s =
      report .settingsState (report (restartedReport why s.store) (startedBlocks x s)) := by
    simp [startPart, h]
  have hlink : (startedBlocks x s).link = startedLink Settings.defaults := congrArg startedLink (loaded_defaults h)
  simp only [hstart, endEvent, report, hlink, startedLink_sends_first]

/-- Settles O6: a power-on and the restart due are the same start, whose image holds no values. -/
theorem startWithFailingImage : Obligations.StartWithFailingImage := by
  intro s x hw hfails
  have himage : s.store.image.passing Settings.checkByte = none := passing_eq_none hfails
  refine ⟨?_, fun hp hdue => ?_⟩
  · have hstore : (losePower s).store = s.store := losePower_store hw
    have himage' : (losePower s).store.image.passing Settings.checkByte = none := by rw [hstore, himage]
    obtain ⟨pc, pv, bc, bv, hreport⟩ := restartedReport_failing .powerOn himage'
    refine ⟨_, congrArg Host.Outcome.next (endEvent_startPart_failing .powerOn x himage'), loaded_defaults himage',
      (congrArg Store.image hstore :), defaults_line, ⟨pc, pv, bc, bv, ?_⟩, rfl⟩
    rw [hreport]
  · have hrestart : exec (.restartCarriedOut x) s = .next (endEvent (startPart .request x s)) := by
      refine congrArg _ ((asEvent_powered hp).trans ?_)
      rw [restartHappens, if_pos hdue]
    obtain ⟨pc, pv, bc, bv, hreport⟩ := restartedReport_failing .request himage
    refine ⟨_, hrestart.trans (congrArg _ (endEvent_startPart_failing .request x himage)), loaded_defaults himage, rfl,
      rfl, rfl, rfl, rfl, rfl, defaults_line, ⟨pc, pv, bc, bv, ?_⟩, rfl⟩
    rw [hreport]

end Sys2Proof.Machine
end

section
namespace Sys2Proof.Machine

/-! ### A step by its queue (section 6.5) -/

theorem step_of_pending_cons {s : State} {c : Instr} {rest : List Instr} (h : s.pending = c :: rest) :
    step s = exec c { s with pending := rest } := by
  rw [step, h]

theorem step_of_pending_nil {s : State} (h : s.pending = []) : step s = .next (idle s) := by
  rw [step, h]

theorem idle_powered {s : State} (h : s.powered = true) : idle s = elapseMs s := if_pos h

theorem idle_unpowered {s : State} (h : s.powered = false) : idle s = s := by
  rw [idle, h, if_neg Bool.false_ne_true]

/-- Settles O1: the state in the statement has `c` at the front and `rest` behind it. -/
theorem stepTakesFront : Obligations.StepTakesFront := fun _ _ _ => step_of_pending_cons rfl

/-- Settles O2: powered, the idle step is `elapseMs`, in which every timer but the card slot's is written out as in the
statement; the slot's hold timer runs in HELD alone (R114, R115). -/
theorem idleStepIsOneMillisecond : Obligations.IdleStepIsOneMillisecond := by
  intro s hempty
  dsimp only
  rw [step_of_pending_nil hempty]
  refine ⟨fun hon => ?_, fun hoff => congrArg _ (idle_unpowered hoff)⟩
  rw [idle_powered hon, elapseMs]
  cases s.reader.slot with
  | empty => rfl
  | held d m t => rfl
  | attached d m => rfl
  | released x m => rfl

/-! ### The state after reset, block by block -/

theorem reset_channel (ch : ChannelId) : State.reset.channel ch = Channel.blank := by
  cases ch with
  | platter => rfl
  | bag => rfl

/-- Settles O3: both channels are blank, and each further block of the state after reset is at its start values. -/
theorem resetHoldsStartValues : Obligations.ResetHoldsStartValues := by
  refine ⟨fun ch => ?channel, rfl, ?scale, ?sale, ?monitor, ?reader, ?tone, ?jobs, ?engine, ?link⟩
  case channel =>
    rw [reset_channel ch]
    exact ⟨rfl, rfl, rfl, rfl, rfl, rfl⟩
  case scale => exact ⟨rfl, rfl, rfl⟩
  case sale => exact ⟨rfl, rfl, rfl⟩
  case monitor => exact ⟨rfl, rfl, rfl, rfl, rfl, rfl⟩
  case reader => exact ⟨rfl, rfl, rfl, rfl, rfl, rfl⟩
  case tone => exact ⟨rfl, rfl, rfl, rfl⟩
  case jobs => exact ⟨rfl, rfl⟩
  case engine => exact ⟨rfl, rfl, rfl, rfl, rfl, rfl, rfl, rfl, rfl, rfl⟩
  case link => exact ⟨rfl, rfl, rfl, rfl, rfl, rfl, rfl⟩

end Sys2Proof.Machine
end
